-- ==== Sys2Proof/Word.lean ====
section
/-! DEFINITION. The plainest quantities of the model: bytes, moments of time, saturating counters. -/

namespace Sys2Proof

/-- One byte of a port's traffic (chapter 12). -/
abbrev Byte := BitVec 8

/-! Moments and durations are `Nat`s in units of 1/48 µs: the bit time of a panel line (R173). A chain bit time (R72)
is two of them, a microsecond forty-eight (log 1). -/

/-- `n` microseconds, as a moment or a duration. -/
abbrev us (n : Nat) : Nat := 48 * n

/-- `n` milliseconds, as a moment or a duration. -/
abbrev ms (n : Nat) : Nat := 48000 * n

/-- One increment of a 16-bit saturating counter (R188). -/
def sat16 (n : Nat) : Nat := min (n + 1) 65535

/-- The quotient rounded up (0.6.2). -/
def ceilDiv (a b : Nat) : Nat := (a + b - 1) / b

end Sys2Proof
end

