-- ==== Sys2Proof/Syntax.lean ====
section
/-! DEFINITION. The commands and events of the CB-5184: one constructor of `Instr` for each row of
spec/opcode_table.json, with the operands its rule names.

A command that arrives from outside carries the moment `t` at which it is taken; an event whose moment the
part's own state fixes carries none (logs 1 and 2). Operands that a rule tests for range are natural numbers;
operands whose field expresses only legal values are bit vectors of that field's width. -/

namespace Sys2Proof

/-- FLOOR or CEILING (R17). -/
inductive WindowKind where
  | floor | ceiling
  deriving DecidableEq, Repr

/-- The picture link profile (R164). -/
inductive Profile where
  | sparse | dense
  deriving DecidableEq, Repr

/-- The probe's mode (R22). -/
inductive ProbeMode where
  | once | every
  deriving DecidableEq, Repr

/-- Why an incoming panel message was discarded, in the order of R175's tests. -/
inductive DiscardReason where
  | cutShort | wrongCrc | badKindOrLength | badField
  deriving DecidableEq, Repr

/-- A rectangle, both corners included (0.6.3). -/
structure Rect where
  col0 : Nat
  row0 : Nat
  col1 : Nat
  row1 : Nat
  deriving DecidableEq, Repr

/-- The fields of a WINDOW as received (R18). -/
structure WindowFields where
  number : Nat
  kind : WindowKind
  rect : Rect
  level : Nat
  lifetime : Nat
  deriving DecidableEq, Repr

/-- The five thermal parameters as SET THERMAL carries them (R154). -/
structure ThermalParams where
  a : Int
  m : Int
  tStart : Int
  tStop : Int
  hMin : Nat
  deriving DecidableEq, Repr

/-- The commands and events of the part, one constructor for each row of the table. -/
inductive Instr where
  -- Starting points and system configuration (chapters 1, 3, 8, 9, 11)
  | powerOn (t : Nat)
  | setGrid (t : Nat) (cols rows : Nat)
  | setChain (t : Nat) (chain drivers weight : Nat) (sensor : Option Nat)
  | mapZone (t : Nat) (zone chain position channel : Nat)
  | unmapZone (t : Nat) (zone : Nat)
  | setGroups (t : Nat) (groups : Nat) (offsets : List Nat) (lead : Nat)
  | setProfile (t : Nat) (profile : Profile)
  | setPower (t : Nat) (budget : BitVec 16)
  | setEasing (t : Nat) (rise fall : BitVec 16)
  | setService (t : Nat) (pollUs holdMs : Nat)
  | setThermal (t : Nat) (params : ThermalParams)
  | setTimebase (t : Nat) (freePeriod : Nat)
  | followSync (t : Nat)
  | freeRun (t : Nat)
  | loadGains (t : Nat) (start : Nat) (gains : List Nat)
  | setOverride (t : Nat) (zone level : Nat)
  | clearOverride (t : Nat) (zone : Nat)
  | clearFault (t : Nat) (zone : Nat)
  | clearWindows (t : Nat)
  | start (t : Nat)
  | stop (t : Nat)
  | restartChain (t : Nat) (chain : Nat)
  | driverTrim (t : Nat) (chain address code : Nat)
  | driverIdent (t : Nat) (chain address : Nat)
  | systemBlank (t : Nat) (on : Bool)
  | takeReport (t : Nat)
  | readSnapshot (t : Nat) (buffer generation : Nat)
  | probe (t : Nat) (zone : Nat) (mode : ProbeMode)
  | readProbe (t : Nat)
  | readZone (t : Nat) (zone : Nat)
  | readCounters (t : Nat)
  | readState (t : Nat)
  | softRestart (t : Nat)
  | unknownCommandWrite (t : Nat) (bytes : List Byte)
  -- Picture port (chapter 9)
  | responseCapture (t : Nat)
  | run12 (t : Nat) (start : Nat) (values : List (BitVec 12))
  | run8 (t : Nat) (start : Nat) (values : List (BitVec 8))
  | fine4 (t : Nat) (start : Nat) (values : List (BitVec 4))
  | nudge (t : Nat) (rect : Rect) (delta : BitVec 8)
  | close (t : Nat) (tag : BitVec 8) (sceneCut : Bool)
  | pictureWindow (t : Nat) (window : WindowFields)
  | pictureUnwindow (t : Nat) (number : Nat)
  | pictureBlank (t : Nat) (on : Bool)
  | status (t : Nat)
  | malformedMessage (t : Nat) (bytes : List Byte) (extraBits : Nat)
  -- Panel port (chapters 3 and 10)
  | hold (t : Nat) (maxFrames : BitVec 8)
  | resume (t : Nat)
  | panelWindow (t : Nat) (window : WindowFields)
  | panelUnwindow (t : Nat) (number : Nat)
  | panelBlank (t : Nat) (on : Bool)
  | messageDiscarded (t : Nat) (reason : DiscardReason)
  | outgoingMessageEnd
  -- Timebase (chapter 3)
  | fsyncEdge (t : Nat)
  | generatedFrameStart
  | holdoverEntry
  | holdExpired
  | problemFrames (chain : Nat)
  -- Frame pass (chapter 2) and schedule (chapter 3)
  | compositionEnd
  | limitingEnd
  | emissionBlock
  | commitPoint (group : Nat)
  | latchPoint (group : Nat)
  -- Chain link, engine and enumeration (chapters 4, 5, 6)
  | frameBoundary (chain : Nat)
  | echoEnd (t : Nat) (chain : Nat) (bits : List Bool)
  | echoOverdue (chain : Nat)
  | loopLost (t : Nat) (chain : Nat)
  | attemptBegin (chain : Nat)
  | runningTimerExpiry (chain : Nat)
  | pollTick (chain : Nat)
  -- Thermal unit (chapter 8) and report unit (chapter 7)
  | conversionComplete (code : BitVec 10)
  | snapshotHoldExpiry (buffer : Nat)
  | echoBegin (t : Nat) (chain : Nat)
  deriving DecidableEq, Repr

/-- The moment a command carries; none for an event whose moment the state fixes. -/
def Instr.arrival : Instr → Option Nat
  | .powerOn t | .setGrid t _ _ | .setChain t _ _ _ _ | .mapZone t _ _ _ _ | .unmapZone t _
  | .setGroups t _ _ _ | .setProfile t _ | .setPower t _ | .setEasing t _ _ | .setService t _ _
  | .setThermal t _ | .setTimebase t _ | .followSync t | .freeRun t | .loadGains t _ _
  | .setOverride t _ _ | .clearOverride t _ | .clearFault t _ | .clearWindows t | .start t
  | .stop t | .restartChain t _ | .driverTrim t _ _ _ | .driverIdent t _ _ | .systemBlank t _
  | .takeReport t | .readSnapshot t _ _ | .probe t _ _ | .readProbe t | .readZone t _
  | .readCounters t | .readState t | .softRestart t | .unknownCommandWrite t _
  | .responseCapture t | .run12 t _ _ | .run8 t _ _ | .fine4 t _ _ | .nudge t _ _ | .close t _ _
  | .pictureWindow t _ | .pictureUnwindow t _ | .pictureBlank t _ | .status t
  | .malformedMessage t _ _ | .hold t _ | .resume t | .panelWindow t _ | .panelUnwindow t _
  | .panelBlank t _ | .messageDiscarded t _ | .fsyncEdge t | .echoEnd t _ _ | .loopLost t _
  | .echoBegin t _ => some t
  | .outgoingMessageEnd | .generatedFrameStart | .holdoverEntry | .holdExpired | .problemFrames _
  | .compositionEnd | .limitingEnd | .emissionBlock | .commitPoint _ | .latchPoint _
  | .frameBoundary _ | .echoOverdue _ | .attemptBegin _ | .runningTimerExpiry _ | .pollTick _
  | .conversionComplete _ | .snapshotHoldExpiry _ => none

end Sys2Proof
end

