-- ==== Sys2Proof/Decode.lean ====
section
/-! DEFINITION. The commands that the table's bits spell. The table gives bits to no row, since the commands of this
block arrive over ports with formats of their own (Machine/PictureFormat.lean, PanelFormat.lean, SystemFormat.lean). -/

namespace Sys2Proof

/-- The command that a word of the table spells: none, for no row of the table has bits. -/
def decodeTableWord (_nbits _w : Nat) : Option Instr := none

end Sys2Proof
end

