-- ==== Sys2Proof/Config.lean ====
section
/-! DEFINITION. What the spec leaves open about the CB-5184, as constants without a body. -/

namespace Sys2Proof

/-- FREE VALUE (log 5). R57 holds the measured period p in whole microseconds and does not say how a spacing
that is not whole is rounded. For such a spacing, in 1/48 µs, this says whether p is the microsecond above it. -/
opaque Config.periodRoundsUp : Nat → Bool

/-- FREE VALUE (log 36). R173 has idle before an end symbol cut a message short, and R191 has idle be data bits 0, so a
receiver knows it by their number, which no rule states. This is how many more of them than the longest message has bits
it takes. -/
opaque Config.panelIdleRun : Nat

end Sys2Proof
end

