-- ==== Sys2Proof/Machine/State.lean ====
section
/-! DEFINITION. The state of the CB-5184 as plain data, block by block (Table 1-1), and its value after
power-on. Times are moments in 1/48 µs; parameters the spec gives in µs or ms keep that unit. -/

namespace Sys2Proof.Machine

/-! ## Zone table, request store, window list, probe (chapter 1) -/

/-- A driver channel: (chain, driver position, channel) (R4). -/
structure Channel where
  chain : Nat
  position : Nat
  channel : Nat
  deriving DecidableEq, Repr

/-- The fault field of a zone record (R4, R9). -/
inductive ZoneFault where
  | none | open | short | missing
  deriving DecidableEq, Repr

/-- A zone record (Table 1-7). `relit` is the model's bookkeeping for R120 and R137: the zone has returned to service
since the latest pass began, and eases from 0 in the next (log 34). -/
structure Zone where
  channel : Option Channel
  gain : Nat
  override : Option Nat
  fault : ZoneFault
  eased : Nat
  shown : Nat
  relit : Bool
  deriving DecidableEq, Repr

/-- The power-on value of a zone record (Table 1-7), and its value after a change of grid (R2). -/
def Zone.fresh : Zone := ⟨none, 1024, none, .none, 0, 0, false⟩

/-- Why a zone is DARK (Table 1-8). -/
inductive DarkReason where
  | chain | blank
  deriving DecidableEq, Repr

/-- The derived state of a zone (R11). -/
inductive ZoneState where
  | unmapped | faulted | dark (reason : DarkReason) | lit
  deriving DecidableEq, Repr

/-- The grid (R1). -/
structure Grid where
  cols : Nat
  rows : Nat
  deriving DecidableEq, Repr

/-- The zone count N (R1). -/
def Grid.count (g : Grid) : Nat := g.cols * g.rows

/-- A request set with its frame tag and scene-cut flag (R13). -/
structure RequestSet where
  levels : List Nat
  tag : Nat
  sceneCut : Bool
  deriving DecidableEq, Repr

/-- The request store (R13). -/
structure RequestStore where
  openSet : List Nat
  slot : Option RequestSet
  current : RequestSet
  deriving DecidableEq, Repr

/-- The owner of a window record (R17). -/
inductive WindowOwner where
  | picture | panel
  deriving DecidableEq, Repr

/-- A window record (Table 1-9). `inSample` is the model's bookkeeping for R20: the record stands as it was
sampled by the latest pass to begin (log 18). -/
structure Window where
  owner : WindowOwner
  number : Nat
  kind : WindowKind
  rect : Rect
  level : Nat
  lifetime : Nat
  inSample : Bool
  deriving DecidableEq, Repr

/-- A probe record (Table 1-10). -/
structure ProbeRecord where
  counter : Nat
  lr : Nat
  lb : Nat
  le : Nat
  dc : Nat
  dt : Nat
  dl : Nat
  lm : Nat
  state : ZoneState
  factor : Option Nat
  scale : Nat
  deriving DecidableEq, Repr

/-- The probe (R22). -/
structure Probe where
  zone : Nat
  mode : ProbeMode
  armed : Bool
  record : Option ProbeRecord
  deriving DecidableEq, Repr

/-! ## Blank control (chapter 6) -/

/-- The three blank claims (R126). -/
structure Claims where
  picture : Bool
  panel : Bool
  system : Bool
  deriving DecidableEq, Repr

/-- Any blank claim is set (Table 1-8, R127). -/
def Claims.any (c : Claims) : Bool := c.picture || c.panel || c.system

/-! ## The frame pass engine (chapter 2) -/

/-- The engine's state (R26). -/
inductive PassPhase where
  | idle | composing | limiting | emitting
  deriving DecidableEq, Repr

/-- One zone as sampled at the frame start, with the state derived from the sample (R28, R11). -/
structure SampledZone where
  state : ZoneState
  channel : Option Channel
  gain : Nat
  override : Option Nat
  deriving DecidableEq, Repr

/-- One chain as sampled at the frame start: RUNNING or not, its weight, its applied derate factor, and the
groups it carries, bit k for group k (R28). -/
structure SampledChain where
  running : Bool
  weight : Nat
  factor : Nat
  carries : BitVec 8
  deriving DecidableEq, Repr

/-- The inputs a pass samples (Table 2-2). The request levels themselves stay in the current set, which no
event changes between frame starts at which a pass begins (R13). -/
structure Sample where
  start : Nat
  counter : Nat
  taken : Bool
  tag : Nat
  sceneCut : Bool
  entryMark : Bool
  zones : List SampledZone
  windows : List Window
  rise : Nat
  fall : Nat
  budget : Nat
  chains : List SampledChain
  claimed : Bool
  deriving DecidableEq, Repr

/-- No pass has begun (log 28). -/
def Sample.none : Sample :=
  ⟨0, 0, false, 0, false, false, [], [], 4095, 4095, 65535, [], false⟩

/-- The composed values of one zone kept in the working store (R31). -/
structure Composed where
  lb : Nat
  le : Nat
  dc : Nat
  dt : Nat
  deriving DecidableEq, Repr

/-- The frame pass engine (R26, R30, R34, R38, R42). -/
structure PassEngine where
  phase : PassPhase
  sample : Sample
  work : List Composed
  power : Nat
  blocks : Nat
  scale : Nat
  entryMark : Bool
  emitted : List Bool
  buffer : List Nat
  rise : Nat
  fall : Nat
  budget : Nat
  deriving DecidableEq, Repr

/-! ## Timebase and latch schedule (chapter 3) -/

/-- The timebase state (Table 3-1). -/
inductive TimebaseState where
  | free | acquire | locked | holdover
  deriving DecidableEq, Repr

/-- The timebase (Table 3-1). `freePeriod`, `heldPeriod` and `period` are in µs. `heldPeriod` is the free period
held at the last frame start (R54). -/
structure Timebase where
  state : TimebaseState
  freePeriod : Nat
  heldPeriod : Nat
  period : Option Nat
  lastStart : Nat
  lastEdge : Option Nat
  freeRun : Bool
  pendingStart : Option Nat
  counter : Nat
  deriving DecidableEq, Repr

/-- The outcome of a commit point for one chain (R64); `notCarried` for a chain that carries no zone of the group. -/
inductive CommitOutcome where
  | notCarried | absent | committed | late
  deriving DecidableEq, Repr

/-- The points of one group of the current frame (R63), whether each was reached, and the outcome per chain. -/
structure GroupPoint where
  commitAt : Nat
  latchAt : Nat
  reached : Bool
  latched : Bool
  outcomes : List CommitOutcome
  deriving DecidableEq, Repr

/-- The HOLD state (R70). -/
inductive HoldState where
  | none | pending | inForce
  deriving DecidableEq, Repr

/-- The latch schedule (R3, R62, R63, R70). -/
structure Schedule where
  groups : Nat
  offsets : List Nat
  lead : Nat
  points : List (Option GroupPoint)
  hold : HoldState
  holdCount : Nat
  holdMax : Nat
  resumeMark : Bool
  deriving DecidableEq, Repr

/-! ## Chain engines (chapters 4, 5, 6) -/

/-- A POLL reply (R79). -/
structure PollReply where
  openMask : BitVec 16
  shortMask : BitVec 16
  hot : Bool
  supplyLow : Bool
  damagedFrames : Nat
  deriving DecidableEq, Repr

/-- A mirror record (Table 5-1). -/
structure Mirror where
  assigned : Bool
  group : Option Nat
  shadow : List Nat
  known : Bool
  trim : Nat
  openCand : BitVec 16
  shortCand : BitVec 16
  hot : Bool
  supplyLow : Bool
  replies : List PollReply
  lastPoll : Nat
  deriving DecidableEq, Repr

/-- The power-on value of a mirror record (R93). -/
def Mirror.powerOn : Mirror :=
  ⟨false, none, List.replicate 16 0, false, 128, 0, 0, false, false, [], 0⟩

/-- A record made unassigned, its trim kept (R93, R94). -/
def Mirror.unassign (m : Mirror) : Mirror := { Mirror.powerOn with trim := m.trim }

/-- An entry of the staging queue (R97). -/
structure StageEntry where
  address : Nat
  first : Nat
  duties : List Nat
  group : Nat
  frame : Nat
  retry : Bool
  deriving DecidableEq, Repr

/-- A request of the LATCH source (R104). -/
structure LatchRequest where
  mask : BitVec 8
  retry : Bool
  deriving DecidableEq, Repr

/-- What a DIRECT command asks of its driver (R111). -/
inductive DirectKind where
  | trim (code : Nat) | ident
  deriving DecidableEq, Repr

/-- The request of the DIRECT source (R104). -/
structure DirectRequest where
  address : Nat
  kind : DirectKind
  age : Nat
  retry : Bool
  deriving DecidableEq, Repr

/-- The request of the POLL source (R104). -/
structure PollRequest where
  address : Nat
  age : Nat
  retry : Bool
  deriving DecidableEq, Repr

/-- A frame as the part sends it: its kind with the fields Table 4-1 gives. A STAGE keeps the group and frame
counter of its staging entry (4.3). -/
inductive Sent where
  | stage (entry : StageEntry)
  | latch (mask : BitVec 8)
  | poll (address : Nat)
  | direct (address : Nat) (kind : DirectKind)
  | assign (address : Nat) (group : Option Nat)
  | clear
  deriving DecidableEq, Repr

/-- A frame in flight (4.3). `begun` is set once its echo has begun (R89). -/
structure InFlight where
  sent : Sent
  tag : Nat
  lastBit : Nat
  retry : Bool
  begun : Bool
  deriving DecidableEq, Repr

/-- The frame last put on the outgoing line, with its tag (R73). -/
structure OutFrame where
  sent : Sent
  tag : Nat
  deriving DecidableEq, Repr

/-- The settle record of one group (R98). -/
structure Settle where
  handed : Bool
  count : Nat
  givenUp : Bool
  deriving DecidableEq, Repr

/-- A cleared settle record (R98). -/
def Settle.clear : Settle := ⟨false, 0, false⟩

/-- The state of a chain (Table 6-1). -/
inductive ChainState where
  | unused | stopped | enumerating | running | recovering | failed
  deriving DecidableEq, Repr

/-- The cause of a failed attempt or of an entry to RECOVERING or FAILED (R119, R121, R122). -/
inductive Cause where
  | linkDamage | notTaken | echoMismatch | echoOverdue | loopLost | problemFrames
  deriving DecidableEq, Repr

/-- An enumeration attempt in progress (R117, R118): the CLEAR is out, or `count` drivers were counted and the
ASSIGN for `address` is out. -/
inductive Attempt where
  | clearing | assigning (count address : Nat)
  deriving DecidableEq, Repr

/-- One chain engine, with the chain's configuration, its latched mark, derate factor and counters. `resend` is the CLEAR
or ASSIGN of an attempt that waits for a frame boundary to be sent again (R87, R100). `out` is the frame last put on the
outgoing line and `before` those that were put there ahead of it and still on the line then, newest first (R72, R74). -/
structure Chain where
  state : ChainState
  drivers : Nat
  weight : Nat
  sensor : Option Nat
  count : Nat
  attempts : Nat
  cause : Option Cause
  wait : Option Nat
  attempt : Option Attempt
  resend : Option Sent
  announce : Bool
  watchFrom : Nat
  runDue : Option Nat
  leftFrame : Bool
  mirror : List Mirror
  staging : List StageEntry
  inflight : List InFlight
  latchSource : List LatchRequest
  direct : Option DirectRequest
  poll : Option PollRequest
  settle : List Settle
  problem : Bool
  problemCount : Nat
  pollPointer : Nat
  pollDue : Option Nat
  sentCount : Nat
  lineFree : Nat
  out : Option OutFrame
  before : List OutFrame
  latched : Bool
  applied : Nat
  damaged : Nat
  late : Nat
  recoveries : Nat
  deriving DecidableEq, Repr

/-- The power-on value of a chain (R30, R93, R113, R130, R155, R158). -/
def Chain.powerOn : Chain where
  state := .unused
  drivers := 0
  weight := 128
  sensor := none
  count := 0
  attempts := 0
  cause := none
  wait := none
  attempt := none
  resend := none
  announce := false
  watchFrom := 0
  runDue := none
  leftFrame := false
  mirror := List.replicate 48 Mirror.powerOn
  staging := []
  inflight := []
  latchSource := []
  direct := none
  poll := none
  settle := List.replicate 8 Settle.clear
  problem := false
  problemCount := 0
  pollPointer := 0
  pollDue := none
  sentCount := 0
  lineFree := 0
  out := none
  before := []
  latched := false
  applied := 256
  damaged := 0
  late := 0
  recoveries := 0

/-! ## Report unit (chapter 7) -/

/-- The event code of a report entry (Table 7-5, Table 12-7). -/
inductive ReportEvent where
  | channelFault | open | short | statusCheck | driverHot | supplyLow | latchShortfall | missingDrivers
  | unmappedDrivers | chain (cause : Cause) | chainRestored | syncLost | syncRestored | overrun
  | holdExpired | messageDiscarded | sensorFault | pictureTruncated | pictureRange | pictureFull
  | pictureWrongProfile | pictureSequence | pictureIncomplete | pictureMalformed
  deriving DecidableEq, Repr

/-- The source kind and id of a report entry (Tables 7-2, 7-3). -/
inductive ReportSource where
  | picturePort | panelPort | zone (index : Nat) | driver (chain position : Nat)
  | chain (chain field : Nat) | sensor (index : Nat) | timebase | pass
  deriving DecidableEq, Repr

/-- The recovery state of a report entry (Table 7-2). -/
inductive RecoveryState where
  | active | degraded | recovered | failed
  deriving DecidableEq, Repr

/-- A snapshot tag: buffer and generation (R146). -/
structure SnapTag where
  buffer : Nat
  generation : Nat
  deriving DecidableEq, Repr

/-- A report entry (Table 7-2). -/
structure ReportEntry where
  source : ReportSource
  event : ReportEvent
  recovery : RecoveryState
  chained : Bool
  overflow : Bool
  tag : Option SnapTag
  counter : Nat
  deriving DecidableEq, Repr

/-- A snapshot (R146). -/
structure Snapshot where
  chain : Nat
  position : Nat
  counter : Nat
  record : Mirror
  damaged : Nat
  late : Nat
  recoveries : Nat
  deriving DecidableEq, Repr

/-- A snapshot buffer (R146): held while `expires` names the moment its hold timer runs out. -/
structure SnapBuffer where
  expires : Option Nat
  generation : Nat
  content : Option Snapshot
  deriving DecidableEq, Repr

/-- The report unit (R141, R144, R146, R147). `holdTime` is in ms. -/
structure ReportUnit where
  queue : List ReportEntry
  alert : Bool
  armed : Bool
  buffers : List SnapBuffer
  holdTime : Nat
  deriving DecidableEq, Repr

/-! ## Thermal unit (chapter 8) -/

/-- One sensor (R151 to R153). `temperature` is as last formed. -/
structure Sensor where
  discard : Bool
  codes : List Nat
  fault : Bool
  temperature : Option Int
  deriving DecidableEq, Repr

/-- The thermal unit (Table 8-1). `done` counts the conversions completed since the sequencer started. -/
structure Thermal where
  converting : Bool
  startedAt : Nat
  done : Nat
  sensors : List Sensor
  params : ThermalParams
  deriving DecidableEq, Repr

/-! ## The three ports (chapters 9, 10, 11) -/

/-- The result of a picture message (R161). -/
inductive PictureResult where
  | done | truncated | range | full | wrongProfile | sequence | incomplete | malformed
  deriving DecidableEq, Repr

/-- The response captured at chip-select assertion (R162). -/
structure PictureResponse where
  result : PictureResult
  slotFull : Bool
  pointer : Nat
  counter : Nat
  deriving DecidableEq, Repr

/-- The picture port (R162, R164, R172). -/
structure PicturePort where
  result : PictureResult
  profile : Profile
  pointer : Nat
  errorMark : Bool
  captured : Option PictureResponse
  deriving DecidableEq, Repr

/-- A light section (R66). -/
structure LightSection where
  group : Nat
  counter : Nat
  tag : Nat
  lateMask : BitVec 8
  firstRow : Nat
  rowCount : Nat
  cols : Nat
  values : List Nat
  deriving DecidableEq, Repr

/-- The reason of a WINDOW REFUSED notice (R173). -/
inductive RefusalReason where
  | range | full
  deriving DecidableEq, Repr

/-- A WINDOW REFUSED notice (R178). -/
structure WindowNotice where
  number : Nat
  reason : RefusalReason
  deriving DecidableEq, Repr

/-- An outgoing panel message (R173). -/
inductive PanelMessage where
  | holdEnded
  | refused (notice : WindowNotice)
  | lightSection (body : LightSection)
  deriving DecidableEq, Repr

/-- The message on the outgoing panel line and the moment its end symbol has been sent (R173). -/
structure PanelSending where
  message : PanelMessage
  ends : Nat
  deriving DecidableEq, Repr

/-- The panel port (R177 to R179). -/
structure PanelPort where
  sections : List LightSection
  notices : List WindowNotice
  holdEnded : Bool
  sending : Option PanelSending
  deriving DecidableEq, Repr

/-- The operating state of the part (Table 1-4). -/
inductive PartState where
  | config | starting | running
  deriving DecidableEq, Repr

/-- The system commands (Table 12-5). -/
inductive SysCommand where
  | setGrid | setChain | mapZone | unmapZone | setGroups | setProfile | setPower | setEasing | setService
  | setThermal | setTimebase | followSync | freeRun | loadGains | setOverride | clearOverride | clearFault
  | clearWindows | start | stop | restartChain | driverTrim | driverIdent | blank | takeReport
  | readSnapshot | probe | readProbe | readZone | readCounters | readState | softRestart
  deriving DecidableEq, Repr

/-- The result codes of the system port (12.4). -/
inductive SysResult where
  | done | empty | busy | wrongState | range | clamped | conflict | stale | inconsistent | linkError
  deriving DecidableEq, Repr

/-- The counters of the part that no chain owns (Table 11-2). -/
structure Counters where
  stale : Nat
  overtaken : Nat
  overruns : Nat
  runts : Nat
  reportsLost : Nat
  sectionsDropped : Nat
  panelDiscarded : Nat
  pictureErrors : Nat
  deriving DecidableEq, Repr

/-- Every counter 0 (R188). -/
def Counters.zero : Counters := ⟨0, 0, 0, 0, 0, 0, 0, 0⟩

/-- The counters of one chain (Table 11-2). -/
structure ChainCounters where
  damaged : Nat
  late : Nat
  recoveries : Nat
  deriving DecidableEq, Repr

/-- The items READ STATE returns for a chain (Table 11-3). -/
structure ChainReport where
  state : ChainState
  drivers : Nat
  count : Nat
  attempts : Nat
  cause : Option Cause
  blankAsserted : Bool
  weight : Nat
  sensor : Option Nat
  target : Nat
  applied : Nat
  deriving DecidableEq, Repr

/-- The items READ STATE returns for a sensor (Table 11-3). -/
structure SensorReport where
  average : Option Nat
  temperature : Option Int
  fault : Bool
  deriving DecidableEq, Repr

/-- The contents of READ STATE (Table 11-3), in the table's order. -/
structure StateReport where
  part : PartState
  grid : Grid
  groups : Nat
  offsets : List Nat
  lead : Nat
  profile : Profile
  budget : Nat
  rise : Nat
  fall : Nat
  pollInterval : Nat
  holdTime : Nat
  phase : PassPhase
  scale : Nat
  slotFull : Bool
  tag : Nat
  sceneCut : Bool
  timebase : TimebaseState
  freePeriod : Nat
  period : Option Nat
  freeRun : Bool
  counter : Nat
  hold : HoldState
  holdCount : Nat
  holdMax : Nat
  chains : List ChainReport
  claims : Claims
  converting : Bool
  params : ThermalParams
  sensors : List SensorReport
  windows : List Window
  entries : Nat
  alert : Bool
  armed : Bool
  deriving DecidableEq, Repr

/-- The data a system command returns (R180). -/
inductive ResponseData where
  | none
  | entry (e : ReportEntry)
  | snapshot (x : Snapshot)
  | probe (zone : Nat) (mode : ProbeMode) (armed : Bool) (record : Option ProbeRecord)
  | zone (record : Zone) (state : ZoneState)
  | counters (part : Counters) (chains : List ChainCounters)
  | state (r : StateReport)
  | ident (kind revision channels : Nat)
  deriving DecidableEq, Repr

/-- The response buffer (R180). `waitsFor` is the chain whose DIRECT result will be written into it. -/
structure Response where
  ready : Bool
  command : Option SysCommand
  result : Option SysResult
  data : ResponseData
  waitsFor : Option Nat
  deriving DecidableEq, Repr

/-- The system port and the part's operating state (R180, R109). `pollInterval` is in µs. -/
structure SystemPort where
  part : PartState
  response : Response
  pollInterval : Nat
  deriving DecidableEq, Repr

/-! ## The whole state -/

/-- The state of the CB-5184, and the queue of commands waiting to be taken, oldest first. -/
structure State where
  now : Nat
  grid : Grid
  zones : List Zone
  request : RequestStore
  windows : List Window
  probe : Probe
  pass : PassEngine
  timebase : Timebase
  schedule : Schedule
  chains : List Chain
  claims : Claims
  reports : ReportUnit
  thermal : Thermal
  picture : PicturePort
  panel : PanelPort
  system : SystemPort
  counters : Counters
  pending : List Instr
  deriving DecidableEq, Repr

/-- Reasons for the part to stop. There is none: the spec describes no condition that stops it, so nothing
raises a fault, and the type is empty (safe: no run is cut short by it). -/
inductive Fault where
  deriving DecidableEq, Repr

/-- Reasons for the model to refuse a command. -/
inductive Refusal where
  /-- A command with no meaning yet, named as the table spells it. Raised only by an arm of `exec`, and by none
  now. Safe: nothing is claimed of the command. -/
  | notModelled (mnemonic : String)
  deriving DecidableEq, Repr

/-- The request store with N levels of 0, the slot empty (R2, R16). -/
def RequestStore.fresh (n : Nat) : RequestStore :=
  ⟨List.replicate n 0, none, ⟨List.replicate n 0, 0, false⟩⟩

/-- The probe disarmed and empty (R22). -/
def Probe.fresh : Probe := ⟨0, .once, false, none⟩

/-- A sensor after power-on and soft restart (R159). -/
def Sensor.fresh : Sensor := ⟨false, [], false, none⟩

/-- A snapshot buffer after power-on and soft restart (R149). -/
def SnapBuffer.fresh : SnapBuffer := ⟨none, 0, none⟩

/-- The part when power-on ends at moment `t`, with `queue` waiting (R187): every item at its power-on value,
the first frame start one free period later (R53). -/
def State.powered (t : Nat) (queue : List Instr) : State where
  now := t
  grid := ⟨0, 0⟩
  zones := []
  request := RequestStore.fresh 0
  windows := []
  probe := Probe.fresh
  pass :=
    { phase := .idle, sample := Sample.none, work := [], power := 0, blocks := 0, scale := 65536
      entryMark := false, emitted := List.replicate 8 false, buffer := [], rise := 4095, fall := 4095
      budget := 65535 }
  timebase :=
    { state := .free, freePeriod := 16667, heldPeriod := 16667, period := none, lastStart := t
      lastEdge := none, freeRun := false, pendingStart := some (t + us 16667), counter := 0 }
  schedule :=
    { groups := 1, offsets := List.replicate 8 0, lead := 800, points := List.replicate 8 none
      hold := .none, holdCount := 0, holdMax := 1, resumeMark := false }
  chains := List.replicate 8 Chain.powerOn
  claims := ⟨false, false, false⟩
  reports :=
    { queue := [], alert := false, armed := true, buffers := List.replicate 4 SnapBuffer.fresh
      holdTime := 2000 }
  thermal :=
    { converting := false, startedAt := 0, done := 0, sensors := List.replicate 8 Sensor.fresh
      params := ⟨100, -160, 70, 95, 128⟩ }
  picture := ⟨.done, .sparse, 0, false, none⟩
  panel := ⟨[], [], false, none⟩
  system := ⟨.config, ⟨true, none, some .done, .none, none⟩, 2000⟩
  counters := Counters.zero
  pending := queue

/-- The machine right after reset: power-on with nothing waiting (R187). -/
def State.reset : State := State.powered 0 []

end Sys2Proof.Machine
end

