-- ==== Sys2Proof/Machine/Ops.lean ====
section
/-! DEFINITION. The operations the meanings share: time, the chain engines and mirror tables by number, the
response buffer, the report unit, the outgoing panel line. -/

namespace Sys2Proof.Machine

/-! ## Time -/

/-- A command taken at moment `t`, or an event due at `t`: time does not run backwards (log 1). -/
def State.arrive (s : State) (t : Nat) : State := { s with now := max s.now t }

/-! ## Chains and mirror records by number -/

/-- The engine of chain `c`. -/
def State.chain (s : State) (c : Nat) : Chain := s.chains.getD c Chain.powerOn

/-- Change chain `c` alone; a number that is no chain's changes none. -/
def State.updChain (s : State) (c : Nat) (f : Chain → Chain) : State :=
  { s with chains := s.chains.modify c f }

/-- Change every chain. -/
def State.mapChains (s : State) (f : Chain → Chain) : State := { s with chains := s.chains.map f }

/-- The mirror record of an address (R93). -/
def Chain.record (ch : Chain) (a : Nat) : Mirror := ch.mirror.getD a Mirror.powerOn

/-- Change the mirror record of an address. -/
def Chain.updRecord (ch : Chain) (a : Nat) (f : Mirror → Mirror) : Chain :=
  { ch with mirror := ch.mirror.modify a f }

/-- The settle record of a group (R98). -/
def Chain.settleOf (ch : Chain) (k : Nat) : Settle := ch.settle.getD k Settle.clear

/-- Change the settle record of a group. -/
def Chain.updSettle (ch : Chain) (k : Nat) (f : Settle → Settle) : Chain :=
  { ch with settle := ch.settle.modify k f }

/-- Mark every assigned record whose group is in the mask as unknown (R87, R91, R94). -/
def Chain.forgetGroups (ch : Chain) (mask : BitVec 8) : Chain :=
  { ch with mirror := ch.mirror.map fun m =>
      match m.group with
      | some g => if m.assigned && mask.getLsbD g then { m with known := false } else m
      | none => m }

/-- The number of assigned records whose group is in the mask: the expected latch count (R91). -/
def Chain.expectedLatches (ch : Chain) (mask : BitVec 8) : Nat :=
  ch.mirror.countP fun m =>
    match m.group with
    | some g => m.assigned && mask.getLsbD g
    | none => false

/-! ## Zone records by index -/

/-- The record of a zone index. -/
def State.zone (s : State) (i : Nat) : Zone := s.zones.getD i Zone.fresh

/-- Change the record of one zone. -/
def State.updZone (s : State) (i : Nat) (f : Zone → Zone) : State :=
  { s with zones := s.zones.modify i f }

/-- The index of the zone that holds a driver channel, if one does (R5). -/
def findZone (zones : List Zone) (x : Channel) : Option Nat :=
  zones.findIdx? fun z => decide (z.channel = some x)

/-! ## The response buffer (R180) -/

/-- A command writes its result at the moment it is taken, the ready mark set. -/
def State.respond (s : State) (cmd : Option SysCommand) (r : SysResult) (d : ResponseData) : State :=
  { s with system := { s.system with response := ⟨true, cmd, some r, d, none⟩ } }

/-- A command answers a result code with no data. -/
def State.answer (s : State) (cmd : SysCommand) (r : SysResult) : State := s.respond (some cmd) r .none

/-- An accepted DIRECT command of chain `c` writes the buffer with the ready mark clear and no result. -/
def State.respondPending (s : State) (cmd : SysCommand) (c : Nat) : State :=
  { s with system := { s.system with response := ⟨false, some cmd, none, .none, some c⟩ } }

/-- The result of the DIRECT command of chain `c` is fixed: the buffer takes it if no later command has
replaced the buffer (R112, R180). -/
def State.fixDirect (s : State) (c : Nat) (r : SysResult) (d : ResponseData) : State :=
  if s.system.response.waitsFor = some c then
    s.respond s.system.response.command r d
  else s

/-! ## The report unit (R141 to R146) -/

/-- An entry as the block that makes it fills it, with the present frame counter. -/
def State.entry (s : State) (source : ReportSource) (event : ReportEvent) (recovery : RecoveryState) :
    ReportEntry :=
  ⟨source, event, recovery, false, false, none, s.timebase.counter⟩

/-- The chained and overflow flags of a report's entries as they are queued: chained set on each but the last,
overflow clear on all (R142). -/
def linkEntries : List ReportEntry → List ReportEntry
  | [] => []
  | [e] => [{ e with chained := false, overflow := false }]
  | e :: f :: rest => { e with chained := true, overflow := false } :: linkEntries (f :: rest)

/-- There is room for a whole report of `n` entries (R142). -/
def ReportUnit.hasRoom (r : ReportUnit) (n : Nat) : Bool := decide (r.queue.length + n ≤ 32)

/-- A report with room: its entries join the tail, and an armed ALERT is asserted (R142, R144). -/
def ReportUnit.accept (r : ReportUnit) (es : List ReportEntry) : ReportUnit :=
  { r with queue := r.queue ++ linkEntries es, alert := r.alert || r.armed, armed := false }

/-- A report without room: the newest entry takes the overflow flag (R142). -/
def ReportUnit.lose (r : ReportUnit) : ReportUnit :=
  { r with queue := r.queue.modify (r.queue.length - 1) fun e => { e with overflow := true } }

/-- A report is queued whole or lost whole (R142). -/
def State.queueReport (s : State) (es : List ReportEntry) : State :=
  if s.reports.hasRoom es.length then
    { s with reports := s.reports.accept es }
  else
    { s with
      reports := s.reports.lose
      counters := { s.counters with reportsLost := sat16 s.counters.reportsLost } }

/-- The copy a capture makes of a driver's state (R146). -/
def State.snapshotOf (s : State) (c position : Nat) : Snapshot :=
  let ch := s.chain c
  ⟨c, position, s.timebase.counter, ch.record position, ch.damaged, ch.late, ch.recoveries⟩

/-- Capture into one buffer: generation up by one modulo 16, content replaced, held for the hold time (R146). -/
def SnapBuffer.fill (b : SnapBuffer) (expires : Nat) (x : Snapshot) : SnapBuffer :=
  ⟨some expires, (b.generation + 1) % 16, some x⟩

/-- A capture takes the lowest-numbered free buffer and gives its tag; with none free it makes none (R146). -/
def State.capture (s : State) (c position : Nat) : State × Option SnapTag :=
  match s.reports.buffers.findIdx? fun b => b.expires.isNone with
  | none => (s, none)
  | some i =>
    let b := (s.reports.buffers.getD i SnapBuffer.fresh).fill (s.now + ms s.reports.holdTime)
      (s.snapshotOf c position)
    ({ s with reports := { s.reports with buffers := s.reports.buffers.set i b } },
      some ⟨i, b.generation⟩)

/-- The tag stands in a report's first entry only (Table 7-2). -/
def tagFirst (tag : Option SnapTag) : List ReportEntry → List ReportEntry
  | [] => []
  | e :: rest => { e with tag := tag } :: rest

/-- A report that asks for a snapshot of a driver. `carry` is the tag that an earlier queued report of the same
reply captured, once one was queued (R136, R142, R146). A lost report captures nothing. -/
def State.queueSnapReport (s : State) (c position : Nat) (carry : Option (Option SnapTag))
    (es : List ReportEntry) : State × Option (Option SnapTag) :=
  if s.reports.hasRoom es.length then
    match carry with
    | some tag => (s.queueReport (tagFirst tag es), some tag)
    | none =>
      let shot := s.capture c position
      (shot.1.queueReport (tagFirst shot.2 es), some shot.2)
  else (s.queueReport es, carry)

/-! ## Counters (R188) -/

/-- Change the counters that no chain owns. -/
def State.count (s : State) (f : Counters → Counters) : State := { s with counters := f s.counters }

/-! ## The outgoing panel line (R173, R177 to R179) -/

/-- The bytes of a panel message from its kind byte to its last field byte (Table 12-4). -/
def PanelMessage.byteCount : PanelMessage → Nat
  | .holdEnded => 4
  | .refused _ => 4
  | .lightSection b => 9 + ceilDiv (12 * b.values.length) 8

/-- The time a panel message takes: the start and end symbols of eight bit times, its bytes and its CRC, at
48 Mbit/s (R173, 12.3). -/
def PanelMessage.duration (m : PanelMessage) : Nat := 16 + 8 * (m.byteCount + 2)

/-- What the port begins next at a message boundary: a HOLD ENDED notice, else the oldest WINDOW REFUSED
notice, else the oldest section (R179). -/
def PanelPort.next (p : PanelPort) : Option (PanelMessage × PanelPort) :=
  if p.holdEnded then some (.holdEnded, { p with holdEnded := false })
  else match p.notices with
    | n :: rest => some (.refused n, { p with notices := rest })
    | [] => match p.sections with
      | b :: rest => some (.lightSection b, { p with sections := rest })
      | [] => none

/-- If the outgoing line is idle, begin what waits (R179). -/
def PanelPort.serve (p : PanelPort) (now : Nat) : PanelPort :=
  match p.sending with
  | some _ => p
  | none => match p.next with
    | none => p
    | some (m, q) => { q with sending := some ⟨m, now + m.duration⟩ }

/-- The panel port serves its outgoing line. -/
def State.servePanel (s : State) : State := { s with panel := s.panel.serve s.now }

/-- A section joins the tail of the section queue; a full queue first drops its oldest (R177). -/
def State.queueSection (s : State) (b : LightSection) : State :=
  (if s.panel.sections.length < 8 then
    { s with panel := { s.panel with sections := s.panel.sections ++ [b] } }
  else
    { s with
      panel := { s.panel with sections := s.panel.sections.drop 1 ++ [b] }
      counters := { s.counters with sectionsDropped := sat16 s.counters.sectionsDropped } }).servePanel

/-- A WINDOW REFUSED notice joins the tail of the notice list; a full list loses it (R178). -/
def State.placeNotice (s : State) (n : WindowNotice) : State :=
  (if s.panel.notices.length < 8 then
    { s with panel := { s.panel with notices := s.panel.notices ++ [n] } }
  else s).servePanel

/-- The HOLD ENDED mark is set (R178). -/
def State.markHoldEnded (s : State) : State :=
  { s with panel := { s.panel with holdEnded := true } }.servePanel

end Sys2Proof.Machine
end

