-- ==== Sys2Proof/Machine/Blank.lean ====
section
/-! DEFINITION. The blank claims (6.4): SYSTEM_BLANK. The picture and panel claims move by the same operation in
Picture.lean and Panel.lean. -/

namespace Sys2Proof.Machine

/-- The claims take new values. Where a claim that was set is cleared, the latched mark of every chain is cleared
with it (R126 to R128). -/
def State.moveClaims (s : State) (claims : Claims) (cleared : Bool) : State :=
  { s with
    claims := claims
    chains := if cleared then s.chains.map fun ch => { ch with latched := false } else s.chains }

/-- SYSTEM_BLANK: BLANK(on) or BLANK(off) of the system port (R126, R128). -/
def execSystemBlank (t : Nat) (on : Bool) (s : State) : Host.Outcome State Fault Refusal :=
  let s1 := s.arrive t
  .next ((s1.moveClaims { s1.claims with system := on } (s1.claims.system && !on)).answer .blank .done)

end Sys2Proof.Machine
end

