-- ==== Sys2Proof/Machine/Flags.lean ====
section
/-! DEFINITION. What the spec derives from the state at every moment: zone states, groups of rows, the BLANK
lines, hot marks, code averages and target derate factors. -/

namespace Sys2Proof.Machine

/-! ## Groups of rows (R3) -/

/-- The group of row `r`: floor(r × G / rows). -/
def rowGroup (groups rows r : Nat) : Nat := r * groups / rows

/-- The row of a zone index (0.6.3). -/
def Grid.row (g : Grid) (i : Nat) : Nat := i / g.cols

/-- The column of a zone index (0.6.3). -/
def Grid.col (g : Grid) (i : Nat) : Nat := i % g.cols

/-- The group of a zone: the group of its row. -/
def Grid.zoneGroup (g : Grid) (groups i : Nat) : Nat := rowGroup groups g.rows (g.row i)

/-- The rows that belong to group `k`, in order. -/
def Grid.rowsOf (g : Grid) (groups k : Nat) : List Nat :=
  (List.range g.rows).filter fun r => rowGroup groups g.rows r = k

/-- The number of zones in groups 0..k: one more than the highest index among them. -/
def Grid.zonesThrough (g : Grid) (groups k : Nat) : Nat :=
  ((List.range g.rows).countP fun r => rowGroup groups g.rows r ≤ k) * g.cols

/-- The groups, as a mask, that have a zone mapped to driver `position` of chain `c` satisfying the rest. -/
def carriedMask (g : Grid) (groups c : Nat) (channels : List (Option Channel)) : BitVec 8 :=
  (channels.zipIdx.foldl fun (m : BitVec 8) x =>
    match x.1 with
    | some y => if y.chain = c then m ||| (1#8 <<< g.zoneGroup groups x.2) else m
    | none => m) 0

/-- The group of the zones mapped to a driver position: that of the first such zone, none if there is none
(R3, Table 6-3). -/
def driverGroup (g : Grid) (groups : Nat) (zones : List Zone) (c position : Nat) : Option Nat :=
  (zones.findIdx? fun z =>
    match z.channel with
    | some y => y.chain = c && y.position = position
    | none => false).map (g.zoneGroup groups)

/-! ## Zone states (R11) -/

/-- The state of a zone from its channel, its fault, whether its chain is RUNNING, and whether any claim is set
(Table 1-8). -/
def deriveState (channel : Option Channel) (fault : ZoneFault) (running claimed : Bool) : ZoneState :=
  if channel.isNone then .unmapped
  else if fault ≠ .none then .faulted
  else if ¬ running then .dark .chain
  else if claimed then .dark .blank
  else .lit

/-- Chain `c` is RUNNING. -/
def State.running (s : State) (c : Nat) : Bool := decide ((s.chain c).state = .running)

/-- The state of a zone record by the chain states and claims held now (R11). -/
def State.zoneState (s : State) (z : Zone) : ZoneState :=
  deriveState z.channel z.fault
    (match z.channel with | some x => s.running x.chain | none => false) s.claims.any

/-! ## The BLANK lines (R127) -/

/-- The BLANK line of a chain is asserted while the chain is not RUNNING, any claim is set, or its latched mark
is clear. -/
def blankLine (ch : Chain) (claims : Claims) : Bool :=
  ch.state ≠ .running || claims.any || !ch.latched

/-- The BLANK line of chain `c`. -/
def State.blankAsserted (s : State) (c : Nat) : Bool := blankLine (s.chain c) s.claims

/-! ## Thermal (R138, R151, R153, R156, R157) -/

/-- The fault monitor's hot mark of a chain (R138). -/
def Chain.hotMark (ch : Chain) : Bool := ch.mirror.any fun m => m.assigned && m.hot

/-- A sensor's code average: absent while its list is empty (R151). -/
def Sensor.average (x : Sensor) : Option Nat :=
  if x.codes.isEmpty then none else some (x.codes.sum / x.codes.length)

/-- The temperature of a code average: A + floor(average × M / 4096) (R153). -/
def temperatureOf (p : ThermalParams) (average : Nat) : Int := p.a + (average * p.m) / 4096

/-- The temperature the target derivation uses: none without a valid sample, T_stop for a faulty sensor (R153). -/
def Sensor.used (x : Sensor) (p : ThermalParams) : Option Int :=
  if x.codes.isEmpty then none else if x.fault then some p.tStop else x.temperature

/-- The derate curve at temperature `t` (R156). -/
def derateCurve (p : ThermalParams) (t : Int) : Nat :=
  if t ≤ p.tStart then 256
  else if p.tStop ≤ t then p.hMin
  else 256 - ((256 - p.hMin) * (t - p.tStart).toNat) / (p.tStop - p.tStart).toNat

/-- The target before the cap (R156). -/
def Thermal.curveTarget (th : Thermal) (sensor : Option Nat) : Nat :=
  match sensor with
  | none => 256
  | some i =>
    match (th.sensors.getD i Sensor.fresh).used th.params with
    | none => th.params.hMin
    | some t => derateCurve th.params t

/-- The target derate factor of a chain: capped at 128 while its hot mark is set (R157). -/
def targetFactor (th : Thermal) (ch : Chain) : Nat :=
  if ch.hotMark then min (th.curveTarget ch.sensor) 128 else th.curveTarget ch.sensor

/-- One move of an applied factor toward its target (R158). -/
def slew (applied target : Nat) : Nat :=
  if applied < target then min (applied + 8) target
  else max (applied - 8) target

end Sys2Proof.Machine
end

