-- ==== Sys2Proof/Machine/Operands.lean ====
section
/-! DEFINITION. The operand forms of commands and messages: rectangles, windows, runs of levels, gains, and the
checks of START. -/

namespace Sys2Proof.Machine

/-! ## Rectangles (R1, R18, R168) -/

/-- The corners are in order, as given. -/
def rectOrdered (r : Rect) : Bool := decide (r.col0 ≤ r.col1) && decide (r.row0 ≤ r.row1)

/-- Each coordinate clamped to the last column or row. -/
def clampRect (g : Grid) (r : Rect) : Rect :=
  ⟨min r.col0 (g.cols - 1), min r.row0 (g.rows - 1), min r.col1 (g.cols - 1), min r.row1 (g.rows - 1)⟩

/-- The rectangle names the zone at (col, row). -/
def rectCovers (r : Rect) (col row : Nat) : Bool :=
  decide (r.col0 ≤ col) && decide (col ≤ r.col1) && decide (r.row0 ≤ row) && decide (row ≤ r.row1)

/-- The rectangle names the zone of an index. -/
def rectHolds (g : Grid) (r : Rect) (i : Nat) : Bool := rectCovers r (g.col i) (g.row i)

/-! ## Windows (R17 to R20) -/

/-- The key of a record (R17). -/
def windowKey (owner : WindowOwner) (number : Nat) (w : Window) : Bool :=
  decide (w.owner = owner) && decide (w.number = number)

/-- The checks of R18 and the list that results: `error` for a refusal. -/
def placeWindow (g : Grid) (owner : WindowOwner) (w : WindowFields) (ws : List Window) :
    Except RefusalReason (List Window) :=
  if g.count = 0 then .error .range
  else if 7 < w.number ∨ 4095 < w.level ∨ 4095 < w.lifetime then .error .range
  else if !rectOrdered w.rect then .error .range
  else
    let fresh : Window := ⟨owner, w.number, w.kind, clampRect g w.rect, w.level, w.lifetime, false⟩
    if ws.any (windowKey owner w.number) then
      .ok (ws.map fun x => if windowKey owner w.number x then fresh else x)
    else if ws.length < 16 then .ok (ws ++ [fresh])
    else .error .full

/-- The record with the key removed, later records closing up (R19). -/
def removeWindow (owner : WindowOwner) (number : Nat) (ws : List Window) : List Window :=
  ws.filter fun x => !windowKey owner number x

/-- The list as sampled at a frame start (R20). -/
def markSampled (ws : List Window) : List Window := ws.map fun w => { w with inSample := true }

/-- One record at the end of composition: a sampled record with a lifetime above 0 is counted down, and removed
at 0 (R20). -/
def countWindow (w : Window) : Option Window :=
  if w.inSample && decide (0 < w.lifetime) then
    if w.lifetime = 1 then none else some { w with lifetime := w.lifetime - 1 }
  else some w

/-- The countdown of the window list at the end of composition (R20). -/
def countdownWindows (ws : List Window) : List Window := ws.filterMap countWindow

/-! ## Level writes (R165 to R168) -/

/-- Write consecutive levels from a start index, each by its own change; those beyond the last zone are
discarded (R165). -/
def writeRun (levels : List Nat) (start : Nat) : List (Nat → Nat) → List Nat
  | [] => levels
  | f :: rest => writeRun (levels.modify start f) (start + 1) rest

/-- The level after a RUN12 value (R166). -/
def run12Level (v : BitVec 12) (_ : Nat) : Nat := v.toNat

/-- The level after a RUN8 value (R166). -/
def run8Level (v : BitVec 8) (_ : Nat) : Nat := v.toNat * 16

/-- The level after a FINE4 value: the upper eight bits as before (R166, R167). -/
def fine4Level (v : BitVec 4) (old : Nat) : Nat := old / 16 * 16 + v.toNat

/-- A level plus a signed delta, held to 0..4095 (R168). -/
def nudgeLevel (delta : BitVec 8) (old : Nat) : Nat := (max 0 (min ((old : Int) + delta.toInt) 4095)).toNat

/-- The open set after a NUDGE over a clamped rectangle (R168). -/
def nudgeLevels (g : Grid) (r : Rect) (delta : BitVec 8) (levels : List Nat) : List Nat :=
  levels.mapIdx fun i l => if rectHolds g r i then nudgeLevel delta l else l

/-! ## Gains and weights (R7, R181) -/

/-- A gain as stored: 512..1535 (R7). -/
def clampGain (x : Nat) : Nat := max 512 (min x 1535)

/-- The gains of consecutive zones as LOAD GAINS stores them (R7). -/
def storeGains (zones : List Zone) (start : Nat) : List Nat → List Zone
  | [] => zones
  | x :: rest => storeGains (zones.modify start fun z => { z with gain := clampGain x }) (start + 1) rest

/-- A chain weight as stored: 1..255 (R181). -/
def clampWeight (w : Nat) : Nat := max 1 (min w 255)

/-! ## The checks of START (R184) -/

/-- A mapped zone's position is below its chain's configured driver count. -/
def positionServed (s : State) (z : Zone) : Bool :=
  match z.channel with
  | some x => decide (x.position < (s.chain x.chain).drivers)
  | none => true

/-- The zone's driver position holds zones of its group only. -/
def groupAgrees (s : State) (z : Zone) (i : Nat) : Bool :=
  match z.channel with
  | some x => decide (driverGroup s.grid s.schedule.groups s.zones x.chain x.position
      = some (s.grid.zoneGroup s.schedule.groups i))
  | none => true

/-- The conditions under which START is accepted in CONFIG (R184). -/
def startConsistent (s : State) : Bool :=
  decide (1 ≤ s.grid.count) && s.zones.any (fun z => z.channel.isSome) && s.zones.all (positionServed s)
    && s.zones.zipIdx.all fun x => groupAgrees s x.1 x.2

end Sys2Proof.Machine
end

