-- ==== Sys2Proof/Machine/Link.lean ====
section
/-! DEFINITION. The chain link and its arbiter: frame lengths, sending, the four sources, and what an engine
discards when its chain leaves RUNNING (chapters 4 and 5). -/

namespace Sys2Proof.Machine

/-! ## Frames (R73, R74) -/

/-- The length of a frame in bits, its start symbol included (Table 4-2). -/
def Sent.bits : Sent → Nat
  | .stage e => 48 + 12 * e.duties.length
  | .latch _ => 64
  | .poll _ => 96
  | .direct _ (.trim _) => 64
  | .direct _ .ident => 80
  | .assign _ _ => 64
  | .clear => 64

/-- Put a frame on the outgoing line, at the end of what the line still sends, with the next sequence tag (R73,
R74). Eight bit times of idle follow it. A frame under way is sent to its end first, also one that its engine has
discarded (log 33). -/
def Chain.transmit (ch : Chain) (now : Nat) (x : Sent) : Chain :=
  { ch with
    sentCount := ch.sentCount + 1
    lineFree := max now ch.lineFree + 2 * x.bits + 16
    out := some ⟨x, ch.sentCount % 4⟩
    before := if ch.lineFree ≤ now then [] else ch.out.toList ++ ch.before }

/-- Send a frame whose echo will be checked: it joins the list of frames in flight (R85, R100). -/
def Chain.send (ch : Chain) (now : Nat) (x : Sent) (retry : Bool) : Chain :=
  { ch.transmit now x with
    inflight := ch.inflight ++ [⟨x, ch.sentCount % 4, max now ch.lineFree + 2 * x.bits, retry, false⟩] }

/-! ## The arbiter (R102, R104, R105) -/

/-- A STAGE to the address is in flight (R102). -/
def Chain.stageInFlight (ch : Chain) (a : Nat) : Bool :=
  ch.inflight.any fun f =>
    match f.sent with
    | .stage e => decide (e.address = a)
    | _ => false

/-- The first STAGE in queue order that R102 does not hold, and the queue without it. -/
def takeStage (held : Nat → Bool) : List StageEntry → Option (StageEntry × List StageEntry)
  | [] => none
  | e :: rest =>
    if held e.address then (takeStage held rest).map fun x => (x.1, e :: x.2)
    else some (e, rest)

/-- The DIRECT or POLL request that goes first, and the engine without it: the older, the DIRECT where the ages
are equal (R104). -/
def Chain.takeAged (ch : Chain) : Option (Sent × Bool × Chain) :=
  match ch.direct, ch.poll with
  | some d, some p =>
    if p.age ≤ d.age then some (.direct d.address d.kind, d.retry, { ch with direct := none })
    else some (.poll p.address, p.retry, { ch with poll := none })
  | some d, none => some (.direct d.address d.kind, d.retry, { ch with direct := none })
  | none, some p => some (.poll p.address, p.retry, { ch with poll := none })
  | none, none => none

/-- A DIRECT or POLL request has reached age 16 (R104). -/
def Chain.aged (ch : Chain) : Bool :=
  (match ch.direct with | some d => decide (16 ≤ d.age) | none => false) ||
  (match ch.poll with | some p => decide (16 ≤ p.age) | none => false)

/-- A grant to the STAGE source ages each waiting DIRECT and POLL request, up to 16 (R105). -/
def Chain.ageWaiting (ch : Chain) : Chain :=
  { ch with
    direct := ch.direct.map fun d => { d with age := min (d.age + 1) 16 }
    poll := ch.poll.map fun p => { p with age := min (p.age + 1) 16 } }

/-- The request the arbiter grants and the engine without it, in R104's order: a LATCH; a DIRECT or POLL of age
16; a STAGE that R102 does not hold; a DIRECT or POLL. -/
def Chain.pick (ch : Chain) : Option (Sent × Bool × Chain) :=
  match ch.latchSource with
  | l :: rest => some (.latch l.mask, l.retry, { ch with latchSource := rest })
  | [] =>
    if ch.aged then ch.takeAged
    else match takeStage ch.stageInFlight ch.staging with
      | some (e, rest) => some (.stage e, e.retry, { ch with staging := rest }.ageWaiting)
      | none => ch.takeAged

/-- The request that goes at a frame boundary and the engine without it: of a RUNNING chain the one its arbiter grants
(R104), of any other the frame of its attempt that waits to be sent again (R106). -/
def Chain.pickNext (ch : Chain) : Option (Sent × Bool × Chain) :=
  if ch.state = .running then ch.pick else ch.resend.map fun x => (x, true, { ch with resend := none })

/-- The engine at a frame boundary: with the line past its trailing idle and fewer than four frames in flight, one
frame is sent (R100, R104). -/
def Chain.serve (ch : Chain) (now : Nat) : Chain :=
  if ch.lineFree ≤ now ∧ ch.inflight.length < 4 then
    match ch.pickNext with
    | some (x, retry, rest) => rest.send now x retry
    | none => ch
  else ch

/-- The arbiter of chain `c`. -/
def State.serve (s : State) (c : Nat) : State := s.updChain c fun ch => ch.serve s.now

/-- The arbiters of all chains. -/
def State.serveAll (s : State) : State := s.mapChains fun ch => ch.serve s.now

/-! ## Sources (R101, R104) -/

/-- A LATCH placed by the schedule joins the tail of the LATCH source (R104). -/
def Chain.placeLatch (ch : Chain) (mask : BitVec 8) : Chain :=
  { ch with latchSource := ch.latchSource ++ [⟨mask, false⟩] }

/-- Insert behind the leading retries and ahead of the rest (R97, R104). -/
def insertRetry {α : Type} (isRetry : α → Bool) (x : α) (l : List α) : List α :=
  l.takeWhile isRetry ++ x :: l.dropWhile isRetry

/-- The retry of a damaged frame joins its own source (R101); a CLEAR or ASSIGN waits for the next frame boundary, and
joins the list of frames in flight as it is sent again (R87, R100). A POLL retry occupies its source alone: whatever
waited there, a tick's POLL or the retry of another one, is dropped (log 12). -/
def Chain.requeue (ch : Chain) (x : Sent) : Chain :=
  match x with
  | .stage e =>
    { ch with staging := insertRetry (fun y : StageEntry => y.retry) { e with retry := true } ch.staging }
  | .latch m =>
    { ch with latchSource := insertRetry (fun y : LatchRequest => y.retry) ⟨m, true⟩ ch.latchSource }
  | .poll a => { ch with poll := some ⟨a, 16, true⟩ }
  | .direct a k => { ch with direct := some ⟨a, k, 16, true⟩ }
  | .assign a g => { ch with resend := some (.assign a g) }
  | .clear => { ch with resend := some .clear }

/-- A DIRECT command of the chain is outstanding: its request waits or its frame is in flight (R111). -/
def Chain.directOutstanding (ch : Chain) : Bool :=
  ch.direct.isSome || ch.inflight.any fun f =>
    match f.sent with
    | .direct _ _ => true
    | _ => false

/-! ## Leaving RUNNING (R113) -/

/-- Every mirror record becomes unassigned, its trim kept (R93, R94). -/
def Chain.unassignAll (ch : Chain) : Chain := { ch with mirror := ch.mirror.map Mirror.unassign }

/-- What an engine discards when its chain leaves RUNNING (R113), with its latched mark (R127) and running timer
(R122). The chain's departure is remembered until the next frame start (R64). The outgoing line finishes the frame it is
sending (log 33). -/
def Chain.discard (ch : Chain) : Chain :=
  { ch with
    inflight := []
    resend := none
    staging := []
    latchSource := []
    direct := none
    poll := none
    settle := List.replicate 8 Settle.clear
    problem := false
    problemCount := 0
    pollDue := none
    runDue := none
    latched := false
    leftFrame := ch.leftFrame || decide (ch.state = .running) }

/-- An outstanding DIRECT command of the chain is answered LINK ERROR (R112). -/
def State.dropDirect (s : State) (c : Nat) : State :=
  if (s.chain c).directOutstanding then s.fixDirect c .linkError .none else s

end Sys2Proof.Machine
end

