-- ==== Sys2Proof/Machine/Enumeration.lean ====
section
/-! DEFINITION. Chain states, enumeration attempts, recovery and failure, RUNNING_TIMER_EXPIRY, ATTEMPT_BEGIN
and RESTART_CHAIN (chapter 6). -/

namespace Sys2Proof.Machine

/-! ## Reports of a chain (R120 to R122) -/

/-- Queue a CHAIN report of one entry. -/
def State.chainReport (s : State) (c field : Nat) (event : ReportEvent) (recovery : RecoveryState) : State :=
  s.queueReport [s.entry (.chain c field) event recovery]

/-! ## Failure (R119, R121, R122) -/

/-- Entry into FAILED: the mirror unassigned (R123, log 13), and the report with recovery state FAILED (R122). -/
def State.enterFailed (s : State) (c : Nat) (cause : Cause) : State :=
  (s.updChain c fun ch =>
    { ch.unassignAll with state := .failed, wait := none, attempt := none }).chainReport c 0 (.chain cause) .failed

/-- The discards at an entry to RECOVERING, its count and its cause (R113, R121, R94). -/
def Chain.enterRecovering (ch : Chain) (cause : Cause) : Chain :=
  { ch.discard.unassignAll with
    state := .recovering
    recoveries := sat16 ch.recoveries
    cause := some cause
    attempt := none
    announce := true }

/-- A RUNNING chain enters RECOVERING, or FAILED at once when its attempt count is 3 (R121). -/
def State.recover (s : State) (c : Nat) (cause : Cause) : State :=
  let s1 := (s.dropDirect c).updChain c fun ch => ch.enterRecovering cause
  if (s.chain c).attempts < 3 then
    (s1.updChain c fun ch => { ch with wait := some (s.now + ms 1) }).chainReport c 0 (.chain cause) .degraded
  else s1.enterFailed c cause

/-- An attempt fails: another follows after a fresh wait, or the chain goes to FAILED (R119, R122). -/
def State.failAttempt (s : State) (c : Nat) (cause : Cause) : State :=
  let s1 := s.updChain c fun ch => { ch with inflight := [], attempt := none, resend := none, cause := some cause }
  if (s.chain c).attempts < 3 then s1.updChain c fun ch => { ch with wait := some (s.now + ms 1) }
  else s1.enterFailed c cause

/-- A mismatch, an overdue echo or a lost loop: a RUNNING chain recovers, an attempt fails, and in any other
state nothing happens (R88, R89, R90, R85). -/
def State.linkFailure (s : State) (c : Nat) (cause : Cause) : State :=
  if (s.chain c).state = .running then s.recover c cause
  else if (s.chain c).attempt.isSome then s.failAttempt c cause
  else s

/-! ## Attempts (R116 to R118, R120) -/

/-- The fault MISSING of every zone mapped to a chain becomes NONE (R9, R117). -/
def clearMissing (c : Nat) (z : Zone) : Zone :=
  match z.channel with
  | some x => if x.chain = c ∧ z.fault = .missing then { z with fault := .none } else z
  | none => z

/-- A zone mapped to the chain at a position `count`..`drivers` − 1 has its fault set to MISSING (R120), one that was
OPEN or SHORT too (log 30). -/
def setMissing (c count drivers : Nat) (z : Zone) : Zone :=
  match z.channel with
  | some x =>
    if x.chain = c ∧ count ≤ x.position ∧ x.position < drivers then { z with fault := .missing } else z
  | none => z

/-- A zone mapped to a chain that enters RUNNING is to ease from 0 (R120, log 34). -/
def relight (c : Nat) (z : Zone) : Zone :=
  match z.channel with
  | some x => if x.chain = c then { z with relit := true } else z
  | none => z

/-- The group an ASSIGN carries for an address (Table 6-3). -/
def State.assignGroup (s : State) (c a : Nat) : Option Nat :=
  if a < (s.chain c).drivers then driverGroup s.grid s.schedule.groups s.zones c a else none

/-- A chain as it enters RUNNING (R120, Table 5-2). -/
def Chain.enterRunning (ch : Chain) (now : Nat) (pollInterval count : Nat) : Chain :=
  { ch with
    state := .running
    count := count
    wait := none
    attempt := none
    staging := []
    latchSource := []
    direct := none
    poll := none
    settle := List.replicate 8 Settle.clear
    problem := false
    problemCount := 0
    pollPointer := 0
    pollDue := some (now + us pollInterval)
    runDue := some (now + ms 10000)
    latched := false }

/-- The comparison of the counted drivers with the configured count at a success: MISSING faults and the
report (R120). -/
def State.compareDrivers (s : State) (c count : Nat) : State :=
  let d := (s.chain c).drivers
  if count < d then
    { s with zones := s.zones.map (setMissing c count d) }.chainReport c (d - count) .missingDrivers .active
  else if d < count then s.chainReport c (count - d) .unmappedDrivers .active
  else s

/-- An attempt succeeds and the chain enters RUNNING, its zones to ease from 0 in the next pass to begin (R120, R121). -/
def State.succeed (s : State) (c count : Nat) : State :=
  let s1 := (s.compareDrivers c count).updChain c fun ch =>
    ch.enterRunning s.now s.system.pollInterval count
  let s2 := { s1 with zones := s1.zones.map (relight c) }
  if (s.chain c).announce then s2.chainReport c 0 .chainRestored .recovered else s2

/-- The ASSIGN for address `a` of `count` counted drivers is sent, or, when none is left, the attempt succeeds
(R117, R118, R120). -/
def State.continueAttempt (s : State) (c count a : Nat) : State :=
  if a < min count 48 then
    s.updChain c fun ch =>
      { ch.send s.now (.assign a (s.assignGroup c a)) false with attempt := some (.assigning count a) }
  else s.succeed c count

/-- A chain as an attempt begins: count up, sent-frame count 0, watch started, CLEAR sent (R117). -/
def Chain.beginAttempt (ch : Chain) (now : Nat) : Chain :=
  { { ch with sentCount := 0 }.send now .clear false with
    attempts := ch.attempts + 1
    wait := none
    attempt := some .clearing
    watchFrom := now }

/-- A chain put into ENUMERATING with its attempt count at 0 and its settle wait begun (R116, R124, R131). -/
def Chain.beginEnumeration (ch : Chain) (now : Nat) (announce : Bool) : Chain :=
  { ch.discard.unassignAll with
    state := .enumerating
    attempts := 0
    wait := some (now + ms 1)
    attempt := none
    announce := announce }

/-- A chain taken to STOPPED by STOP or soft restart: everything in progress abandoned, one CLEAR sent whose
echo is not awaited, the poll pointer back at 0 (R125, Table 5-2). An UNUSED chain is untouched. -/
def Chain.halt (ch : Chain) (now : Nat) : Chain :=
  if ch.drivers = 0 then ch
  else
    { ch.discard.unassignAll with
      state := .stopped
      attempts := 0
      wait := none
      attempt := none
      pollPointer := 0 }.transmit now .clear

/-! ## Meanings -/

/-- ATTEMPT_BEGIN: the 1 ms wait of a chain ends and an attempt begins (R117). Without a wait, nothing. -/
def execAttemptBegin (c : Nat) (s : State) : Host.Outcome State Fault Refusal :=
  match (s.chain c).wait with
  | none => .next s
  | some w =>
    let s1 := s.arrive w
    .next ({ s1 with zones := s1.zones.map (clearMissing c) }.updChain c fun ch => ch.beginAttempt s1.now)

/-- RUNNING_TIMER_EXPIRY: a chain RUNNING for 10 s has its attempt count set to 0 (R122). -/
def execRunningTimerExpiry (c : Nat) (s : State) : Host.Outcome State Fault Refusal :=
  match (s.chain c).runDue with
  | none => .next s
  | some w => .next ((s.arrive w).updChain c fun ch => { ch with attempts := 0, runDue := none })

/-- RESTART_CHAIN: a fresh enumeration of one chain (R124, R131). Its response replaces the buffer whatever a
DIRECT command was waiting for (R180). -/
def execRestartChain (t : Nat) (c : Nat) (s : State) : Host.Outcome State Fault Refusal :=
  let s1 := s.arrive t
  if 7 < c then .next (s1.answer .restartChain .range)
  else if s1.system.part = .config then .next (s1.answer .restartChain .wrongState)
  else if (s1.chain c).state = .unused then .next (s1.answer .restartChain .wrongState)
  else
    .next (((s1.dropDirect c).updChain c fun ch => ch.beginEnumeration s1.now true).answer .restartChain .done)

end Sys2Proof.Machine
end

