-- ==== Sys2Proof/Machine/FaultMonitor.lean ====
section
/-! DEFINITION. The fault monitor: POLL replies, channel candidates, zone faults and driver flags (7.1), and
CLEAR_FAULT. -/

namespace Sys2Proof.Machine

/-- A mask whose bit i is `f i`. -/
def maskOf (f : Nat → Bool) : BitVec 16 :=
  (List.range 16).foldl (fun m i => if f i then m ||| (1#16 <<< i) else m) 0

/-- The candidate marks of one examined channel after a reply, and the fault confirmed if one is (Table 7-1). -/
def candidateStep (openMark shortMark showsOpen showsShort : Bool) : Bool × Bool × Option ZoneFault :=
  if openMark || shortMark then
    if showsOpen || showsShort then
      (false, false, some (if shortMark || showsShort then .short else .open))
    else (false, false, none)
  else if showsShort then (false, true, none)
  else if showsOpen then (true, false, none)
  else (false, false, none)

/-- The zone to be examined on a channel: the channel is mapped and its zone not already OPEN or SHORT (R134). -/
def examinedZone (zones : List Zone) (x : Channel) : Option Nat :=
  match findZone zones x with
  | none => none
  | some i =>
    match (zones.getD i Zone.fresh).fault with
    | .open | .short => none
    | .none | .missing => some i

/-- One channel of a driver under an interpreted reply: its marks after it, and the zone confirmed faulty. A
channel not examined keeps its marks (R134). -/
def examineChannel (zones : List Zone) (c position : Nat) (m : Mirror) (r : PollReply) (k : Nat) :
    Bool × Bool × Option (Nat × ZoneFault) :=
  match examinedZone zones ⟨c, position, k⟩ with
  | none => (m.openCand.getLsbD k, m.shortCand.getLsbD k, none)
  | some i =>
    let x := candidateStep (m.openCand.getLsbD k) (m.shortCand.getLsbD k) (r.openMask.getLsbD k)
      (r.shortMask.getLsbD k)
    (x.1, x.2.1, x.2.2.map fun f => (i, f))

/-- The zones a reply confirms faulty, in channel order (R134). -/
def confirmedBy (zones : List Zone) (c position : Nat) (m : Mirror) (r : PollReply) : List (Nat × ZoneFault) :=
  (List.range 16).filterMap fun k => (examineChannel zones c position m r k).2.2

/-- A record with the candidate marks an interpreted reply leaves (R134). -/
def examineRecord (zones : List Zone) (c position : Nat) (r : PollReply) (m : Mirror) : Mirror :=
  { m with
    openCand := maskOf fun k => (examineChannel zones c position m r k).1
    shortCand := maskOf fun k => (examineChannel zones c position m r k).2.1 }

/-- Each confirmed zone has its fault set (R135). -/
def setFaults (zones : List Zone) : List (Nat × ZoneFault) → List Zone
  | [] => zones
  | x :: rest => setFaults (zones.modify x.1 fun z => { z with fault := x.2 }) rest

/-- The event code of a confirmed fault (R136). -/
def faultEvent : ZoneFault → ReportEvent
  | .short => .short
  | .open | .none | .missing => .open

/-- A ZONE entry of a CHANNEL FAULT report (R136). -/
def State.zoneEntry (s : State) (x : Nat × ZoneFault) : ReportEntry :=
  s.entry (.zone x.1) (faultEvent x.2) .active

/-- The CHANNEL FAULT reports of one reply, two confirmed channels to a report, in channel order (R136). `carry`
is the tag captured by the first of them that was queued. -/
def State.reportFaults (s : State) (c position : Nat) (carry : Option (Option SnapTag)) :
    List (Nat × ZoneFault) → State
  | [] => s
  | [x] =>
    (s.queueSnapReport c position carry
      [s.entry (.driver c position) .channelFault .active, s.zoneEntry x]).1
  | x :: y :: rest =>
    let q := s.queueSnapReport c position carry
      [s.entry (.driver c position) .channelFault .active, s.zoneEntry x, s.zoneEntry y]
    q.1.reportFaults c position q.2 rest

/-- The hot flag of an interpreted reply against the record's (R138). -/
def State.compareHot (s : State) (c position : Nat) (hot : Bool) : State :=
  if ((s.chain c).record position).hot = hot then s
  else
    (s.updChain c fun ch => ch.updRecord position fun m => { m with hot := hot }).queueReport
      [s.entry (.driver c position) .driverHot (if hot then .degraded else .recovered)]

/-- The supply-low flag of an interpreted reply against the record's (R139). -/
def State.compareSupply (s : State) (c position : Nat) (low : Bool) : State :=
  if ((s.chain c).record position).supplyLow = low then s
  else
    (s.updChain c fun ch => ch.updRecord position fun m => { m with supplyLow := low }).queueReport
      [s.entry (.driver c position) .supplyLow (if low then .degraded else .recovered)]

/-- A status check: counted damaged and then reported with a snapshot, its contents discarded (R133). The snapshot
shows the count with this check in it (log 31). -/
def State.statusCheck (s : State) (c position : Nat) : State :=
  ((s.updChain c fun ch => { ch with damaged := sat16 ch.damaged }).queueSnapReport c position none
    [s.entry (.driver c position) .statusCheck .active]).1

/-- An interpreted reply dealt with whole, in R140's order. -/
def State.interpret (s : State) (c position : Nat) (r : PollReply) : State :=
  let m := (s.chain c).record position
  let found := confirmedBy s.zones c position m r
  let s1 := { s with zones := setFaults s.zones found }.updChain c fun ch =>
    ch.updRecord position (examineRecord s.zones c position r)
  ((s1.reportFaults c position none found).compareHot c position r.hot).compareSupply c position r.supplyLow

/-- A mirror record takes an accepted reply: newest of at most two, with the frame counter (R94, R132). -/
def Mirror.takeReply (m : Mirror) (r : PollReply) (counter : Nat) : Mirror :=
  { m with replies := (r :: m.replies).take 2, lastPoll := counter }

/-- An accepted POLL reply reaches the fault monitor (R132). -/
def State.takeReply (s : State) (c position : Nat) (r : PollReply) : State :=
  let s1 := s.updChain c fun ch => ch.updRecord position fun m => m.takeReply r s.timebase.counter
  if r.openMask &&& r.shortMask = 0 then s1.interpret c position r else s1.statusCheck c position

/-- A record with both candidate marks of one channel clear (R137). -/
def Mirror.clearCandidates (m : Mirror) (k : Nat) : Mirror :=
  { m with openCand := m.openCand &&& ~~~(1#16 <<< k), shortCand := m.shortCand &&& ~~~(1#16 <<< k) }

/-- A zone returned to service: its fault NONE, and, if it had one, its eased level to rise from 0 (R137, log 34). -/
def Zone.clearFault (z : Zone) : Zone :=
  { z with fault := .none, relit := z.relit || decide (z.fault ≠ .none) }

/-- CLEAR_FAULT: the zone returns to service and its channel's candidate marks are cleared where its chain holds
an assigned record at its position (R137). -/
def execClearFault (t : Nat) (zone : Nat) (s : State) : Host.Outcome State Fault Refusal :=
  let s1 := s.arrive t
  if s1.grid.count ≤ zone then .next (s1.answer .clearFault .range)
  else
    let s2 := s1.updZone zone Zone.clearFault
    .next ((match (s1.zone zone).channel with
      | none => s2
      | some x => s2.updChain x.chain fun ch => ch.updRecord x.position fun m =>
          if m.assigned then m.clearCandidates x.channel else m).answer .clearFault .done)

end Sys2Proof.Machine
end

