-- ==== Sys2Proof/Machine/Bits.lean ====
section
/-! DEFINITION. Bits and bytes of the part's traffic, the CRC-16 and the line coding (12.1). -/

namespace Sys2Proof.Machine

/-! ## Bits and the CRC-16 (R191) -/

/-- The `width` low bits of a number, most significant first. -/
def toBits : Nat → Nat → List Bool
  | 0, _ => []
  | width + 1, n => n.testBit width :: toBits width n

/-- The number that bits spell, most significant first. -/
def ofBits (bits : List Bool) : Nat := bits.foldl (fun n b => 2 * n + b.toNat) 0

/-- The `width` bits of a field that begins at bit `at`. -/
def bitField (bits : List Bool) (start width : Nat) : Nat := ofBits ((bits.drop start).take width)

/-- One covered bit taken into the CRC register: polynomial x^16 + x^15 + x^2 + 1 (R191). -/
def crcStep (reg : BitVec 16) (b : Bool) : BitVec 16 :=
  if reg.msb = b then reg <<< 1 else (reg <<< 1) ^^^ 0x8005#16

/-- The CRC-16 of the covered bits, from a register of all ones (R191). -/
def crc16 (bits : List Bool) : BitVec 16 := bits.foldl crcStep 0xFFFF#16

/-- The covered bits followed by their CRC, most significant bit first (R191). -/
def withCrc (bits : List Bool) : List Bool := bits ++ toBits 16 (crc16 bits).toNat

/-- The last sixteen bits are the CRC of those before them. -/
def crcRight (bits : List Bool) : Bool :=
  decide (ofBits (bits.drop (bits.length - 16)) = (crc16 (bits.take (bits.length - 16))).toNat)

/-! ## Bytes -/

/-- The number that `len` bytes from byte `start` spell, most significant first. -/
def num (bytes : List Byte) (start len : Nat) : Nat :=
  ((bytes.drop start).take len).foldl (fun n b => 256 * n + b.toNat) 0

/-- The signed number that `len` bytes from byte `start` spell, in two's complement. -/
def signedNum (bytes : List Byte) (start len : Nat) : Int := (BitVec.ofNat (8 * len) (num bytes start len)).toInt

/-- A number as `len` bytes, most significant first. -/
def natBytes : Nat → Nat → List Byte
  | 0, _ => []
  | len + 1, n => BitVec.ofNat 8 (n / 256 ^ len) :: natBytes len n

/-- A signed number as `len` bytes in two's complement. -/
def intBytes (len : Nat) (i : Int) : List Byte := natBytes len (BitVec.ofInt (8 * len) i).toNat

/-- The bits of bytes in order of sending. -/
def byteBits (bytes : List Byte) : List Bool := bytes.flatMap fun b => toBits 8 b.toNat

/-- Bits as `n` bytes, the last filled out with 0 bits. -/
def toBytes : Nat → List Bool → List Byte
  | 0, _ => []
  | n + 1, bits => BitVec.ofNat 8 (ofBits ((bits.take 8 ++ List.replicate 8 false).take 8)) :: toBytes n (bits.drop 8)

/-- `n` packed values of `width` bits (12.3). -/
def unpack (width : Nat) : Nat → List Bool → List (BitVec width)
  | 0, _ => []
  | n + 1, bits => BitVec.ofNat width (ofBits (bits.take width)) :: unpack width n (bits.drop width)

/-- Values packed without gaps, the last byte filled out with 0 bits (12.3). -/
def pack {width : Nat} (values : List (BitVec width)) : List Byte :=
  toBytes (ceilDiv (width * values.length) 8) (values.flatMap fun v => toBits width v.toNat)

/-- The CRC-16 of bytes. -/
def crcBytes (bytes : List Byte) : List Byte := natBytes 2 (crc16 (byteBits bytes)).toNat

/-! ## Line coding (R191) -/

/-- A data bit as the line's levels in its two half bit times, true for high. -/
def lineBit (b : Bool) : List Bool := [!b, b]

/-- The start symbol in half bit times: high two bit times, low two, high two, low two. -/
def startSymbol : List Bool :=
  [true, true, true, true, false, false, false, false, true, true, true, true, false, false, false, false]

/-- The end symbol of the panel lines in half bit times: high three, low three, high one, low one. -/
def endSymbol : List Bool :=
  [true, true, true, true, true, true, false, false, false, false, false, false, true, true, false, false]

/-- The idle pattern for `n` bit times: data bit 0, repeated (R191). -/
def idlePattern (n : Nat) : List Bool := (List.replicate n false).flatMap lineBit

/-- Silence for `n` bit times: no transition, at whatever level the line stands (R191). -/
def silentLine (level : Bool) (n : Nat) : List Bool := List.replicate (2 * n) level

end Sys2Proof.Machine
end

