-- ==== Sys2Proof/Machine/Frames.lean ====
section
/-! DEFINITION. The wire form of chain frames and their echoes: fields, the CRC-16 and the line coding (R191,
R192). A frame is given as its data bits in order of sending, from the kind field to the end of the CRC; the start
symbol before them is not data. -/

namespace Sys2Proof.Machine

/-! ## Frames (R192, Table 12-1) -/

/-- The kind code of a frame (Table 12-1). -/
def Sent.kindCode : Sent → Nat
  | .stage _ => 1
  | .latch _ => 2
  | .poll _ => 3
  | .assign _ _ => 4
  | .direct _ (.trim _) => 5
  | .direct _ .ident => 6
  | .clear => 7

/-- The address of a frame: the driver's, or 63 for broadcast (Table 4-1). -/
def Sent.address : Sent → Nat
  | .stage e => e.address
  | .poll a => a
  | .direct a _ => a
  | .latch _ | .assign _ _ | .clear => 63

/-- What drivers write into the reply fields of a frame (Table 4-1). -/
inductive Reply where
  | ack (acked : Bool)
  | latches (count : Nat)
  | poll (acked : Bool) (reply : PollReply)
  | taken (flag : Bool)
  | ident (acked : Bool) (kind revision channels : Nat)
  | cleared (count : Nat)
  deriving DecidableEq, Repr

/-- The reply fields as the part sends them, all 0 (R73). -/
def Sent.blankReply : Sent → Reply
  | .stage _ | .direct _ (.trim _) => .ack false
  | .latch _ => .latches 0
  | .poll _ => .poll false ⟨0, 0, false, false, 0⟩
  | .assign _ _ => .taken false
  | .direct _ .ident => .ident false 0 0 0
  | .clear => .cleared 0

/-- The group field of an ASSIGN: 15 for none (Table 12-1). -/
def groupCode : Option Nat → Nat
  | some g => g
  | none => 15

/-- The payload of a frame with its reply fields and fill bits (Table 12-1). -/
def Sent.payload (x : Sent) (r : Reply) : List Bool :=
  match x, r with
  | .stage e, .ack a =>
    toBits 4 e.first ++ toBits 4 (e.duties.length - 1) ++ a :: toBits 3 0 ++ e.duties.flatMap (toBits 12)
  | .latch m, .latches n => toBits 8 m.toNat ++ toBits 6 n ++ toBits 14 0
  | .poll _, .poll a p =>
    a :: toBits 16 p.openMask.toNat ++ toBits 16 p.shortMask.toNat ++ [p.hot, p.supplyLow]
      ++ toBits 8 p.damagedFrames ++ toBits 17 0
  | .assign a g, .taken f => toBits 6 a ++ toBits 4 (groupCode g) ++ f :: toBits 17 0
  | .direct _ (.trim code), .ack a => toBits 8 code ++ a :: toBits 19 0
  | .direct _ .ident, .ident a k v n => a :: toBits 8 k ++ toBits 8 v ++ toBits 5 n ++ toBits 22 0
  | .clear, .cleared n => toBits 6 n ++ toBits 22 0
  | _, _ => []

/-- The data bits of a frame with given tag and reply fields: header, payload, CRC (R192). -/
def frameBits (x : Sent) (tag : Nat) (r : Reply) : List Bool :=
  withCrc (toBits 4 x.kindCode ++ toBits 2 tag ++ toBits 6 x.address ++ x.payload r)

/-- The reply fields read from an echo of a frame's kind (Table 12-1). -/
def readReply (x : Sent) (bits : List Bool) : Reply :=
  match x with
  | .stage _ => .ack (bits.getD 20 false)
  | .direct _ (.trim _) => .ack (bits.getD 20 false)
  | .latch _ => .latches (bitField bits 20 6)
  | .poll _ =>
    .poll (bits.getD 12 false)
      ⟨BitVec.ofNat 16 (bitField bits 13 16), BitVec.ofNat 16 (bitField bits 29 16), bits.getD 45 false,
        bits.getD 46 false, bitField bits 47 8⟩
  | .assign _ _ => .taken (bits.getD 22 false)
  | .direct _ .ident =>
    .ident (bits.getD 12 false) (bitField bits 13 8) (bitField bits 21 8) (bitField bits 29 5)
  | .clear => .cleared (bitField bits 12 6)

/-- The fields of a frame as the bits that arrive spell them; none for a kind that Table 12-1 does not list. An ASSIGN with
a group code of 8..14, which the part never sends, is read as group none (log 22). -/
def readSent (bits : List Bool) : Option Sent :=
  let address := bitField bits 6 6
  match bitField bits 0 4 with
  | 1 =>
    some (.stage
      { address := address, first := bitField bits 12 4, group := 0, frame := 0, retry := false
        duties := (List.range (bitField bits 16 4 + 1)).map fun k => bitField bits (24 + 12 * k) 12 })
  | 2 => some (.latch (BitVec.ofNat 8 (bitField bits 12 8)))
  | 3 => some (.poll address)
  | 4 => some (.assign (bitField bits 12 6) (if bitField bits 18 4 ≤ 7 then some (bitField bits 18 4) else none))
  | 5 => some (.direct address (.trim (bitField bits 12 8)))
  | 6 => some (.direct address .ident)
  | 7 => some .clear
  | _ => none

/-- An acknowledged kind whose ack flag is clear (R86). -/
def Reply.unacknowledged : Reply → Bool
  | .ack a | .poll a _ | .ident a _ _ _ => !a
  | .latches _ | .taken _ | .cleared _ => false

/-- The kind, tag and address of an echo are those of a frame in flight (R88). -/
def headerMatches (f : InFlight) (bits : List Bool) : Bool :=
  decide (bitField bits 0 4 = f.sent.kindCode) && decide (bitField bits 4 2 = f.tag)
    && decide (bitField bits 6 6 = f.sent.address)

/-- What arrived is exactly one whole frame, of the length that its own kind and count give, with a right CRC, and its
header is not that of the frame in flight: the echo of another frame, the one in flight being lost (R74, R89). -/
def echoOfAnother (f : InFlight) (bits : List Bool) : Bool :=
  match readSent bits with
  | some x => decide (bits.length = x.bits - 8) && crcRight bits && !headerMatches f bits
  | none => false

/-! ## On the line (R191) -/

/-- A chain frame on its line: the start symbol and its data bits. -/
def frameOnLine (x : Sent) (tag : Nat) : List Bool :=
  startSymbol ++ (frameBits x tag x.blankReply).flatMap lineBit

/-- What a chain's outgoing line carries at a moment. -/
inductive OutLine where
  | rest | idle | frame (x : OutFrame)
  deriving DecidableEq, Repr

/-- The frames put on the line, newest first, the newest followed by idle until `free`: which of them is on the line at
moment `t`. Each is followed by 8 bit times of idle (R74). -/
def frameOnLineAt : Nat → List OutFrame → Nat → OutLine
  | _, [], _ => .idle
  | free, x :: older, t =>
    let start := free - 16 - 2 * x.sent.bits
    if free - 16 ≤ t then .idle else if start ≤ t then .frame x else frameOnLineAt start older t

/-- The outgoing line of a chain at a moment from now on, until something more is put on it: at rest on an UNUSED chain,
else the frame being sent, which also a chain that has left RUNNING finishes (log 33), else idle (R72, R106). -/
def Chain.outLine (ch : Chain) (t : Nat) : OutLine :=
  if ch.state = .unused then .rest else frameOnLineAt ch.lineFree (ch.out.toList ++ ch.before) t

/-- The line's levels in half bit times: a frame whole, and idle or rest for `n` bit times; the level of a line at rest is
left open (R72, R191). -/
def OutLine.levels (level : Bool) (n : Nat) : OutLine → List Bool
  | .rest => silentLine level n
  | .idle => idlePattern n
  | .frame x => frameOnLine x.sent x.tag

end Sys2Proof.Machine
end

