-- ==== Sys2Proof/Machine/Echo.lean ====
section
/-! DEFINITION. Echo checking and what each outcome does: ECHO_BEGIN, ECHO_END, ECHO_OVERDUE, LOOP_LOST, and the
arbiter's FRAME_BOUNDARY (chapters 4 and 5). -/

namespace Sys2Proof.Machine

/-! ## Judging an echo (R85, R86, R88, R89, R91) -/

/-- Echoes of the chain are checked: it is RUNNING, or an attempt is in progress (R85). -/
def Chain.checksEchoes (ch : Chain) : Bool := decide (ch.state = .running) || ch.attempt.isSome

/-- What the part finds in an echo that has ended. -/
inductive EchoVerdict where
  | damaged | mismatch | accepted (reply : Reply)
  deriving DecidableEq, Repr

/-- A latch count above what the mirror allows (R91). -/
def Chain.tooManyLatches (ch : Chain) (x : Sent) (r : Reply) : Bool :=
  match x, r with
  | .latch m, .latches n => decide (ch.expectedLatches m < n)
  | _, _ => false

/-- An echo against the oldest frame in flight. `bits` are the data bits that arrive after its start symbol. The whole
echo of another frame is a mismatch, also where it is shorter or longer than the frame in flight, which R85 and R86 would
have damaged: the model follows R89 and example 4.4 there (log 38). Else, cut at the length of the frame in flight (R85),
it is damaged if short or with a wrong CRC, before anything else is compared (R86); then kind, tag and address are (R88);
then the ack flag (R86); then the latch count (R91). -/
def Chain.judge (ch : Chain) (f : InFlight) (bits : List Bool) : EchoVerdict :=
  let body := bits.take (f.sent.bits - 8)
  if echoOfAnother f bits then .mismatch
  else if body.length < f.sent.bits - 8 then .damaged
  else if !crcRight body then .damaged
  else if !headerMatches f body then .mismatch
  else
    let r := readReply f.sent body
    if r.unacknowledged then .damaged
    else if ch.tooManyLatches f.sent r then .mismatch
    else .accepted r

/-! ## A damaged echo (R86, R87) -/

/-- A STAGE of the frame whose hand-over queued it marks its group's settle record given up (R98). -/
def Chain.giveUpStage (ch : Chain) (e : StageEntry) (counter : Nat) : Chain :=
  let ch1 := ch.updRecord e.address fun m => { m with known := false }
  if e.frame = counter then ch1.updSettle e.group fun x => { x with givenUp := true } else ch1

/-- The problem mark of the present frame period, set while the chain is RUNNING (R103). -/
def Chain.markProblem (ch : Chain) : Chain := { ch with problem := ch.problem || decide (ch.state = .running) }

/-- A frame given up, with the outcome of its kind (R87). -/
def State.giveUp (s : State) (c : Nat) (x : Sent) : State :=
  match x with
  | .stage e => s.updChain c fun ch => (ch.giveUpStage e s.timebase.counter).markProblem
  | .latch m => s.updChain c fun ch => (ch.forgetGroups m).markProblem
  | .poll _ => s.updChain c Chain.markProblem
  | .direct _ _ => (s.fixDirect c .linkError .none).updChain c Chain.markProblem
  | .assign _ _ => s.failAttempt c .linkDamage
  | .clear => s.failAttempt c .linkDamage

/-- A damaged echo is counted and its frame leaves the list, to be re-sent once or given up (R86, R87). -/
def State.echoDamaged (s : State) (c : Nat) (f : InFlight) : State :=
  let s1 := s.updChain c fun ch => { ch with inflight := ch.inflight.drop 1, damaged := sat16 ch.damaged }
  if f.retry then s1.giveUp c f.sent else s1.updChain c fun ch => ch.requeue f.sent

/-! ## An accepted echo (R91, R92, R94) -/

/-- The addressed record takes the staged duties and is known (R99). -/
def Mirror.takeStage (m : Mirror) (e : StageEntry) : Mirror :=
  { m with
    shadow := m.shadow.take e.first ++ e.duties ++ m.shadow.drop (e.first + e.duties.length)
    known := true }

/-- An accepted STAGE: the mirror (R99), and the settle record when it belongs to the present frame (R98). -/
def Chain.acceptStage (ch : Chain) (e : StageEntry) (counter : Nat) : Chain :=
  let ch1 := ch.updRecord e.address fun m => m.takeStage e
  if e.frame = counter then ch1.updSettle e.group fun x => { x with count := x.count - 1 } else ch1

/-- An accepted LATCH: the latched mark (R127), and with a count below the expected one a latch shortfall (R91). -/
def State.acceptLatch (s : State) (c : Nat) (mask : BitVec 8) (count : Nat) : State :=
  let s1 := s.updChain c fun ch => { ch with latched := ch.latched || decide (ch.state = .running) }
  if count < (s.chain c).expectedLatches mask then
    (s1.updChain c fun ch => (ch.forgetGroups mask).markProblem).chainReport c 0 .latchShortfall .active
  else s1

/-- A record as an accepted CLEAR leaves it: unassigned, its shadow known at 0 (R94). -/
def Mirror.cleared (m : Mirror) : Mirror := { m.unassign with known := true }

/-- An accepted CLEAR: every record cleared, and the attempt goes on with the counted drivers (R94, R117). -/
def State.acceptClear (s : State) (c count : Nat) : State :=
  (s.updChain c fun ch => { ch with mirror := ch.mirror.map Mirror.cleared }).continueAttempt c count 0

/-- An accepted ASSIGN: taken, the record is assigned with its group and the attempt goes on; not taken, the attempt
fails (R94, R118, R119). -/
def State.acceptAssign (s : State) (c a : Nat) (group : Option Nat) (taken : Bool) : State :=
  match (s.chain c).attempt with
  | some (.assigning count _) =>
    if taken then
      (s.updChain c fun ch => ch.updRecord a fun m => { m with assigned := true, group := group }).continueAttempt
        c count (a + 1)
    else s.failAttempt c .notTaken
  | _ => s

/-- An accepted echo is handed on by kind (R92). -/
def State.acceptReply (s : State) (c : Nat) (x : Sent) (r : Reply) : State :=
  match x, r with
  | .stage e, _ => s.updChain c fun ch => ch.acceptStage e s.timebase.counter
  | .latch m, .latches n => s.acceptLatch c m n
  | .poll a, .poll _ p => s.takeReply c a p
  | .assign a g, .taken f => s.acceptAssign c a g f
  | .direct a (.trim code), _ =>
    (s.updChain c fun ch => ch.updRecord a fun m => { m with trim := code }).fixDirect c .done .none
  | .direct _ .ident, .ident _ k v n => s.fixDirect c .done (.ident k v n)
  | .clear, .cleared n => if (s.chain c).attempt.isSome then s.acceptClear c n else s
  | _, _ => s

/-- The frame whose echo was accepted leaves the list (R92). -/
def State.echoAccepted (s : State) (c : Nat) (f : InFlight) (r : Reply) : State :=
  (s.updChain c fun ch => { ch with inflight := ch.inflight.drop 1 }).acceptReply c f.sent r

/-- An echo of a chain that checks echoes has ended (R85 to R92). -/
def State.checkEcho (s : State) (c : Nat) (bits : List Bool) : State :=
  match (s.chain c).inflight with
  | [] => s.linkFailure c .echoMismatch
  | f :: _ =>
    match (s.chain c).judge f bits with
    | .damaged => s.echoDamaged c f
    | .mismatch => s.linkFailure c .echoMismatch
    | .accepted r => s.echoAccepted c f r

/-! ## Meanings -/

/-- FRAME_BOUNDARY: the trailing idle of the last frame has been sent, and a frame may be (R74, R100, R104). -/
def execFrameBoundary (c : Nat) (s : State) : Host.Outcome State Fault Refusal :=
  if (s.chain c).state = .unused then .next s
  else .next ((s.arrive (s.chain c).lineFree).serve c)

/-- ECHO_BEGIN: a frame start on the return line begins the echo of the oldest frame in flight; with none in flight it
is an unexpected echo, treated as a mismatch (R85, R88, R89). -/
def execEchoBegin (t : Nat) (c : Nat) (s : State) : Host.Outcome State Fault Refusal :=
  let s1 := s.arrive t
  if !(s1.chain c).checksEchoes then .next s1
  else match (s1.chain c).inflight with
    | [] => .next (s1.linkFailure c .echoMismatch)
    | f :: rest => .next (s1.updChain c fun ch => { ch with inflight := { f with begun := true } :: rest })

/-- ECHO_END: an echo has ended and is checked; then the line, at a boundary, is served (R85, R100). `bits` are all that
arrive up to idle or silence, also past the length of the oldest frame in flight (logs 15, 38). -/
def execEchoEnd (t : Nat) (c : Nat) (bits : List Bool) (s : State) : Host.Outcome State Fault Refusal :=
  let s1 := s.arrive t
  if !(s1.chain c).checksEchoes then .next s1
  else .next ((s1.checkEcho c bits).serve c)

/-- ECHO_OVERDUE: 40 µs after the last bit of the oldest frame in flight its echo has not begun (R89). -/
def execEchoOverdue (c : Nat) (s : State) : Host.Outcome State Fault Refusal :=
  match (s.chain c).inflight with
  | [] => .next s
  | f :: _ =>
    if f.begun then .next s
    else .next ((s.arrive (f.lastBit + us 40)).linkFailure c .echoOverdue)

/-- LOOP_LOST: the watched return line has been silent for 20 µs (R90). A watch that has not lasted 20 µs has found
no such silence. -/
def execLoopLost (t : Nat) (c : Nat) (s : State) : Host.Outcome State Fault Refusal :=
  let s1 := s.arrive t
  if s1.now < (s1.chain c).watchFrom + us 20 then .next s1
  else .next (s1.linkFailure c .loopLost)

end Sys2Proof.Machine
end

