-- ==== Sys2Proof/Machine/Schedule.lean ====
section
/-! DEFINITION. The latch schedule: layout of a frame's points, commit points and light sections, latch points,
the closing of a frame, and HOLD (chapter 3); COMMIT_POINT, LATCH_POINT, HOLD, RESUME and HOLD_EXPIRED. -/

namespace Sys2Proof.Machine

/-! ## Points (R63) -/

/-- The points of a group, none for a group that holds no row or is not below G. -/
def State.point (s : State) (k : Nat) : Option GroupPoint := (s.schedule.points.getD k none)

/-- Change the points of one group. -/
def Schedule.updPoint (x : Schedule) (k : Nat) (f : GroupPoint → GroupPoint) : Schedule :=
  { x with points := x.points.modify k fun p => p.map f }

/-- The predicted period in µs: p in LOCKED and HOLDOVER, the free period in FREE and ACQUIRE (R62). -/
def Timebase.predicted (tb : Timebase) : Nat :=
  match tb.state with
  | .locked | .holdover => tb.period.getD tb.freePeriod
  | .free | .acquire => tb.freePeriod

/-- The points of group `k` in a frame that starts at `start`: latch point floor(offset × p_pred / 1024) µs later,
commit point the lead before it, a commit point at or before the frame start standing at it (R63): groups whose computed
commit points lie at different moments before the frame start thereby share one (log 37). -/
def layPoint (start : Nat) (offset predicted lead : Nat) : GroupPoint :=
  let l := offset * predicted / 1024
  ⟨start + us (l - lead), start + us l, false, false, List.replicate 8 .notCarried⟩

/-- The points of all groups of the new frame (R63). -/
def State.layPoints (s : State) : List (Option GroupPoint) :=
  (List.range 8).map fun k =>
    if k < s.schedule.groups ∧ s.grid.rowsOf s.schedule.groups k ≠ [] then
      some (layPoint s.timebase.lastStart (s.schedule.offsets.getD k 0) s.timebase.predicted s.schedule.lead)
    else none

/-! ## Outcomes (R64, R65, R98) -/

/-- What the pass of this frame sampled of a chain. -/
def State.sampledChain (s : State) (c : Nat) : SampledChain :=
  s.pass.sample.chains.getD c ⟨false, 0, 0, 0⟩

/-- What the pass of this frame sampled of a zone. -/
def State.sampledZone (s : State) (i : Nat) : SampledZone :=
  s.pass.sample.zones.getD i ⟨.unmapped, none, 1024, none⟩

/-- The group's emitted mark (R42). -/
def State.emittedMark (s : State) (k : Nat) : Bool := s.pass.emitted.getD k false

/-- The chain is settled for group `k` (R98). -/
def Chain.settled (ch : Chain) (k : Nat) : Bool :=
  (ch.settleOf k).handed && decide ((ch.settleOf k).count = 0) && !(ch.settleOf k).givenUp

/-- The chain serves the frame: RUNNING, sampled RUNNING, and not departed since the frame start (R64). -/
def State.servesFrame (s : State) (c : Nat) : Bool :=
  s.running c && (s.sampledChain c).running && !(s.chain c).leftFrame

/-- The outcome of group `k` for chain `c` at its commit point (R64). -/
def State.outcomeFor (s : State) (k c : Nat) : CommitOutcome :=
  if !(s.sampledChain c).carries.getLsbD k then .notCarried
  else if !s.servesFrame c then .absent
  else if s.emittedMark k && (s.chain c).settled k then .committed
  else .late

/-- The effects of a LATE outcome on an engine: the group's waiting STAGE entries are discarded, a discarded retry
leaving its record unknown, and the late-groups counter increments (R65, R98). -/
def Chain.lateFor (ch : Chain) (k : Nat) : Chain :=
  let gone := ch.staging.filter fun e => decide (e.group = k) && e.retry
  { ch with
    mirror := ch.mirror.mapIdx fun a m =>
      if gone.any (fun e => decide (e.address = a)) then { m with known := false } else m
    staging := ch.staging.filter fun e => decide (e.group ≠ k)
    late := sat16 ch.late }

/-! ## Light sections (R66) -/

/-- The outcome of chain `c` in a list of outcomes. -/
def outcomeOf (outcomes : List CommitOutcome) (c : Nat) : CommitOutcome := outcomes.getD c .notCarried

/-- The late mask of a section: each carrying chain that is LATE or ABSENT, and every carrying chain while a claim
is set (R66). -/
def lateMask (outcomes : List CommitOutcome) (claimed : Bool) : BitVec 8 :=
  (List.range 8).foldl (fun (m : BitVec 8) c =>
    match outcomeOf outcomes c with
    | .notCarried => m
    | .committed => if claimed then m ||| (1#8 <<< c) else m
    | .absent | .late => m ||| (1#8 <<< c)) 0

/-- The outcome of the chain a zone is mapped to. -/
def zoneOutcome (outcomes : List CommitOutcome) (z : SampledZone) : CommitOutcome :=
  match z.channel with
  | some x => outcomeOf outcomes x.chain
  | none => .notCarried

/-- The section value of a zone (R66). -/
def sectionValue (outcomes : List CommitOutcome) (claimed : Bool) (z : SampledZone) (shown : Nat) : Nat :=
  if z.state ≠ .lit ∨ zoneOutcome outcomes z = .absent ∨ claimed then 0 else shown

/-- The indices of the zones of a group, in order. -/
def State.zonesOf (s : State) (k : Nat) : List Nat :=
  (List.range s.grid.count).filter fun i => decide (s.grid.zoneGroup s.schedule.groups i = k)

/-- The light section of group `k` by the shown levels as they stand (R66). -/
def State.buildSection (s : State) (k : Nat) (outcomes : List CommitOutcome) : LightSection :=
  let rows := s.grid.rowsOf s.schedule.groups k
  { group := k
    counter := s.timebase.counter
    tag := s.pass.sample.tag
    lateMask := lateMask outcomes s.claims.any
    firstRow := rows.headD 0
    rowCount := rows.length
    cols := s.grid.cols
    values := (s.zonesOf k).map fun i =>
      sectionValue outcomes s.claims.any (s.sampledZone i) (s.zone i).shown }

/-! ## Commit points (R64 to R66) -/

/-- The zone's shown level at the commit of group `k`: the buffered level on a COMMITTED chain, else kept (R64). -/
def State.commitZone (s : State) (k : Nat) (outcomes : List CommitOutcome) (i : Nat) (z : Zone) : Zone :=
  if s.grid.zoneGroup s.schedule.groups i = k ∧ zoneOutcome outcomes (s.sampledZone i) = .committed then
    { z with shown := s.pass.buffer.getD i 0 }
  else z

/-- The commit of group `k`: outcomes, shown levels, LATE effects, section (R64 to R66). -/
def State.commitGroup (s : State) (k : Nat) : State :=
  let outcomes := (List.range 8).map (s.outcomeFor k)
  let s1 : State := { s with
    schedule := s.schedule.updPoint k fun p => { p with reached := true, outcomes := outcomes }
    zones := s.zones.mapIdx (s.commitZone k outcomes)
    chains := s.chains.mapIdx fun c ch => if outcomeOf outcomes c = .late then ch.lateFor k else ch }
  s1.queueSection (s1.buildSection k outcomes)

/-- The groups whose commit points stand at moment `t` and are not yet reached, in ascending order (R63): at the frame
start this takes in every group whose computed commit point lies before it, in ascending group order too, not in the order
of the computed moments (log 37). -/
def State.commitsAt (s : State) (t : Nat) : List Nat :=
  (List.range 8).filter fun k =>
    match s.point k with
    | some p => !p.reached && decide (p.commitAt = t)
    | none => false

/-- Commit groups one after another. -/
def State.commitGroups (s : State) (ks : List Nat) : State := ks.foldl State.commitGroup s

/-! ## Latch points (R67) and the closing of a frame (R68) -/

/-- The groups satisfying `p` for which chain `c` was COMMITTED, as a mask. -/
def State.committedMask (s : State) (c : Nat) (p : GroupPoint → Bool) : BitVec 8 :=
  (List.range 8).foldl (fun (m : BitVec 8) k =>
    match s.point k with
    | some x => if p x && decide (outcomeOf x.outcomes c = .committed) then m ||| (1#8 <<< k) else m
    | none => m) 0

/-- A chain that has not departed queues one LATCH for a mask that is not empty (R67, R68). -/
def Chain.oweLatch (ch : Chain) (mask : BitVec 8) : Chain :=
  if mask ≠ 0 ∧ ch.state = .running ∧ ch.leftFrame = false then ch.placeLatch mask else ch

/-- The groups reached, not latched, whose latch point is `t` (R63, R67). -/
def dueLatch (t : Nat) (x : GroupPoint) : Bool := x.reached && !x.latched && decide (x.latchAt = t)

/-- The groups reached and not latched: their latch is owed at a frame start (R68). -/
def owedLatch (x : GroupPoint) : Bool := x.reached && !x.latched

/-- The latch of every group whose latch point is `t` (R67). -/
def State.latchAt (s : State) (t : Nat) : State :=
  { s with
    chains := s.chains.mapIdx fun c ch => ch.oweLatch (s.committedMask c (dueLatch t))
    schedule := { s.schedule with
      points := s.schedule.points.map fun p => p.map fun x => if dueLatch t x then { x with latched := true } else x } }

/-- The groups whose commit points were not reached (R68). -/
def State.unreached (s : State) : List Nat :=
  (List.range 8).filter fun k => match s.point k with | some p => !p.reached | none => false

/-- The LATE effects of the unreached groups on chain `c` (R68). -/
def State.closeChain (s : State) (c : Nat) (ch : Chain) : Chain :=
  s.unreached.foldl (fun x k =>
    if (s.sampledChain c).carries.getLsbD k && s.servesFrame c then x.lateFor k else x)
    (ch.oweLatch (s.committedMask c owedLatch))

/-- A frame start closes the groups of the previous frame still outstanding (R68). -/
def State.closeFrame (s : State) : State :=
  { s with
    chains := s.chains.mapIdx s.closeChain
    schedule := { s.schedule with points := List.replicate 8 none } }

/-! ## HOLD (R70, R71) -/

/-- A HOLD of `m` frames received (R70). -/
def Schedule.takeHold (x : Schedule) (m : Nat) : Schedule :=
  match x.hold with
  | .none => { x with hold := .pending, holdMax := m }
  | .pending => { x with holdMax := m }
  | .inForce => { x with holdCount := 0, holdMax := m, resumeMark := false }

/-- A RESUME received (R70). -/
def Schedule.takeResume (x : Schedule) : Schedule :=
  match x.hold with
  | .none => x
  | .pending => { x with hold := .none }
  | .inForce => { x with resumeMark := true }

/-- HOLD IN FORCE ends by expiry at the next frame start (R71). -/
def Schedule.holdExpires (x : Schedule) : Bool :=
  decide (x.hold = .inForce) && !x.resumeMark && decide (x.holdMax ≤ x.holdCount + 1)

/-- The HOLD state at a frame start (R71). -/
def Schedule.moveHold (x : Schedule) : Schedule :=
  match x.hold with
  | .none => x
  | .pending => { x with hold := .inForce, holdCount := 0 }
  | .inForce =>
    if x.resumeMark then { x with hold := .none, resumeMark := false }
    else if x.holdMax ≤ x.holdCount + 1 then { x with hold := .none, holdCount := 0 }
    else { x with holdCount := x.holdCount + 1 }

/-- The HOLD state moves at a frame start; an end by expiry sets the HOLD ENDED mark and queues its report (R71). -/
def State.moveHold (s : State) : State :=
  let s1 := { s with schedule := s.schedule.moveHold }
  if s.schedule.holdExpires then
    s1.markHoldEnded.queueReport [s1.entry .panelPort .holdExpired .active]
  else s1

/-! ## Meanings -/

/-- COMMIT_POINT: the commit point of group `k` is reached, with that of every group sharing the moment (R63, R64). -/
def execCommitPoint (k : Nat) (s : State) : Host.Outcome State Fault Refusal :=
  match s.point k with
  | none => .next s
  | some p => if p.reached then .next s else .next ((s.arrive p.commitAt).commitGroups (s.commitsAt p.commitAt))

/-- LATCH_POINT: the latch point of group `k`, with every group sharing it; the LATCHes are granted at once where a
line is idle (R63, R67, R104). -/
def execLatchPoint (k : Nat) (s : State) : Host.Outcome State Fault Refusal :=
  match s.point k with
  | none => .next s
  | some p =>
    if owedLatch p then .next (((s.arrive p.latchAt).latchAt p.latchAt).serveAll) else .next s

/-- HOLD_EXPIRED: HOLD IN FORCE ends by expiry (R71); otherwise nothing. A frame start does the same in itself
(log 10). -/
def execHoldExpired (s : State) : Host.Outcome State Fault Refusal :=
  if s.schedule.holdExpires then .next s.moveHold else .next s

/-- RESUME received on the panel port (R70, R176). -/
def execResume (t : Nat) (s : State) : Host.Outcome State Fault Refusal :=
  .next { s.arrive t with schedule := s.schedule.takeResume }

end Sys2Proof.Machine
end

