-- ==== Sys2Proof/Machine/Pass.lean ====
section
/-! DEFINITION. The frame pass: its arithmetic, composition, limiting, emission and hand-over (chapter 2, 5.2);
COMPOSITION_END, LIMITING_END, EMISSION_BLOCK. -/

namespace Sys2Proof.Machine

/-! ## The arithmetic of one zone (R32 to R40) -/

/-- The level from a request raised to the highest covering FLOOR (R32, step 1). -/
def raiseToFloors (ws : List Window) (col row l : Nat) : Nat :=
  ws.foldl (fun l w => if w.kind = .floor ∧ rectCovers w.rect col row then max l w.level else l) l

/-- The level lowered to the lowest covering CEILING (R32, step 2). -/
def lowerToCeilings (ws : List Window) (col row l : Nat) : Nat :=
  ws.foldl (fun l w => if w.kind = .ceiling ∧ rectCovers w.rect col row then min l w.level else l) l

/-- The bounded level Lb of a LIT zone (R32). -/
def boundedLevel (ws : List Window) (override : Option Nat) (col row lr : Nat) : Nat :=
  match override with
  | some l => l
  | none => lowerToCeilings ws col row (raiseToFloors ws col row lr)

/-- The eased level Le of a LIT zone (R33, R34). -/
def easedLevel (bypass : Bool) (lb p rise fall : Nat) : Nat :=
  if bypass then lb
  else if p ≤ lb then p + min (lb - p) rise
  else p - min (p - lb) fall

/-- The calibrated drive Dc (R35). -/
def calibratedDrive (le g : Nat) : Nat := min 4095 ((le * g + 512) / 1024)

/-- The derated drive Dt (R36). -/
def deratedDrive (dc h : Nat) : Nat := dc * h / 256

/-- The budget limit Bl (R38). -/
def budgetLimit (b : Nat) : Nat := b * 131072

/-- The budget scale F (R38). -/
def budgetScale (b p : Nat) : Nat := if p ≤ budgetLimit b then 65536 else budgetLimit b * 65536 / p

/-- The limited drive Dl (R39). -/
def limitedDrive (dt f : Nat) : Nat := dt * f / 65536

/-- The emitted level Lm (R40). -/
def emittedLevel (dl g : Nat) : Nat := min 4095 (dl * 1024 / g)

/-! ## Times of the stages (R26, R27) -/

/-- The moment composition ends. -/
def State.composeDue (s : State) : Nat := s.pass.sample.start + us (ceilDiv s.grid.count 16)

/-- The moment limiting ends: 2 µs later. -/
def State.limitDue (s : State) : Nat := s.composeDue + us 2

/-- The moment the next block of 16 zones is emitted. -/
def State.emitDue (s : State) : Nat := s.limitDue + us (s.pass.blocks + 1)

/-! ## Composition (R31 to R37) -/

/-- Easing is bypassed in this pass: a scene cut taken at its frame start, or the running-entry mark (R34). -/
def Sample.bypass (x : Sample) : Bool := (x.taken && x.sceneCut) || x.entryMark

/-- The request level of a zone in the current set. -/
def State.requestLevel (s : State) (i : Nat) : Nat := s.request.current.levels.getD i 0

/-- The sampled derate factor and weight of the chain a zone is mapped to. -/
def State.zoneChain (s : State) (z : SampledZone) : SampledChain :=
  match z.channel with
  | some x => s.sampledChain x.chain
  | none => ⟨false, 0, 0, 0⟩

/-- The composed values of a zone: 0 for a zone that is not LIT (R31). -/
def State.composeZone (s : State) (i : Nat) : Composed :=
  let z := s.sampledZone i
  if z.state = .lit then
    let lb := boundedLevel s.pass.sample.windows z.override (s.grid.col i) (s.grid.row i) (s.requestLevel i)
    let le := easedLevel s.pass.sample.bypass lb (s.zone i).eased s.pass.sample.rise s.pass.sample.fall
    let dc := calibratedDrive le z.gain
    ⟨lb, le, dc, deratedDrive dc (s.zoneChain z).factor⟩
  else ⟨0, 0, 0, 0⟩

/-- The share of a zone in the power demand: Dt × W for a LIT zone (R37). -/
def State.powerShare (s : State) (i : Nat) : Nat :=
  (s.composeZone i).dt * (s.zoneChain (s.sampledZone i)).weight

/-- COMPOSITION_END: every zone is composed, the power demand held, and the lifetimes of the sampled windows counted
down (R20, R26, R31, R37). -/
def execCompositionEnd (s : State) : Host.Outcome State Fault Refusal :=
  if s.pass.phase = .composing then
    .next { s.arrive s.composeDue with
      pass := { s.pass with
        phase := .limiting
        work := (List.range s.grid.count).map s.composeZone
        power := ((List.range s.grid.count).map s.powerShare).sum }
      windows := countdownWindows s.windows }
  else .next s

/-- LIMITING_END: the budget scale is fixed (R26, R38). -/
def execLimitingEnd (s : State) : Host.Outcome State Fault Refusal :=
  if s.pass.phase = .limiting then
    .next { s.arrive s.limitDue with
      pass := { s.pass with
        phase := .emitting
        blocks := 0
        scale := budgetScale s.pass.sample.budget s.pass.power } }
  else .next s

/-! ## Emission of one zone (R39, R40, R50) -/

/-- The composed values kept for a zone. -/
def State.composed (s : State) (i : Nat) : Composed := s.pass.work.getD i ⟨0, 0, 0, 0⟩

/-- The limited drive of a zone: 0 for a zone that is not LIT (R39). -/
def State.driveOf (s : State) (i : Nat) : Nat :=
  if (s.sampledZone i).state = .lit then limitedDrive (s.composed i).dt s.pass.scale else 0

/-- The emitted level of a zone: 0 for a zone that is not LIT (R40). -/
def State.lightOf (s : State) (i : Nat) : Nat :=
  if (s.sampledZone i).state = .lit then emittedLevel (s.driveOf i) (s.sampledZone i).gain else 0

/-- The probe record the emission of a zone writes (R50). -/
def State.probeRecord (s : State) (i : Nat) : ProbeRecord :=
  let z := s.sampledZone i
  let w := s.composed i
  { counter := s.pass.sample.counter
    lr := s.requestLevel i
    lb := w.lb
    le := w.le
    dc := w.dc
    dt := w.dt
    dl := s.driveOf i
    lm := s.lightOf i
    state := z.state
    factor := z.channel.map fun x => (s.sampledChain x.chain).factor
    scale := s.pass.scale }

/-- The probe as zone `i` is emitted (R23, R50). -/
def State.probeAfter (s : State) (i : Nat) : Probe :=
  if s.probe.armed ∧ s.probe.zone = i then
    { s.probe with
      record := some (s.probeRecord i)
      armed := decide (s.probe.mode = .every) }
  else s.probe

/-- A zone is emitted: its eased level stored, its emitted level buffered, the probe written (R40, R42, R50). -/
def State.emitZone (s : State) (i : Nat) : State :=
  { s with
    zones := s.zones.modify i fun z => { z with eased := (s.composed i).le }
    pass := { s.pass with buffer := s.pass.buffer.set i (s.lightOf i) }
    probe := s.probeAfter i }

/-- The zones of emission block `j` (R27). -/
def State.blockZones (s : State) (j : Nat) : List Nat :=
  (List.range s.grid.count).filter fun i => decide (i / 16 = j)

/-! ## Hand-over and staging (R41, R95, R96) -/

/-- One zone of a hand-over: its driver position, channel and limited drive (R41). -/
structure HandedZone where
  position : Nat
  channel : Nat
  drive : Nat
  deriving DecidableEq, Repr

/-- The hand-over of group `k` to chain `c` (R41). -/
def State.handOver (s : State) (k c : Nat) : List HandedZone :=
  (s.zonesOf k).filterMap fun i =>
    match (s.sampledZone i).channel with
    | some x => if x.chain = c then some ⟨x.position, x.channel, s.driveOf i⟩ else none
    | none => none

/-- A driver's sixteen new duties: a channel that holds no zone of the hand-over takes 0 (R95). -/
def newDuties (ho : List HandedZone) (a : Nat) : List Nat :=
  (List.range 16).map fun k =>
    match ho.find? fun z => decide (z.position = a) && decide (z.channel = k) with
    | some z => z.drive
    | none => 0

/-- The channels whose new duty differs from the mirror (R96). -/
def differing (shadow duties : List Nat) : List Nat :=
  (List.range 16).filter fun k => decide (shadow.getD k 0 ≠ duties.getD k 0)

/-- The STAGE a hand-over queues for one driver, if any (R96). -/
def Chain.stageFor (ch : Chain) (k counter a : Nat) (duties : List Nat) : Option StageEntry :=
  if ch.staging.any (fun e => decide (e.address = a)) || ch.stageInFlight a || !(ch.record a).known then
    some ⟨a, 0, duties, k, counter, false⟩
  else match differing (ch.record a).shadow duties with
    | [] => none
    | lo :: rest =>
      let hi := (lo :: rest).getLastD lo
      some ⟨a, lo, (duties.drop lo).take (hi + 1 - lo), k, counter, false⟩

/-- The STAGE entries a hand-over of group `k` queues, in ascending address order (R95). -/
def Chain.stagesFor (ch : Chain) (k counter : Nat) (ho : List HandedZone) : List StageEntry :=
  (List.range 48).filterMap fun a =>
    if (ch.record a).assigned ∧ (ch.record a).group = some k then
      ch.stageFor k counter a (newDuties ho a)
    else none

/-- The engine takes a hand-over, or discards it: not RUNNING, departed since the frame start, or already LATE for the
group (R95, R98). -/
def Chain.takeHandOver (ch : Chain) (k counter : Nat) (late : Bool) (ho : List HandedZone) : Chain :=
  if ch.state ≠ .running ∨ ch.leftFrame ∨ late then ch
  else
    let es := ch.stagesFor k counter ho
    { ch with staging := ch.staging ++ es }.updSettle k fun x => { x with handed := true, count := x.count + es.length }

/-- The chain was found LATE for the group in this frame (R95). -/
def State.foundLate (s : State) (k c : Nat) : Bool :=
  match s.point k with
  | some p => decide (outcomeOf p.outcomes c = .late)
  | none => false

/-- Group `k` has been emitted: its mark is set and it is handed to each chain that carries it and was sampled
RUNNING (R41, R42). -/
def State.emitGroup (s : State) (k : Nat) : State :=
  { s with
    pass := { s.pass with emitted := s.pass.emitted.set k true }
    chains := s.chains.mapIdx fun c ch =>
      if (s.sampledChain c).carries.getLsbD k && (s.sampledChain c).running then
        ch.takeHandOver k s.timebase.counter (s.foundLate k c) (s.handOver k c)
      else ch }

/-- The groups emitted with block `j`: those whose zone of highest index lies in it, a group without zones going with
the nearest lower-numbered group that holds some (R27). -/
def State.groupsOfBlock (s : State) (j : Nat) : List Nat :=
  (List.range s.schedule.groups).filter fun k =>
    decide (ceilDiv (s.grid.zonesThrough s.schedule.groups k) 16 = j + 1)

/-- The engine after a block: one block more, and at the last of them IDLE, with the running-entry mark cleared if the
pass began with it set (R26, R34). -/
def PassEngine.blockDone (p : PassEngine) (count : Nat) : PassEngine :=
  if ceilDiv count 16 ≤ p.blocks + 1 then
    { p with blocks := p.blocks + 1, phase := .idle, entryMark := p.entryMark && !p.sample.entryMark }
  else { p with blocks := p.blocks + 1 }

/-- EMISSION_BLOCK: the next 16 zones are emitted, the groups they complete are handed over, and requests that have
become eligible on an idle line are granted (R27, R39 to R42, R95, R104). -/
def execEmissionBlock (s : State) : Host.Outcome State Fault Refusal :=
  if s.pass.phase = .emitting then
    let s1 := (s.blockZones s.pass.blocks).foldl State.emitZone (s.arrive s.emitDue)
    let s2 := (s.groupsOfBlock s.pass.blocks).foldl State.emitGroup s1
    .next { s2 with pass := s2.pass.blockDone s2.grid.count }.serveAll
  else .next s

/-! ## Abandonment (R44, R48) -/

/-- The pass in progress is abandoned: the engine becomes IDLE, the rest of what it wrote stays (R44). -/
def PassEngine.abandon (p : PassEngine) : PassEngine := { p with phase := .idle }

end Sys2Proof.Machine
end

