-- ==== Sys2Proof/Machine/FrameStart.lean ====
section
/-! DEFINITION. The delivery of a frame start to the blocks that act on it, in order (R52, log 9), and
PROBLEM_FRAMES. -/

namespace Sys2Proof.Machine

/-! ## The frame start itself (R52, R54) -/

/-- When the next frame start is generated, by the timebase state (R54, R57, R59). -/
def Timebase.nextPending (tb : Timebase) (now : Nat) : Option Nat :=
  match tb.state with
  | .free | .acquire => some (now + us tb.freePeriod)
  | .locked => none
  | .holdover => some (now + us (tb.period.getD tb.freePeriod))

/-- The timebase at a frame start: counter up by one modulo 65536, its moment remembered, the next one scheduled. -/
def Timebase.atFrameStart (tb : Timebase) (now : Nat) : Timebase :=
  { tb with
    counter := (tb.counter + 1) % 65536
    lastStart := now
    heldPeriod := tb.freePeriod
    pendingStart := tb.nextPending now }

/-- A frame start occurs now (R52). -/
def State.beginFrame (s : State) : State := { s with timebase := s.timebase.atFrameStart s.now }

/-! ## What the blocks do with it -/

/-- Each applied factor moves toward its target while the sequencer converts, in STARTING and RUNNING (R158). -/
def State.slewAll (s : State) : State :=
  if s.thermal.converting ∧ s.system.part ≠ .config then
    s.mapChains fun ch => { ch with applied := slew ch.applied (targetFactor s.thermal ch) }
  else s

/-- A pass still in progress is abandoned, counted and reported (R44, R45). -/
def State.overrun (s : State) : State :=
  if s.pass.phase = .idle then s
  else
    { s with
      pass := s.pass.abandon
      counters := { s.counters with overruns := sat16 s.counters.overruns } }.queueReport
        [s.entry .pass .overrun .active]

/-- The settle records and emitted marks are cleared, and the new frame has seen no departure (R98, R42, R64). -/
def State.clearFrame (s : State) : State :=
  { s with
    pass := { s.pass with emitted := List.replicate 8 false }
    chains := s.chains.map fun ch => { ch with settle := List.replicate 8 Settle.clear, leftFrame := false } }

/-- The problem mark of the period just ended for one chain (R103). -/
def State.endPeriod (s : State) (c : Nat) : State :=
  let ch := s.chain c
  if !ch.problem then s.updChain c fun x => { x with problemCount := 0 }
  else if 3 ≤ ch.problemCount + 1 then s.recover c .problemFrames
  else s.updChain c fun x => { x with problem := false, problemCount := x.problemCount + 1 }

/-- The problem marks of all chains, in chain order (R103). -/
def State.endPeriods (s : State) : State := (List.range 8).foldl State.endPeriod s

/-- A STARTING part with no chain ENUMERATING enters RUNNING, the running-entry mark set (R185, R34). -/
def State.enterService (s : State) : State :=
  if s.system.part = .starting ∧ s.chains.all (fun ch => decide (ch.state ≠ .enumerating)) then
    { s with
      system := { s.system with part := .running }
      pass := { s.pass with entryMark := true } }
  else s

/-! ## The beginning of a pass (R15, R28, R63) -/

/-- The take of the closed slot, or the count of a stale frame (R15). -/
def State.takeSlot (s : State) : State :=
  match s.request.slot with
  | some x => { s with request := { s.request with slot := none, current := x } }
  | none => s.count fun k => { k with stale := sat16 k.stale }

/-- A zone as the pass samples it, its state derived from the sample (R11, R28). -/
def State.sampleZone (s : State) (z : Zone) : SampledZone :=
  ⟨s.zoneState z, z.channel, z.gain, z.override⟩

/-- A chain as the pass samples it (R28). -/
def State.sampleChain (s : State) (c : Nat) (ch : Chain) : SampledChain :=
  ⟨decide (ch.state = .running), ch.weight, ch.applied,
    carriedMask s.grid s.schedule.groups c (s.zones.map Zone.channel)⟩

/-- The sample of a pass (Table 2-2). `taken` says whether a set was taken at this frame start. -/
def State.takeSample (s : State) (taken : Bool) : Sample where
  start := s.timebase.lastStart
  counter := s.timebase.counter
  taken := taken
  tag := s.request.current.tag
  sceneCut := s.request.current.sceneCut
  entryMark := s.pass.entryMark
  zones := s.zones.map s.sampleZone
  windows := markSampled s.windows
  rise := s.pass.rise
  fall := s.pass.fall
  budget := s.pass.budget
  chains := s.chains.mapIdx s.sampleChain
  claimed := s.claims.any

/-- A zone as a pass begins: one that has returned to service since the pass before begins from an eased level of 0 (R120,
R137, 6.3.1), though no pass stored that 0 (log 34). -/
def Zone.beginPass (z : Zone) : Zone :=
  { z with eased := if z.relit then 0 else z.eased, relit := false }

/-- A pass begins: the slot is taken, the inputs sampled, the points of the frame laid out, and commit points at or
before the frame start taken at once, in ascending group order (R15, R28, R63, log 37). Zones that have returned to
service are to ease from 0 (R120, R137). -/
def State.beginPass (s : State) : State :=
  let taken := s.request.slot.isSome
  let s1 := s.takeSlot
  let s2 := { s1 with
    zones := s1.zones.map Zone.beginPass
    windows := markSampled s1.windows
    pass := { s1.pass with
      phase := .composing
      sample := s1.takeSample taken
      work := List.replicate s1.grid.count ⟨0, 0, 0, 0⟩
      power := 0
      blocks := 0 }
    schedule := { s1.schedule with points := s1.layPoints } }
  s2.commitGroups (s2.commitsAt s2.timebase.lastStart)

/-- A pass begins if the part is RUNNING and HOLD is not in force from this frame start (R25). -/
def State.maybePass (s : State) : State :=
  if s.system.part = .running ∧ s.schedule.hold ≠ .inForce then s.beginPass else s

/-- The delivery of a frame start: slew; closing of the previous frame; overrun; clearing; problem frames; HOLD; entry
to RUNNING; pass; idle lines served (R52, log 9). -/
def State.deliverFrame (s : State) : State :=
  s.slewAll.closeFrame.overrun.clearFrame.endPeriods.moveHold.enterService.maybePass.serveAll

/-- A frame start now (R52). -/
def State.frameStart (s : State) : State := s.beginFrame.deliverFrame

/-! ## Meaning -/

/-- PROBLEM_FRAMES: a chain whose count of problem frames reaches 3 with the period's mark goes to RECOVERING (R103);
otherwise nothing. A frame start does the same in itself (log 10). -/
def execProblemFrames (c : Nat) (s : State) : Host.Outcome State Fault Refusal :=
  if (s.chain c).state = .running ∧ (s.chain c).problem ∧ 3 ≤ (s.chain c).problemCount + 1 then
    .next (s.recover c .problemFrames)
  else .next s

end Sys2Proof.Machine
end

