-- ==== Sys2Proof/Machine/SystemFormat.lean ====
section
/-! DEFINITION. The wire form of system commands (12.4, R194, Table 12-5). -/

namespace Sys2Proof.Machine

/-- The command code (Table 12-5). -/
def SysCommand.code : SysCommand → Nat
  | .setGrid => 1
  | .setChain => 2
  | .mapZone => 3
  | .unmapZone => 4
  | .setGroups => 5
  | .setProfile => 6
  | .setPower => 7
  | .setEasing => 8
  | .setService => 9
  | .setThermal => 10
  | .setTimebase => 11
  | .followSync => 12
  | .freeRun => 13
  | .loadGains => 14
  | .setOverride => 15
  | .clearOverride => 16
  | .clearFault => 17
  | .clearWindows => 18
  | .start => 19
  | .stop => 20
  | .restartChain => 21
  | .driverTrim => 22
  | .driverIdent => 23
  | .blank => 24
  | .takeReport => 25
  | .readSnapshot => 26
  | .probe => 27
  | .readProbe => 28
  | .readZone => 29
  | .readCounters => 30
  | .readState => 31
  | .softRestart => 32

/-- The command a code names (Table 12-5). -/
def sysCommandOf (code : Nat) : Option SysCommand :=
  match code with
  | 1 => some .setGrid
  | 2 => some .setChain
  | 3 => some .mapZone
  | 4 => some .unmapZone
  | 5 => some .setGroups
  | 6 => some .setProfile
  | 7 => some .setPower
  | 8 => some .setEasing
  | 9 => some .setService
  | 10 => some .setThermal
  | 11 => some .setTimebase
  | 12 => some .followSync
  | 13 => some .freeRun
  | 14 => some .loadGains
  | 15 => some .setOverride
  | 16 => some .clearOverride
  | 17 => some .clearFault
  | 18 => some .clearWindows
  | 19 => some .start
  | 20 => some .stop
  | 21 => some .restartChain
  | 22 => some .driverTrim
  | 23 => some .driverIdent
  | 24 => some .blank
  | 25 => some .takeReport
  | 26 => some .readSnapshot
  | 27 => some .probe
  | 28 => some .readProbe
  | 29 => some .readZone
  | 30 => some .readCounters
  | 31 => some .readState
  | 32 => some .softRestart
  | _ => none

/-- The command that the first byte of a write names, if any. -/
def namedCommand (bytes : List Byte) : Option SysCommand :=
  match bytes with
  | [] => none
  | b :: _ => sysCommandOf b.toNat

/-- The length in bytes that a command's write requires, its code included (Table 12-5). -/
def SysCommand.length (cmd : SysCommand) (bytes : List Byte) : Nat :=
  match cmd with
  | .setGrid => 3
  | .setChain => 6
  | .mapZone => 6
  | .unmapZone => 3
  | .setGroups => 20
  | .setProfile => 2
  | .setPower => 3
  | .setEasing => 5
  | .setService => 5
  | .setThermal => 8
  | .setTimebase => 3
  | .followSync | .freeRun => 1
  | .loadGains => 4 + 2 * num bytes 3 1
  | .setOverride => 5
  | .clearOverride | .clearFault => 3
  | .clearWindows | .start | .stop => 1
  | .restartChain => 2
  | .driverTrim => 4
  | .driverIdent => 3
  | .blank => 2
  | .takeReport => 1
  | .readSnapshot => 3
  | .probe => 4
  | .readProbe => 1
  | .readZone => 3
  | .readCounters | .readState | .softRestart => 1

/-- A write names a command and has the length it requires (R180). -/
def writeFits (bytes : List Byte) : Bool :=
  match namedCommand bytes with
  | none => false
  | some cmd => decide (cmd.length bytes = bytes.length)

/-- `count` numbers of two bytes from byte `start` on. -/
def words (bytes : List Byte) (start count : Nat) : List Nat :=
  (List.range count).map fun i => num bytes (start + 2 * i) 2

/-- The sensor a sensor field names: 255 for none (Table 12-5). -/
def sensorField (n : Nat) : Option Nat := if n = 255 then none else some n

/-- Bit 0 of a byte. -/
def bit0 (bytes : List Byte) (start : Nat) : Bool := decide (num bytes start 1 % 2 = 1)

/-- The command that the bytes of a fitting write spell, taken at moment `t` (Table 12-5). -/
def SysCommand.read (cmd : SysCommand) (t : Nat) (bytes : List Byte) : Instr :=
  match cmd with
  | .setGrid => .setGrid t (num bytes 1 1) (num bytes 2 1)
  | .setChain => .setChain t (num bytes 1 1) (num bytes 2 1) (num bytes 3 2) (sensorField (num bytes 5 1))
  | .mapZone => .mapZone t (num bytes 1 2) (num bytes 3 1) (num bytes 4 1) (num bytes 5 1)
  | .unmapZone => .unmapZone t (num bytes 1 2)
  | .setGroups => .setGroups t (num bytes 1 1) (words bytes 2 8) (num bytes 18 2)
  | .setProfile => .setProfile t (if bit0 bytes 1 then .dense else .sparse)
  | .setPower => .setPower t (BitVec.ofNat 16 (num bytes 1 2))
  | .setEasing => .setEasing t (BitVec.ofNat 16 (num bytes 1 2)) (BitVec.ofNat 16 (num bytes 3 2))
  | .setService => .setService t (num bytes 1 2) (num bytes 3 2)
  | .setThermal =>
    .setThermal t
      ⟨signedNum bytes 1 1, signedNum bytes 2 2, signedNum bytes 4 1, signedNum bytes 5 1, num bytes 6 2⟩
  | .setTimebase => .setTimebase t (num bytes 1 2)
  | .followSync => .followSync t
  | .freeRun => .freeRun t
  | .loadGains => .loadGains t (num bytes 1 2) (words bytes 4 (num bytes 3 1))
  | .setOverride => .setOverride t (num bytes 1 2) (num bytes 3 2)
  | .clearOverride => .clearOverride t (num bytes 1 2)
  | .clearFault => .clearFault t (num bytes 1 2)
  | .clearWindows => .clearWindows t
  | .start => .start t
  | .stop => .stop t
  | .restartChain => .restartChain t (num bytes 1 1)
  | .driverTrim => .driverTrim t (num bytes 1 1) (num bytes 2 1) (num bytes 3 1)
  | .driverIdent => .driverIdent t (num bytes 1 1) (num bytes 2 1)
  | .blank => .systemBlank t (bit0 bytes 1)
  | .takeReport => .takeReport t
  | .readSnapshot => .readSnapshot t (num bytes 1 1) (num bytes 2 1)
  | .probe => .probe t (num bytes 1 2) (if bit0 bytes 3 then .every else .once)
  | .readProbe => .readProbe t
  | .readZone => .readZone t (num bytes 1 2)
  | .readCounters => .readCounters t
  | .readState => .readState t
  | .softRestart => .softRestart t

/-- What a write is (R180, R194): no command when it carries no byte, the command it spells, or the refused write of
UNKNOWN_COMMAND_WRITE. -/
def decodeWrite (t : Nat) (bytes : List Byte) : Option Instr :=
  match bytes, namedCommand bytes with
  | [], _ => none
  | _, some cmd => if cmd.length bytes = bytes.length then some (cmd.read t bytes) else some (.unknownCommandWrite t bytes)
  | _, none => some (.unknownCommandWrite t bytes)

/-- A sensor field: 255 for none (Table 12-5). -/
def sensorByte (sensor : Option Nat) : List Byte := natBytes 1 (sensor.getD 255)

/-- The code of a profile (Table 12-5). -/
def profileCode : Profile → Nat
  | .sparse => 0
  | .dense => 1

/-- The code of a probe mode (Table 12-5). -/
def modeCode : ProbeMode → Nat
  | .once => 0
  | .every => 1

/-- The bytes of a write of one system command: its code and its parameters. -/
def sysWrite (cmd : SysCommand) (params : List Byte) : Option (List Byte) := some (natBytes 1 cmd.code ++ params)

/-- The bytes of a system command's write, none for a command of another port (Table 12-5). -/
def encodeWrite : Instr → Option (List Byte)
  | .setGrid _ cols rows => sysWrite .setGrid (natBytes 1 cols ++ natBytes 1 rows)
  | .setChain _ c d w sensor =>
    sysWrite .setChain (natBytes 1 c ++ natBytes 1 d ++ natBytes 2 w ++ sensorByte sensor)
  | .mapZone _ z c p k => sysWrite .mapZone (natBytes 2 z ++ natBytes 1 c ++ natBytes 1 p ++ natBytes 1 k)
  | .unmapZone _ z => sysWrite .unmapZone (natBytes 2 z)
  | .setGroups _ g offsets lead =>
    sysWrite .setGroups (natBytes 1 g ++ offsets.flatMap (natBytes 2) ++ natBytes 2 lead)
  | .setProfile _ p => sysWrite .setProfile (natBytes 1 (profileCode p))
  | .setPower _ b => sysWrite .setPower (natBytes 2 b.toNat)
  | .setEasing _ rise fall => sysWrite .setEasing (natBytes 2 rise.toNat ++ natBytes 2 fall.toNat)
  | .setService _ poll hold => sysWrite .setService (natBytes 2 poll ++ natBytes 2 hold)
  | .setThermal _ p =>
    sysWrite .setThermal
      (intBytes 1 p.a ++ intBytes 2 p.m ++ intBytes 1 p.tStart ++ intBytes 1 p.tStop ++ natBytes 2 p.hMin)
  | .setTimebase _ f => sysWrite .setTimebase (natBytes 2 f)
  | .followSync _ => sysWrite .followSync []
  | .freeRun _ => sysWrite .freeRun []
  | .loadGains _ start gains =>
    sysWrite .loadGains (natBytes 2 start ++ natBytes 1 gains.length ++ gains.flatMap (natBytes 2))
  | .setOverride _ z l => sysWrite .setOverride (natBytes 2 z ++ natBytes 2 l)
  | .clearOverride _ z => sysWrite .clearOverride (natBytes 2 z)
  | .clearFault _ z => sysWrite .clearFault (natBytes 2 z)
  | .clearWindows _ => sysWrite .clearWindows []
  | .start _ => sysWrite .start []
  | .stop _ => sysWrite .stop []
  | .restartChain _ c => sysWrite .restartChain (natBytes 1 c)
  | .driverTrim _ c a code => sysWrite .driverTrim (natBytes 1 c ++ natBytes 1 a ++ natBytes 1 code)
  | .driverIdent _ c a => sysWrite .driverIdent (natBytes 1 c ++ natBytes 1 a)
  | .systemBlank _ on => sysWrite .blank (natBytes 1 on.toNat)
  | .takeReport _ => sysWrite .takeReport []
  | .readSnapshot _ b g => sysWrite .readSnapshot (natBytes 1 b ++ natBytes 1 g)
  | .probe _ z mode => sysWrite .probe (natBytes 2 z ++ natBytes 1 (modeCode mode))
  | .readProbe _ => sysWrite .readProbe []
  | .readZone _ z => sysWrite .readZone (natBytes 2 z)
  | .readCounters _ => sysWrite .readCounters []
  | .readState _ => sysWrite .readState []
  | .softRestart _ => sysWrite .softRestart []
  | .unknownCommandWrite _ bytes => if bytes.isEmpty then none else some bytes
  | _ => none

end Sys2Proof.Machine
end

