-- ==== Sys2Proof/Machine/System.lean ====
section
/-! DEFINITION. The commands of the system port's own chapter (11.2, 11.4, 11.5): SET_CHAIN, SET_GROUPS,
SET_PROFILE, SET_POWER, SET_EASING, SET_SERVICE, READ_COUNTERS, READ_STATE, UNKNOWN_COMMAND_WRITE. -/

namespace Sys2Proof.Machine

/-! ## Configuration (R164, R181 to R183) -/

/-- A sensor field that names neither a sensor nor none (R181). -/
def badSensor : Option Nat → Bool
  | none => false
  | some i => decide (7 < i)

/-- The state of a chain whose driver count becomes `d` (R114). -/
def Chain.stateFor (ch : Chain) (d : Nat) : ChainState :=
  if d = ch.drivers then ch.state else if d = 0 then .unused else .stopped

/-- A chain with the settings of an accepted SET CHAIN (R181). -/
def Chain.configure (ch : Chain) (d weight : Nat) (sensor : Option Nat) : Chain :=
  { ch with state := ch.stateFor d, drivers := d, weight := clampWeight weight, sensor := sensor }

/-- SET_CHAIN (R114, R155, R181). -/
def execSetChain (t : Nat) (c d weight : Nat) (sensor : Option Nat) (s : State) :
    Host.Outcome State Fault Refusal :=
  let s1 := s.arrive t
  if 7 < c ∨ 48 < d ∨ badSensor sensor then .next (s1.answer .setChain .range)
  else if s1.system.part ≠ .config ∧ d ≠ (s1.chain c).drivers then .next (s1.answer .setChain .wrongState)
  else
    .next ((s1.updChain c fun ch => ch.configure d weight sensor).answer .setChain
      (if clampWeight weight = weight then .done else .clamped))

/-- The parameters of SET GROUPS are in range (R182). -/
def groupsInRange (g : Nat) (offsets : List Nat) (lead : Nat) : Bool :=
  decide (1 ≤ g ∧ g ≤ 8) && decide (offsets.length = 8) && offsets.all (fun x => decide (x ≤ 1023))
    && decide (100 ≤ lead ∧ lead ≤ 4000)

/-- SET_GROUPS (R3, R62, R182). -/
def execSetGroups (t : Nat) (g : Nat) (offsets : List Nat) (lead : Nat) (s : State) :
    Host.Outcome State Fault Refusal :=
  let s1 := s.arrive t
  if !groupsInRange g offsets lead then .next (s1.answer .setGroups .range)
  else if s1.system.part ≠ .config ∧ g ≠ s1.schedule.groups then .next (s1.answer .setGroups .wrongState)
  else
    .next ({ s1 with
      schedule := { s1.schedule with groups := g, offsets := offsets, lead := lead } }.answer .setGroups .done)

/-- SET_PROFILE (R164). -/
def execSetProfile (t : Nat) (profile : Profile) (s : State) : Host.Outcome State Fault Refusal :=
  let s1 := s.arrive t
  if s1.system.part ≠ .config then .next (s1.answer .setProfile .wrongState)
  else
    .next ({ s1 with picture := { s1.picture with profile := profile, pointer := 0 } }.answer .setProfile .done)

/-- SET_POWER (R30, R183). -/
def execSetPower (t : Nat) (budget : BitVec 16) (s : State) : Host.Outcome State Fault Refusal :=
  let s1 := s.arrive t
  .next ({ s1 with pass := { s1.pass with budget := budget.toNat } }.answer .setPower .done)

/-- A step field: its low twelve bits are examined (Table 12-5). -/
def stepField (x : BitVec 16) : Nat := x.toNat % 4096

/-- SET_EASING (R30, R183). -/
def execSetEasing (t : Nat) (rise fall : BitVec 16) (s : State) : Host.Outcome State Fault Refusal :=
  let s1 := s.arrive t
  if stepField rise = 0 ∨ stepField fall = 0 then .next (s1.answer .setEasing .range)
  else
    .next ({ s1 with
      pass := { s1.pass with rise := stepField rise, fall := stepField fall } }.answer .setEasing .done)

/-- The poll interval in µs and hold time in ms are in range and on their steps (R109, R147, R183). -/
def serviceInRange (pollUs holdMs : Nat) : Bool :=
  decide (500 ≤ pollUs ∧ pollUs ≤ 16000 ∧ pollUs % 500 = 0)
    && decide (250 ≤ holdMs ∧ holdMs ≤ 8000 ∧ holdMs % 250 = 0)

/-- The tick timer of a RUNNING chain starts again (R109). -/
def Chain.restartTick (ch : Chain) (due : Nat) : Chain :=
  if ch.state = .running then { ch with pollDue := some due } else ch

/-- SET_SERVICE (R109, R147, R183). -/
def execSetService (t : Nat) (pollUs holdMs : Nat) (s : State) : Host.Outcome State Fault Refusal :=
  let s1 := s.arrive t
  if serviceInRange pollUs holdMs then
    let s2 := s1.mapChains fun ch => ch.restartTick (s1.now + us pollUs)
    .next ({ s2 with
      system := { s2.system with pollInterval := pollUs }
      reports := { s2.reports with holdTime := holdMs } }.answer .setService .done)
  else .next (s1.answer .setService .range)

/-! ## READ COUNTERS (R188) -/

/-- The counters of a chain. -/
def Chain.counters (ch : Chain) : ChainCounters := ⟨ch.damaged, ch.late, ch.recoveries⟩

/-- A chain with its counters at 0. -/
def Chain.clearCounters (ch : Chain) : Chain := { ch with damaged := 0, late := 0, recoveries := 0 }

/-- Every counter set to 0 (R188). -/
def State.clearCounters (s : State) : State :=
  { s with counters := Counters.zero, chains := s.chains.map Chain.clearCounters }

/-- READ_COUNTERS: every counter returned and set to 0 (R188). -/
def execReadCounters (t : Nat) (s : State) : Host.Outcome State Fault Refusal :=
  let s1 := s.arrive t
  .next (s1.clearCounters.respond (some .readCounters) .done
    (.counters s1.counters (s1.chains.map Chain.counters)))

/-! ## READ STATE (R160, R189) -/

/-- The items of one chain (Table 11-3). -/
def State.chainReportOf (s : State) (ch : Chain) : ChainReport :=
  ⟨ch.state, ch.drivers, ch.count, ch.attempts, ch.cause, blankLine ch s.claims, ch.weight, ch.sensor,
    targetFactor s.thermal ch, ch.applied⟩

/-- The items of one sensor (Table 11-3). -/
def Sensor.report (x : Sensor) : SensorReport := ⟨x.average, x.temperature, x.fault⟩

/-- The contents of READ STATE at this moment (Table 11-3). -/
def State.report (s : State) : StateReport where
  part := s.system.part
  grid := s.grid
  groups := s.schedule.groups
  offsets := s.schedule.offsets
  lead := s.schedule.lead
  profile := s.picture.profile
  budget := s.pass.budget
  rise := s.pass.rise
  fall := s.pass.fall
  pollInterval := s.system.pollInterval
  holdTime := s.reports.holdTime
  phase := s.pass.phase
  scale := s.pass.scale
  slotFull := s.request.slot.isSome
  tag := s.request.current.tag
  sceneCut := s.request.current.sceneCut
  timebase := s.timebase.state
  freePeriod := s.timebase.freePeriod
  period := s.timebase.period
  freeRun := s.timebase.freeRun
  counter := s.timebase.counter
  hold := s.schedule.hold
  holdCount := s.schedule.holdCount
  holdMax := s.schedule.holdMax
  chains := s.chains.map s.chainReportOf
  claims := s.claims
  converting := s.thermal.converting
  params := s.thermal.params
  sensors := s.thermal.sensors.map Sensor.report
  windows := s.windows
  entries := s.reports.queue.length
  alert := s.reports.alert
  armed := s.reports.armed

/-- READ_STATE (R189). -/
def execReadState (t : Nat) (s : State) : Host.Outcome State Fault Refusal :=
  let s1 := s.arrive t
  .next (s1.respond (some .readState) .done (.state s1.report))

/-! ## Writes that are no command (R180) -/

/-- UNKNOWN_COMMAND_WRITE: a first byte that names no command, or a wrong length, is refused RANGE (R180; the command
kind in the buffer is log 20). A write of no byte is no command, and bytes that fit one are not this event (log 3). -/
def execUnknownCommandWrite (t : Nat) (bytes : List Byte) (s : State) : Host.Outcome State Fault Refusal :=
  let s1 := s.arrive t
  if bytes.isEmpty || writeFits bytes then .next s1
  else .next (s1.respond (namedCommand bytes) .range .none)

end Sys2Proof.Machine
end

