-- ==== Sys2Proof/Machine/Thermal.lean ====
section
/-! DEFINITION. The thermal unit (chapter 8): CONVERSION_COMPLETE and SET_THERMAL. -/

namespace Sys2Proof.Machine

/-- A code average out of range (R152). -/
def outOfRange (average : Nat) : Bool := decide (average ≤ 8) || decide (1015 ≤ average)

/-- A code that is not discarded joins the list as the newest of at most four, and the average, fault mark and
temperature are formed afresh (R151, R152, R153). -/
def Sensor.join (x : Sensor) (p : ThermalParams) (code : Nat) : Sensor :=
  let codes := (code :: x.codes).take 4
  let average := codes.sum / codes.length
  ⟨x.discard, codes, outOfRange average, some (temperatureOf p average)⟩

/-- A conversion of a sensor completes (R151). -/
def Sensor.take (x : Sensor) (p : ThermalParams) (code : Nat) : Sensor :=
  if x.discard then { x with discard := false } else x.join p code

/-- The moment the conversion in progress completes (R150). -/
def Thermal.due (th : Thermal) : Nat := th.startedAt + us (20 * (th.done + 1))

/-- The sensor being converted (R150). -/
def Thermal.current (th : Thermal) : Nat := th.done % 8

/-- The thermal unit after a conversion gives a code (R150, R151). -/
def Thermal.convert (th : Thermal) (code : Nat) : Thermal :=
  { th with
    done := th.done + 1
    sensors := th.sensors.modify th.current fun x => x.take th.params code }

/-- The report of a change of a sensor's fault mark (R152). -/
def State.reportSensor (s : State) (i : Nat) (before after : Bool) : State :=
  if before = after then s
  else s.queueReport [s.entry (.sensor i) .sensorFault (if after then .degraded else .recovered)]

/-- The fault mark of a sensor. -/
def Thermal.faultMark (th : Thermal) (i : Nat) : Bool := (th.sensors.getD i Sensor.fresh).fault

/-- CONVERSION_COMPLETE: the conversion in progress completes and gives its code (R150 to R153). While STOPPED,
nothing. -/
def execConversionComplete (code : BitVec 10) (s : State) : Host.Outcome State Fault Refusal :=
  if s.thermal.converting then
    let i := s.thermal.current
    let th := s.thermal.convert code.toNat
    .next ({ s.arrive s.thermal.due with thermal := th }.reportSensor i (s.thermal.faultMark i) (th.faultMark i))
  else .next s

/-- Every parameter lies in its range, and T_start is below T_stop (R154). -/
def thermalInRange (p : ThermalParams) : Bool :=
  decide (-128 ≤ p.a ∧ p.a ≤ 127) && decide (-4096 ≤ p.m ∧ p.m ≤ 4095)
    && decide (-128 ≤ p.tStart ∧ p.tStart ≤ 127) && decide (-128 ≤ p.tStop ∧ p.tStop ≤ 127)
    && decide (64 ≤ p.hMin ∧ p.hMin ≤ 256) && decide (p.tStart < p.tStop)

/-- SET_THERMAL (R154). -/
def execSetThermal (t : Nat) (p : ThermalParams) (s : State) : Host.Outcome State Fault Refusal :=
  let s1 := s.arrive t
  if thermalInRange p then
    .next ({ s1 with thermal := { s1.thermal with params := p } }.answer .setThermal .done)
  else .next (s1.answer .setThermal .range)

/-- The sequencer made CONVERTING at a START: every discard mark set, every list emptied, fault marks kept (R151,
R159). -/
def Thermal.startConverting (th : Thermal) (now : Nat) : Thermal :=
  { th with
    converting := true
    startedAt := now
    done := 0
    sensors := th.sensors.map fun x => { x with discard := true, codes := [], temperature := none } }

end Sys2Proof.Machine
end

