-- ==== Sys2Proof/Machine/Operating.lean ====
section
/-! DEFINITION. The starting points of the part (11.3): POWER_ON, START, STOP, SOFT_RESTART. -/

namespace Sys2Proof.Machine

/-- POWER_ON: every item at its power-on value (R187). The commands that wait go on waiting. -/
def execPowerOn (t : Nat) (s : State) : Host.Outcome State Fault Refusal :=
  .next (State.powered (max s.now t) s.pending)

/-! ## START (R184) -/

/-- A chain at an accepted START: ENUMERATING if its driver count is above 0 (R115, R116). -/
def Chain.startUp (ch : Chain) (now : Nat) : Chain :=
  if ch.drivers = 0 then ch else ch.beginEnumeration now false

/-- START (R184). -/
def execStart (t : Nat) (s : State) : Host.Outcome State Fault Refusal :=
  let s1 := s.arrive t
  if s1.system.part ≠ .config then .next (s1.answer .start .wrongState)
  else if !startConsistent s1 then .next (s1.answer .start .inconsistent)
  else
    .next ({ s1 with
      system := { s1.system with part := .starting }
      chains := s1.chains.map (Chain.startUp · s1.now)
      thermal := s1.thermal.startConverting s1.now }.answer .start .done)

/-! ## STOP (R186) -/

/-- The engine at STOP: a pass in progress abandoned with its working store, the running-entry and emitted marks
cleared (R48, R51). -/
def PassEngine.stop (p : PassEngine) : PassEngine :=
  let q := if p.phase = .idle then p else { p.abandon with work := [], power := 0 }
  { q with entryMark := false, emitted := List.replicate 8 false }

/-- STOP (R186). The LINK ERROR of an outstanding DIRECT command is replaced in the buffer by STOP's own response
(R180). -/
def execStop (t : Nat) (s : State) : Host.Outcome State Fault Refusal :=
  let s1 := s.arrive t
  .next ({ s1 with
    pass := s1.pass.stop
    schedule := { s1.schedule with points := List.replicate 8 none }
    chains := s1.chains.map (Chain.halt · s1.now)
    thermal := { s1.thermal with converting := false }
    system := { s1.system with part := .config } }.answer .stop .done)

/-! ## SOFT RESTART (R187) -/

/-- A zone record after soft restart (R4, R9, R130), its fault NONE though it was MISSING (log 35). -/
def Zone.restart (z : Zone) : Zone := { z with override := none, fault := .none, eased := 0, shown := 0, relit := false }

/-- The engine after soft restart, for N zones (R49, R51). -/
def PassEngine.restart (p : PassEngine) (n : Nat) : PassEngine :=
  { p with
    phase := .idle
    work := List.replicate n ⟨0, 0, 0, 0⟩
    power := 0
    scale := 65536
    entryMark := false
    emitted := List.replicate 8 false
    buffer := List.replicate n 0 }

/-- The timebase after soft restart (R53). -/
def Timebase.restart (tb : Timebase) (now : Nat) : Timebase :=
  { state := .free
    freePeriod := tb.freePeriod
    heldPeriod := tb.freePeriod
    period := none
    lastStart := now
    lastEdge := none
    freeRun := false
    pendingStart := some (now + us tb.freePeriod)
    counter := 0 }

/-- The schedule after soft restart: G, offsets and lead kept (R69, R70, R182). -/
def Schedule.restart (x : Schedule) : Schedule :=
  { x with points := List.replicate 8 none, hold := .none, holdCount := 0, holdMax := 1, resumeMark := false }

/-- A chain after soft restart (R113, R125, R130, R158, R188; the sent-frame count is log 14). -/
def Chain.restart (ch : Chain) (now : Nat) : Chain :=
  { ch.halt now with
    cause := none
    latched := false
    applied := 256
    sentCount := 0
    damaged := 0
    late := 0
    recoveries := 0 }

/-- The thermal unit after soft restart: parameters kept (R159). -/
def Thermal.restart (th : Thermal) : Thermal :=
  { th with converting := false, sensors := th.sensors.map fun _ => Sensor.fresh }

/-- The report unit after soft restart: the hold time kept (R145, R147, R149). -/
def ReportUnit.restart (r : ReportUnit) : ReportUnit :=
  { r with queue := [], alert := false, armed := true, buffers := r.buffers.map fun _ => SnapBuffer.fresh }

/-- The part as SOFT RESTART sets it (R187). -/
def State.restart (s : State) : State :=
  { s with
    zones := s.zones.map Zone.restart
    request := RequestStore.fresh s.grid.count
    windows := []
    probe := Probe.fresh
    pass := s.pass.restart s.grid.count
    timebase := s.timebase.restart s.now
    schedule := s.schedule.restart
    chains := s.chains.map (Chain.restart · s.now)
    reports := s.reports.restart
    thermal := s.thermal.restart
    picture := { s.picture with result := .done, pointer := 0, errorMark := false }
    system := { s.system with part := .config }
    counters := Counters.zero }

/-- SOFT_RESTART (R187). An outstanding DIRECT command receives no result (R180). -/
def execSoftRestart (t : Nat) (s : State) : Host.Outcome State Fault Refusal :=
  .next ((s.arrive t).restart.answer .softRestart .done)

end Sys2Proof.Machine
end

