-- ==== Sys2Proof/Machine/Panel.lean ====
section
/-! DEFINITION. The panel port (chapter 10): HOLD, PANEL_WINDOW, PANEL_UNWINDOW, PANEL_BLANK, MESSAGE_DISCARDED,
OUTGOING_MESSAGE_END. RESUME stands in Schedule.lean. -/

namespace Sys2Proof.Machine

/-- A message is discarded: counted and reported, each time (R175). -/
def State.discardMessage (s : State) : State :=
  { s with
    counters := { s.counters with panelDiscarded := sat16 s.counters.panelDiscarded } }.queueReport
      [s.entry .panelPort .messageDiscarded .active]

/-- MESSAGE_DISCARDED: the effect is one whichever test failed (R175). -/
def execMessageDiscarded (t : Nat) (_reason : DiscardReason) (s : State) : Host.Outcome State Fault Refusal :=
  .next (s.arrive t).discardMessage

/-- HOLD received (R70, R176). A HOLD of 0 frames is discarded (R175). -/
def execHold (t : Nat) (maxFrames : BitVec 8) (s : State) : Host.Outcome State Fault Refusal :=
  let s1 := s.arrive t
  if maxFrames = 0 then .next s1.discardMessage
  else .next { s1 with schedule := s1.schedule.takeHold maxFrames.toNat }

/-- PANEL_WINDOW: executed, or refused with a WINDOW REFUSED notice (R18, R176, R178). -/
def execPanelWindow (t : Nat) (w : WindowFields) (s : State) : Host.Outcome State Fault Refusal :=
  let s1 := s.arrive t
  match placeWindow s1.grid .panel w s1.windows with
  | .ok ws => .next { s1 with windows := ws }
  | .error r => .next (s1.placeNotice ⟨w.number, r⟩)

/-- PANEL_UNWINDOW (R19, R176, R178). -/
def execPanelUnwindow (t : Nat) (number : Nat) (s : State) : Host.Outcome State Fault Refusal :=
  let s1 := s.arrive t
  if 7 < number then .next (s1.placeNotice ⟨number, .range⟩)
  else .next { s1 with windows := removeWindow .panel number s1.windows }

/-- PANEL_BLANK (R126, R128, R176). -/
def execPanelBlank (t : Nat) (on : Bool) (s : State) : Host.Outcome State Fault Refusal :=
  let s1 := s.arrive t
  .next (s1.moveClaims { s1.claims with panel := on } (s1.claims.panel && !on))

/-- OUTGOING_MESSAGE_END: the end symbol of the message being sent has been sent, and what waits next is begun (R173,
R179). With no message being sent, nothing. -/
def execOutgoingMessageEnd (s : State) : Host.Outcome State Fault Refusal :=
  match s.panel.sending with
  | none => .next s
  | some x =>
    let s1 := s.arrive x.ends
    .next { s1 with panel := { s1.panel with sending := none } }.servePanel

end Sys2Proof.Machine
end

