-- ==== Sys2Proof/Machine/PictureFormat.lean ====
section
/-! DEFINITION. The wire form of picture messages and of the response (12.3, R193). -/

namespace Sys2Proof.Machine

/-- The length in bytes that a message's kind, and for a run its count, requires (Table 12-2); none for a kind byte
outside 1..9. A run too short to carry its count requires more than it has. -/
def pictureLength (bytes : List Byte) : Option Nat :=
  let count := num bytes 3 1 + 1
  match num bytes 0 1 with
  | 1 => some (4 + ceilDiv (12 * count) 8)
  | 2 => some (4 + count)
  | 3 => some (4 + ceilDiv count 2)
  | 4 => some 6
  | 5 => some 5
  | 6 => some 11
  | 7 => some 5
  | 8 => some 5
  | 9 => some 5
  | _ => none

/-- The bytes and the bits beyond the last whole byte are a message, but no well-formed one (R161, R163). -/
def malformed (bytes : List Byte) (extraBits : Nat) : Bool :=
  !bytes.isEmpty && (decide (0 < extraBits) || decide (pictureLength bytes ≠ some bytes.length))

/-- A rectangle from four bytes. -/
def readRect (bytes : List Byte) (start : Nat) : Rect :=
  ⟨num bytes start 1, num bytes (start + 1) 1, num bytes (start + 2) 1, num bytes (start + 3) 1⟩

/-- The fields of a WINDOW from byte `start` on (Table 12-2). -/
def readWindow (bytes : List Byte) (start : Nat) : WindowFields :=
  { number := num bytes start 1
    kind := if num bytes (start + 1) 1 % 2 = 1 then .ceiling else .floor
    rect := readRect bytes (start + 2)
    level := num bytes (start + 6) 2
    lifetime := num bytes (start + 8) 2 }

/-- The packed values of a run. -/
def runBits (bytes : List Byte) : List Bool := byteBits (bytes.drop 4)

/-- The message that well-formed bytes spell, taken at moment `t` (R193). -/
def decodePicture (t : Nat) (bytes : List Byte) : Option Instr :=
  if pictureLength bytes ≠ some bytes.length then none
  else
    let count := num bytes 3 1 + 1
    match num bytes 0 1 with
    | 1 => some (.run12 t (num bytes 1 2) (unpack 12 count (runBits bytes)))
    | 2 => some (.run8 t (num bytes 1 2) (unpack 8 count (runBits bytes)))
    | 3 => some (.fine4 t (num bytes 1 2) (unpack 4 count (runBits bytes)))
    | 4 => some (.nudge t (readRect bytes 1) (BitVec.ofNat 8 (num bytes 5 1)))
    | 5 => some (.close t (BitVec.ofNat 8 (num bytes 1 1)) (decide (num bytes 2 1 % 2 = 1)))
    | 6 => some (.pictureWindow t (readWindow bytes 1))
    | 7 => some (.pictureUnwindow t (num bytes 1 1))
    | 8 => some (.pictureBlank t (decide (num bytes 1 1 % 2 = 1)))
    | 9 => some (.status t)
    | _ => none

/-- A rectangle as four bytes. -/
def rectBytes (r : Rect) : List Byte := natBytes 1 r.col0 ++ natBytes 1 r.row0 ++ natBytes 1 r.col1 ++ natBytes 1 r.row1

/-- The code of a window kind (Table 12-2). -/
def windowCode : WindowKind → Nat
  | .floor => 0
  | .ceiling => 1

/-- The fields of a WINDOW as bytes (Table 12-2). -/
def windowBytes (w : WindowFields) : List Byte :=
  natBytes 1 w.number ++ natBytes 1 (windowCode w.kind) ++ rectBytes w.rect ++ natBytes 2 w.level
    ++ natBytes 2 w.lifetime

/-- The bytes of a run (Table 12-2). -/
def runBytes {width : Nat} (code start : Nat) (values : List (BitVec width)) : List Byte :=
  natBytes 1 code ++ natBytes 2 start ++ natBytes 1 (values.length - 1) ++ pack values

/-- A short message of five bytes: its kind, its fields, and fill. -/
def shortBytes (code : Nat) (fields : List Byte) : List Byte := natBytes 1 code ++ (fields ++ natBytes 4 0).take 4

/-- The bytes of a picture message, none for a command of another port (R193). -/
def encodePicture : Instr → Option (List Byte)
  | .run12 _ start values => some (runBytes 1 start values)
  | .run8 _ start values => some (runBytes 2 start values)
  | .fine4 _ start values => some (runBytes 3 start values)
  | .nudge _ rect delta => some (natBytes 1 4 ++ rectBytes rect ++ [delta])
  | .close _ tag sceneCut => some (shortBytes 5 (tag :: natBytes 1 sceneCut.toNat))
  | .pictureWindow _ w => some (natBytes 1 6 ++ windowBytes w)
  | .pictureUnwindow _ number => some (shortBytes 7 (natBytes 1 number))
  | .pictureBlank _ on => some (shortBytes 8 (natBytes 1 on.toNat))
  | .status _ => some (shortBytes 9 [])
  | _ => none

/-- The result code of the response (Table 12-3). -/
def PictureResult.code : PictureResult → Nat
  | .done => 0
  | .truncated => 1
  | .range => 2
  | .full => 3
  | .wrongProfile => 4
  | .sequence => 5
  | .incomplete => 6
  | .malformed => 7

/-- The five bytes of the response (Table 12-3). -/
def PictureResponse.bytes (r : PictureResponse) : List Byte :=
  natBytes 1 r.result.code ++ natBytes 2 (32768 * r.slotFull.toNat + r.pointer) ++ natBytes 2 r.counter

end Sys2Proof.Machine
end

