-- ==== Sys2Proof/Machine/Picture.lean ====
section
/-! DEFINITION. The picture port (chapter 9): every picture message, RESPONSE_CAPTURE and MALFORMED_MESSAGE. -/

namespace Sys2Proof.Machine

/-! ## Results and errors (R161, R162, R172) -/

/-- The event code of a picture error (R172); DONE is none. -/
def pictureEvent : PictureResult → Option ReportEvent
  | .done => none
  | .truncated => some .pictureTruncated
  | .range => some .pictureRange
  | .full => some .pictureFull
  | .wrongProfile => some .pictureWrongProfile
  | .sequence => some .pictureSequence
  | .incomplete => some .pictureIncomplete
  | .malformed => some .pictureMalformed

/-- The held result of a message; one other than DONE is counted, and reported if the error-reported mark is clear,
which it sets (R161, R172). -/
def State.pictureResult (s : State) (r : PictureResult) : State :=
  match pictureEvent r with
  | none => { s with picture := { s.picture with result := r } }
  | some e =>
    let s1 := { s with
      picture := { s.picture with result := r, errorMark := true }
      counters := { s.counters with pictureErrors := sat16 s.counters.pictureErrors } }
    if s.picture.errorMark then s1 else s1.queueReport [s1.entry .picturePort e .active]

/-! ## Runs (R165 to R167, R169) -/

/-- The result of a run of `count` values: R165 in SPARSE, R169 in DENSE, where FINE4 is refused. -/
def State.runResult (s : State) (fine : Bool) (start count : Nat) : PictureResult :=
  if s.picture.profile = .dense ∧ fine then .wrongProfile
  else if s.grid.count = 0 then .range
  else if s.picture.profile = .dense ∧ start ≠ s.picture.pointer then .sequence
  else if s.grid.count ≤ start then .range
  else if start + count ≤ s.grid.count then .done
  else .truncated

/-- The sequence pointer after an accepted run: the index after the last zone written in DENSE, 0 in SPARSE (R164,
R169). -/
def State.pointerAfter (s : State) (start count : Nat) : Nat :=
  match s.picture.profile with
  | .sparse => s.picture.pointer
  | .dense => min (start + count) s.grid.count

/-- A run is taken: the open set's levels from `start` on change each by its own value (R165, R166). -/
def State.takeRun (s : State) (fine : Bool) (start : Nat) (writes : List (Nat → Nat)) : State :=
  match s.runResult fine start writes.length with
  | .done =>
    { s with
      request := { s.request with openSet := writeRun s.request.openSet start writes }
      picture := { s.picture with pointer := s.pointerAfter start writes.length } }.pictureResult .done
  | .truncated =>
    { s with
      request := { s.request with openSet := writeRun s.request.openSet start writes }
      picture := { s.picture with pointer := s.pointerAfter start writes.length } }.pictureResult .truncated
  | r => s.pictureResult r

/-- RUN12 (R165, R166, R169). -/
def execRun12 (t : Nat) (start : Nat) (values : List (BitVec 12)) (s : State) : Host.Outcome State Fault Refusal :=
  .next ((s.arrive t).takeRun false start (values.map run12Level))

/-- RUN8 (R165, R166, R169). -/
def execRun8 (t : Nat) (start : Nat) (values : List (BitVec 8)) (s : State) : Host.Outcome State Fault Refusal :=
  .next ((s.arrive t).takeRun false start (values.map run8Level))

/-- FINE4 (R165 to R167, R169). -/
def execFine4 (t : Nat) (start : Nat) (values : List (BitVec 4)) (s : State) : Host.Outcome State Fault Refusal :=
  .next ((s.arrive t).takeRun true start (values.map fine4Level))

/-- NUDGE (R168, R169). -/
def execNudge (t : Nat) (rect : Rect) (delta : BitVec 8) (s : State) : Host.Outcome State Fault Refusal :=
  let s1 := s.arrive t
  if s1.picture.profile = .dense then .next (s1.pictureResult .wrongProfile)
  else if s1.grid.count = 0 ∨ !rectOrdered rect then .next (s1.pictureResult .range)
  else
    .next ({ s1 with
      request := { s1.request with
        openSet := nudgeLevels s1.grid (clampRect s1.grid rect) delta s1.request.openSet } }.pictureResult .done)

/-! ## CLOSE (R14, R170) -/

/-- The open set is copied into the closed slot with a tag and flag; a set already waiting is overtaken and counted
(R14). -/
def State.closeSet (s : State) (tag : Nat) (sceneCut : Bool) : State :=
  { s with
    request := { s.request with slot := some ⟨s.request.openSet, tag, sceneCut⟩ }
    counters :=
      if s.request.slot.isSome then { s.counters with overtaken := sat16 s.counters.overtaken } else s.counters }

/-- CLOSE: refused INCOMPLETE in DENSE while the pointer is below N; otherwise the set is closed, the pointer returns
to 0 and the error-reported mark is cleared (R14, R170, R172). -/
def execClose (t : Nat) (tag : BitVec 8) (sceneCut : Bool) (s : State) : Host.Outcome State Fault Refusal :=
  let s1 := s.arrive t
  if s1.picture.profile = .dense ∧ s1.picture.pointer < s1.grid.count then .next (s1.pictureResult .incomplete)
  else
    let s2 := s1.closeSet tag.toNat sceneCut
    .next ({ s2 with picture := { s2.picture with pointer := 0, errorMark := false } }.pictureResult .done)

/-! ## Windows, blank, STATUS, malformed messages (R162, R163, R171) -/

/-- The picture result of a window refused by R18. -/
def refusedPicture : RefusalReason → PictureResult
  | .range => .range
  | .full => .full

/-- PICTURE_WINDOW (R18, R171). -/
def execPictureWindow (t : Nat) (w : WindowFields) (s : State) : Host.Outcome State Fault Refusal :=
  let s1 := s.arrive t
  match placeWindow s1.grid .picture w s1.windows with
  | .ok ws => .next ({ s1 with windows := ws }.pictureResult .done)
  | .error r => .next (s1.pictureResult (refusedPicture r))

/-- PICTURE_UNWINDOW (R19, R171). -/
def execPictureUnwindow (t : Nat) (number : Nat) (s : State) : Host.Outcome State Fault Refusal :=
  let s1 := s.arrive t
  if 7 < number then .next (s1.pictureResult .range)
  else .next ({ s1 with windows := removeWindow .picture number s1.windows }.pictureResult .done)

/-- PICTURE_BLANK: BLANK(on) or BLANK(off) of the picture port (R126, R128, R171). -/
def execPictureBlank (t : Nat) (on : Bool) (s : State) : Host.Outcome State Fault Refusal :=
  let s1 := s.arrive t
  .next ((s1.moveClaims { s1.claims with picture := on } (s1.claims.picture && !on)).pictureResult .done)

/-- STATUS has no effect but its own result, DONE (R162). -/
def execStatus (t : Nat) (s : State) : Host.Outcome State Fault Refusal :=
  .next ((s.arrive t).pictureResult .done)

/-- MALFORMED_MESSAGE: the bytes and spare bits clocked are no well-formed message (R163, R172). An assertion that
clocked no whole byte is no message (R161), and bytes that spell a well-formed one are not malformed (log 3). -/
def execMalformedMessage (t : Nat) (bytes : List Byte) (extraBits : Nat) (s : State) :
    Host.Outcome State Fault Refusal :=
  let s1 := s.arrive t
  if malformed bytes extraBits then .next (s1.pictureResult .malformed) else .next s1

/-- RESPONSE_CAPTURE: chip select is asserted and the response is captured (R162). -/
def execResponseCapture (t : Nat) (s : State) : Host.Outcome State Fault Refusal :=
  let s1 := s.arrive t
  .next { s1 with
    picture := { s1.picture with
      captured := some ⟨s1.picture.result, s1.request.slot.isSome, s1.picture.pointer, s1.timebase.counter⟩ } }

end Sys2Proof.Machine
end

