-- ==== Sys2Proof/Machine/Polling.lean ====
section
/-! DEFINITION. The poll scheduler and the direct commands (5.6, 5.7): POLL_TICK, DRIVER_TRIM, DRIVER_IDENT. -/

namespace Sys2Proof.Machine

/-- The next assigned address above `p`, wrapping from the highest assigned address to 0 (R108). -/
def Chain.nextPoll (ch : Chain) (p : Nat) : Nat :=
  ((List.range 48).find? fun a => decide (p < a) && (ch.record a).assigned).getD 0

/-- The scheduler at a tick: skipped while the POLL source holds a request, and placing nothing on a chain with no
assigned address (R108, R120). -/
def Chain.pollTick (ch : Chain) : Chain :=
  if ch.poll.isSome then ch
  else if ch.mirror.any Mirror.assigned then
    { ch with poll := some ⟨ch.pollPointer, 0, false⟩, pollPointer := ch.nextPoll ch.pollPointer }
  else ch

/-- POLL_TICK: the tick timer of a RUNNING chain expires and starts again; a request placed on an idle line is granted
(R104, R108). With the timer stopped, nothing. -/
def execPollTick (c : Nat) (s : State) : Host.Outcome State Fault Refusal :=
  match (s.chain c).pollDue with
  | none => .next s
  | some w =>
    .next (((s.arrive w).updChain c fun ch =>
      { ch.pollTick with pollDue := some (w + us s.system.pollInterval) }).serve c)

/-- A TRIM code above 255 (R111). -/
def DirectKind.outOfRange : DirectKind → Bool
  | .trim code => decide (255 < code)
  | .ident => false

/-- Why a DIRECT command to an address of a chain is refused, in R111's order, or none. -/
def State.directRefusal (s : State) (c a : Nat) (kind : DirectKind) : Option SysResult :=
  if 7 < c ∨ 47 < a ∨ kind.outOfRange then some .range
  else if (s.chain c).state ≠ .running then some .wrongState
  else if ((s.chain c).record a).assigned = false then some .range
  else if (s.chain c).directOutstanding then some .busy
  else none

/-- A DIRECT command: refused, or placed in the chain's DIRECT source with age 0, the response pending; on an idle line
it is granted at once (R104, R111, R180). -/
def State.takeDirect (s : State) (cmd : SysCommand) (c a : Nat) (kind : DirectKind) : State :=
  match s.directRefusal c a kind with
  | some r => s.answer cmd r
  | none =>
    ((s.respondPending cmd c).updChain c fun ch => { ch with direct := some ⟨a, kind, 0, false⟩ }).serve c

/-- DRIVER_TRIM (R111). -/
def execDriverTrim (t : Nat) (c a code : Nat) (s : State) : Host.Outcome State Fault Refusal :=
  .next ((s.arrive t).takeDirect .driverTrim c a (.trim code))

/-- DRIVER_IDENT (R111). -/
def execDriverIdent (t : Nat) (c a : Nat) (s : State) : Host.Outcome State Fault Refusal :=
  .next ((s.arrive t).takeDirect .driverIdent c a .ident)

end Sys2Proof.Machine
end

