-- ==== Sys2Proof/Machine/Reports.lean ====
section
/-! DEFINITION. Taking reports and reading snapshots (7.2, 7.3): TAKE_REPORT, READ_SNAPSHOT,
SNAPSHOT_HOLD_EXPIRY. -/

namespace Sys2Proof.Machine

/-- TAKE_REPORT: the oldest entry is removed and returned, or EMPTY; the ALERT latch is cleared, and EMPTY sets the
armed mark (R143, R144). -/
def execTakeReport (t : Nat) (s : State) : Host.Outcome State Fault Refusal :=
  let s1 := s.arrive t
  match s1.reports.queue with
  | [] =>
    .next ({ s1 with reports := { s1.reports with alert := false, armed := true } }.answer .takeReport .empty)
  | e :: rest =>
    .next ({ s1 with reports := { s1.reports with queue := rest, alert := false } }.respond (some .takeReport) .done
      (.entry e))

/-- A buffer freed, its timer stopped, content and generation kept (R147, R148). -/
def SnapBuffer.free (b : SnapBuffer) : SnapBuffer := { b with expires := none }

/-- Free one snapshot buffer. -/
def State.freeBuffer (s : State) (i : Nat) : State :=
  { s with reports := { s.reports with buffers := s.reports.buffers.modify i SnapBuffer.free } }

/-- The content a tag names, if the buffer still holds it (R148). -/
def ReportUnit.named (r : ReportUnit) (buffer generation : Nat) : Option Snapshot :=
  let b := r.buffers.getD buffer SnapBuffer.fresh
  if b.generation = generation then b.content else none

/-- READ_SNAPSHOT (R148). -/
def execReadSnapshot (t : Nat) (buffer generation : Nat) (s : State) : Host.Outcome State Fault Refusal :=
  let s1 := s.arrive t
  if 3 < buffer ∨ 15 < generation then .next (s1.answer .readSnapshot .range)
  else match s1.reports.named buffer generation with
    | some x => .next ((s1.freeBuffer buffer).respond (some .readSnapshot) .done (.snapshot x))
    | none => .next (s1.answer .readSnapshot .stale)

/-- SNAPSHOT_HOLD_EXPIRY: the hold timer of a held buffer runs out and the buffer becomes free (R147). On a free
buffer, nothing. -/
def execSnapshotHoldExpiry (buffer : Nat) (s : State) : Host.Outcome State Fault Refusal :=
  match (s.reports.buffers.getD buffer SnapBuffer.fresh).expires with
  | none => .next s
  | some w => .next ((s.arrive w).freeBuffer buffer)

end Sys2Proof.Machine
end

