-- ==== Sys2Proof/Machine/Timebase.lean ====
section
/-! DEFINITION. The timebase (3.1 to 3.5): FSYNC_EDGE, GENERATED_FRAME_START, HOLDOVER_ENTRY, SET_TIMEBASE,
FOLLOW_SYNC, FREE_RUN. -/

namespace Sys2Proof.Machine

/-- The shortest spacing of accepted edges and of frame starts (R55, R58). -/
abbrev minSpacing : Nat := us 4100

/-- The longest measured spacing and the longest frame (R56, R58). -/
abbrev maxSpacing : Nat := us 42000

/-- A spacing in whole microseconds; where it is not whole, a neighbouring one that the spec leaves open (R57, log 5). -/
def wholePeriod (spacing : Nat) : Nat :=
  if spacing % 48 = 0 then spacing / 48
  else if Config.periodRoundsUp spacing then spacing / 48 + 1
  else spacing / 48

/-- An edge is a frame start if it lies 4,100 µs or more after the last frame start (R56, R57, R59). -/
def State.edgeFrame (s : State) : State :=
  if s.timebase.lastStart + minSpacing ≤ s.now then s.frameStart else s

/-- The TIMEBASE report of an entry into HOLDOVER or a return from it (R60). -/
def State.timebaseReport (s : State) (event : ReportEvent) (recovery : RecoveryState) : State :=
  s.queueReport [s.entry .timebase event recovery]

/-- Change the timebase alone. -/
def State.setTimebase (s : State) (tb : Timebase) : State := { s with timebase := tb }

/-- An accepted edge in ACQUIRE: recorded, or LOCKED is entered with p (R56). -/
def State.acquireEdge (s : State) : State :=
  match s.timebase.lastEdge with
  | none => s.setTimebase { s.timebase with lastEdge := some s.now }
  | some e =>
    if maxSpacing < s.now - e then s.setTimebase { s.timebase with lastEdge := some s.now }
    else
      (s.setTimebase { s.timebase with
        lastEdge := some s.now
        state := .locked
        period := some (wholePeriod (s.now - e))
        pendingStart := none }).edgeFrame

/-- An accepted edge in LOCKED: p is measured (R57). -/
def State.lockedEdge (s : State) : State :=
  match s.timebase.lastEdge with
  | none => (s.setTimebase { s.timebase with lastEdge := some s.now }).edgeFrame
  | some e =>
    (s.setTimebase { s.timebase with
      lastEdge := some s.now
      period := some (wholePeriod (s.now - e)) }).edgeFrame

/-- An accepted edge in HOLDOVER: back to LOCKED with p kept, reported; where the edge is a frame start the report
carries the counter it makes (R59, R60, R52, log 8), and is queued ahead of those of the delivery (log 9). -/
def State.holdoverEdge (s : State) : State :=
  let s1 := s.setTimebase { s.timebase with lastEdge := some s.now, state := .locked, pendingStart := none }
  if s1.timebase.lastStart + minSpacing ≤ s1.now then
    (s1.beginFrame.timebaseReport .syncRestored .recovered).deliverFrame
  else s1.timebaseReport .syncRestored .recovered

/-- An edge that comes less than 4,100 µs after the last accepted edge (R55). -/
def Timebase.isRunt (tb : Timebase) (now : Nat) : Bool :=
  match tb.lastEdge with
  | some e => decide (now < e + minSpacing)
  | none => false

/-- The moment the LOCKED holdover timer expires: the earlier of floor(3p / 2) µs after the last accepted edge and
42,000 µs after the last frame start (R58, log 6). -/
def Timebase.holdoverDue (tb : Timebase) : Option Nat :=
  match tb.state, tb.freeRun, tb.lastEdge, tb.period with
  | .locked, false, some e, some p => some (min (e + us (3 * p / 2)) (tb.lastStart + maxSpacing))
  | _, _, _, _ => none

/-! ## Meanings -/

/-- FSYNC_EDGE (R55 to R59, R61, R174). -/
def execFsyncEdge (t : Nat) (s : State) : Host.Outcome State Fault Refusal :=
  let s1 := s.arrive t
  if s1.timebase.state = .free ∨ s1.timebase.freeRun then .next s1
  else if s1.timebase.isRunt s1.now then .next (s1.count fun k => { k with runts := sat16 k.runts })
  else match s1.timebase.state with
    | .free => .next s1
    | .acquire => .next s1.acquireEdge
    | .locked => .next s1.lockedEdge
    | .holdover => .next s1.holdoverEdge

/-- GENERATED_FRAME_START: the pending frame start falls due; while the free-run mark is set it puts the timebase in
FREE and clears the mark (R54, R56, R59, R61). With none pending, nothing. -/
def execGeneratedFrameStart (s : State) : Host.Outcome State Fault Refusal :=
  match s.timebase.pendingStart with
  | none => .next s
  | some d =>
    let s1 := s.arrive d
    .next (if s1.timebase.freeRun then
      (s1.setTimebase { s1.timebase with state := .free, freeRun := false }).frameStart
    else s1.frameStart)

/-- HOLDOVER_ENTRY: the holdover timer expires; HOLDOVER is entered with a generated frame start and a report that
carries its counter (R58, R60), queued ahead of those of the frame start's delivery (log 9). With no timer running,
nothing. -/
def execHoldoverEntry (s : State) : Host.Outcome State Fault Refusal :=
  match s.timebase.holdoverDue with
  | none => .next s
  | some d =>
    let s1 := s.arrive d
    .next (((s1.setTimebase { s1.timebase with state := .holdover }).beginFrame.timebaseReport .syncLost
      .degraded).deliverFrame)

/-- SET_TIMEBASE (R54). -/
def execSetTimebase (t : Nat) (freePeriod : Nat) (s : State) : Host.Outcome State Fault Refusal :=
  let s1 := s.arrive t
  if freePeriod < 4100 ∨ 42000 < freePeriod then .next (s1.answer .setTimebase .range)
  else .next ((s1.setTimebase { s1.timebase with freePeriod := freePeriod }).answer .setTimebase .done)

/-- The timebase after FOLLOW SYNC (R61). -/
def Timebase.followSync (tb : Timebase) : Timebase :=
  if tb.state = .free then { tb with state := .acquire, lastEdge := none }
  else if tb.freeRun then { tb with state := .acquire, freeRun := false, lastEdge := none }
  else tb

/-- The timebase after FREE RUN (R61). The free period is the one held at the last frame start (R54, log 7). -/
def Timebase.markFreeRun (tb : Timebase) (now : Nat) : Timebase :=
  if tb.state = .free ∨ tb.freeRun then tb
  else if tb.state = .acquire then { tb with freeRun := true }
  else { tb with freeRun := true, pendingStart := some (max now (tb.lastStart + us tb.heldPeriod)) }

/-- FOLLOW_SYNC (R54, R61). -/
def execFollowSync (t : Nat) (s : State) : Host.Outcome State Fault Refusal :=
  let s1 := s.arrive t
  .next ((s1.setTimebase s1.timebase.followSync).answer .followSync .done)

/-- FREE_RUN (R61). -/
def execFreeRun (t : Nat) (s : State) : Host.Outcome State Fault Refusal :=
  let s1 := s.arrive t
  .next ((s1.setTimebase (s1.timebase.markFreeRun s1.now)).answer .freeRun .done)

end Sys2Proof.Machine
end

