-- ==== Sys2Proof/Machine/ZoneTable.lean ====
section
/-! DEFINITION. The commands of the zone table, window list and probe (chapter 1): SET_GRID, MAP_ZONE, UNMAP_ZONE,
LOAD_GAINS, SET_OVERRIDE, CLEAR_OVERRIDE, CLEAR_WINDOWS, PROBE, READ_PROBE, READ_ZONE. -/

namespace Sys2Proof.Machine

/-! ## The grid (R1, R2) -/

/-- The part with a new grid: what is keyed by zone index starts afresh (R2), the section buffer has the new number of
levels (log 17), and the disarmed probe holds zone index 0 and mode ONCE (log 29). -/
def State.changeGrid (s : State) (g : Grid) : State :=
  { s with
    grid := g
    zones := List.replicate g.count Zone.fresh
    request := RequestStore.fresh g.count
    windows := []
    probe := Probe.fresh
    pass := { s.pass with buffer := List.replicate g.count 0 }
    picture := { s.picture with pointer := 0 } }

/-- SET_GRID (R1, R2). -/
def execSetGrid (t : Nat) (cols rows : Nat) (s : State) : Host.Outcome State Fault Refusal :=
  let s1 := s.arrive t
  if s1.system.part ≠ .config then .next (s1.answer .setGrid .wrongState)
  else if cols = 0 ∨ 96 < cols ∨ rows = 0 ∨ 54 < rows then .next (s1.answer .setGrid .range)
  else if s1.grid = ⟨cols, rows⟩ then .next (s1.answer .setGrid .done)
  else .next ((s1.changeGrid ⟨cols, rows⟩).answer .setGrid .done)

/-! ## The channel map (R5, R6) -/

/-- The channel is held by the record of another zone (R5). -/
def heldElsewhere (zones : List Zone) (zone : Nat) (x : Channel) : Bool :=
  zones.zipIdx.any fun z => decide (z.2 ≠ zone) && decide (z.1.channel = some x)

/-- A record given a channel: a new or different one makes its fault NONE (R5). -/
def Zone.mapTo (z : Zone) (x : Channel) : Zone :=
  if z.channel = some x then z else { z with channel := some x, fault := .none }

/-- MAP_ZONE (R5). -/
def execMapZone (t : Nat) (zone chain position channel : Nat) (s : State) : Host.Outcome State Fault Refusal :=
  let s1 := s.arrive t
  if s1.system.part ≠ .config then .next (s1.answer .mapZone .wrongState)
  else if s1.grid.count ≤ zone ∨ 7 < chain ∨ 47 < position ∨ 15 < channel then .next (s1.answer .mapZone .range)
  else if heldElsewhere s1.zones zone ⟨chain, position, channel⟩ then .next (s1.answer .mapZone .conflict)
  else .next ((s1.updZone zone fun z => z.mapTo ⟨chain, position, channel⟩).answer .mapZone .done)

/-- A record without its channel: a zone that held one has its fault made NONE (R6). -/
def Zone.unmap (z : Zone) : Zone :=
  if z.channel.isSome then { z with channel := none, fault := .none } else z

/-- UNMAP_ZONE (R6). -/
def execUnmapZone (t : Nat) (zone : Nat) (s : State) : Host.Outcome State Fault Refusal :=
  let s1 := s.arrive t
  if s1.system.part ≠ .config then .next (s1.answer .unmapZone .wrongState)
  else if s1.grid.count ≤ zone then .next (s1.answer .unmapZone .range)
  else .next ((s1.updZone zone Zone.unmap).answer .unmapZone .done)

/-! ## Gains and overrides (R7, R8) -/

/-- LOAD_GAINS (R7). -/
def execLoadGains (t : Nat) (start : Nat) (gains : List Nat) (s : State) : Host.Outcome State Fault Refusal :=
  let s1 := s.arrive t
  if gains.length = 0 ∨ 32 < gains.length ∨ s1.grid.count ≤ start ∨ s1.grid.count < start + gains.length then
    .next (s1.answer .loadGains .range)
  else
    .next ({ s1 with zones := storeGains s1.zones start gains }.answer .loadGains
      (if gains.all fun x => decide (clampGain x = x) then .done else .clamped))

/-- SET_OVERRIDE (R8). -/
def execSetOverride (t : Nat) (zone level : Nat) (s : State) : Host.Outcome State Fault Refusal :=
  let s1 := s.arrive t
  if s1.grid.count ≤ zone ∨ 4095 < level then .next (s1.answer .setOverride .range)
  else .next ((s1.updZone zone fun z => { z with override := some level }).answer .setOverride .done)

/-- CLEAR_OVERRIDE (R8). -/
def execClearOverride (t : Nat) (zone : Nat) (s : State) : Host.Outcome State Fault Refusal :=
  let s1 := s.arrive t
  if s1.grid.count ≤ zone then .next (s1.answer .clearOverride .range)
  else .next ((s1.updZone zone fun z => { z with override := none }).answer .clearOverride .done)

/-! ## Windows, probe, READ ZONE (R11, R19, R23, R24) -/

/-- CLEAR_WINDOWS (R19). -/
def execClearWindows (t : Nat) (s : State) : Host.Outcome State Fault Refusal :=
  .next ({ s.arrive t with windows := [] }.answer .clearWindows .done)

/-- PROBE (R23). -/
def execProbe (t : Nat) (zone : Nat) (mode : ProbeMode) (s : State) : Host.Outcome State Fault Refusal :=
  let s1 := s.arrive t
  if s1.grid.count ≤ zone then .next (s1.answer .probe .range)
  else .next ({ s1 with probe := ⟨zone, mode, true, none⟩ }.answer .probe .done)

/-- READ_PROBE: the probe and its record, EMPTY where there is none (R24). -/
def execReadProbe (t : Nat) (s : State) : Host.Outcome State Fault Refusal :=
  let s1 := s.arrive t
  .next (s1.respond (some .readProbe) (if s1.probe.record.isSome then .done else .empty)
    (.probe s1.probe.zone s1.probe.mode s1.probe.armed s1.probe.record))

/-- READ_ZONE: a zone's record with its state derived now (R11). -/
def execReadZone (t : Nat) (zone : Nat) (s : State) : Host.Outcome State Fault Refusal :=
  let s1 := s.arrive t
  if s1.grid.count ≤ zone then .next (s1.answer .readZone .range)
  else .next (s1.respond (some .readZone) .done (.zone (s1.zone zone) (s1.zoneState (s1.zone zone))))

end Sys2Proof.Machine
end

