-- ==== Sys2Proof/Machine/Dispatch.lean ====
section
/-! DEFINITION. Which meaning each command has: one arm for each row of the table. -/

namespace Sys2Proof.Machine

def exec (i : Instr) (s : State) : Host.Outcome State Fault Refusal :=
  match i with
  | .powerOn t => Sys2Proof.Machine.execPowerOn t s
  | .setGrid t cols rows => Sys2Proof.Machine.execSetGrid t cols rows s
  | .setChain t chain drivers weight sensor => Sys2Proof.Machine.execSetChain t chain drivers weight sensor s
  | .mapZone t zone chain position channel => Sys2Proof.Machine.execMapZone t zone chain position channel s
  | .unmapZone t zone => Sys2Proof.Machine.execUnmapZone t zone s
  | .setGroups t groups offsets lead => Sys2Proof.Machine.execSetGroups t groups offsets lead s
  | .setProfile t profile => Sys2Proof.Machine.execSetProfile t profile s
  | .setPower t budget => Sys2Proof.Machine.execSetPower t budget s
  | .setEasing t rise fall => Sys2Proof.Machine.execSetEasing t rise fall s
  | .setService t pollUs holdMs => Sys2Proof.Machine.execSetService t pollUs holdMs s
  | .setThermal t params => Sys2Proof.Machine.execSetThermal t params s
  | .setTimebase t freePeriod => Sys2Proof.Machine.execSetTimebase t freePeriod s
  | .followSync t => Sys2Proof.Machine.execFollowSync t s
  | .freeRun t => Sys2Proof.Machine.execFreeRun t s
  | .loadGains t start gains => Sys2Proof.Machine.execLoadGains t start gains s
  | .setOverride t zone level => Sys2Proof.Machine.execSetOverride t zone level s
  | .clearOverride t zone => Sys2Proof.Machine.execClearOverride t zone s
  | .clearFault t zone => Sys2Proof.Machine.execClearFault t zone s
  | .clearWindows t => Sys2Proof.Machine.execClearWindows t s
  | .start t => Sys2Proof.Machine.execStart t s
  | .stop t => Sys2Proof.Machine.execStop t s
  | .restartChain t chain => Sys2Proof.Machine.execRestartChain t chain s
  | .driverTrim t chain address code => Sys2Proof.Machine.execDriverTrim t chain address code s
  | .driverIdent t chain address => Sys2Proof.Machine.execDriverIdent t chain address s
  | .systemBlank t on => Sys2Proof.Machine.execSystemBlank t on s
  | .takeReport t => Sys2Proof.Machine.execTakeReport t s
  | .readSnapshot t buffer generation => Sys2Proof.Machine.execReadSnapshot t buffer generation s
  | .probe t zone mode => Sys2Proof.Machine.execProbe t zone mode s
  | .readProbe t => Sys2Proof.Machine.execReadProbe t s
  | .readZone t zone => Sys2Proof.Machine.execReadZone t zone s
  | .readCounters t => Sys2Proof.Machine.execReadCounters t s
  | .readState t => Sys2Proof.Machine.execReadState t s
  | .softRestart t => Sys2Proof.Machine.execSoftRestart t s
  | .unknownCommandWrite t bytes => Sys2Proof.Machine.execUnknownCommandWrite t bytes s
  | .responseCapture t => Sys2Proof.Machine.execResponseCapture t s
  | .run12 t start values => Sys2Proof.Machine.execRun12 t start values s
  | .run8 t start values => Sys2Proof.Machine.execRun8 t start values s
  | .fine4 t start values => Sys2Proof.Machine.execFine4 t start values s
  | .nudge t rect delta => Sys2Proof.Machine.execNudge t rect delta s
  | .close t tag sceneCut => Sys2Proof.Machine.execClose t tag sceneCut s
  | .pictureWindow t window => Sys2Proof.Machine.execPictureWindow t window s
  | .pictureUnwindow t number => Sys2Proof.Machine.execPictureUnwindow t number s
  | .pictureBlank t on => Sys2Proof.Machine.execPictureBlank t on s
  | .status t => Sys2Proof.Machine.execStatus t s
  | .malformedMessage t bytes extraBits => Sys2Proof.Machine.execMalformedMessage t bytes extraBits s
  | .hold t maxFrames => Sys2Proof.Machine.execHold t maxFrames s
  | .resume t => Sys2Proof.Machine.execResume t s
  | .panelWindow t window => Sys2Proof.Machine.execPanelWindow t window s
  | .panelUnwindow t number => Sys2Proof.Machine.execPanelUnwindow t number s
  | .panelBlank t on => Sys2Proof.Machine.execPanelBlank t on s
  | .messageDiscarded t reason => Sys2Proof.Machine.execMessageDiscarded t reason s
  | .outgoingMessageEnd => Sys2Proof.Machine.execOutgoingMessageEnd s
  | .fsyncEdge t => Sys2Proof.Machine.execFsyncEdge t s
  | .generatedFrameStart => Sys2Proof.Machine.execGeneratedFrameStart s
  | .holdoverEntry => Sys2Proof.Machine.execHoldoverEntry s
  | .holdExpired => Sys2Proof.Machine.execHoldExpired s
  | .problemFrames chain => Sys2Proof.Machine.execProblemFrames chain s
  | .compositionEnd => Sys2Proof.Machine.execCompositionEnd s
  | .limitingEnd => Sys2Proof.Machine.execLimitingEnd s
  | .emissionBlock => Sys2Proof.Machine.execEmissionBlock s
  | .commitPoint group => Sys2Proof.Machine.execCommitPoint group s
  | .latchPoint group => Sys2Proof.Machine.execLatchPoint group s
  | .frameBoundary chain => Sys2Proof.Machine.execFrameBoundary chain s
  | .echoEnd t chain bits => Sys2Proof.Machine.execEchoEnd t chain bits s
  | .echoOverdue chain => Sys2Proof.Machine.execEchoOverdue chain s
  | .loopLost t chain => Sys2Proof.Machine.execLoopLost t chain s
  | .attemptBegin chain => Sys2Proof.Machine.execAttemptBegin chain s
  | .runningTimerExpiry chain => Sys2Proof.Machine.execRunningTimerExpiry chain s
  | .pollTick chain => Sys2Proof.Machine.execPollTick chain s
  | .conversionComplete code => Sys2Proof.Machine.execConversionComplete code s
  | .snapshotHoldExpiry buffer => Sys2Proof.Machine.execSnapshotHoldExpiry buffer s
  | .echoBegin t chain => Sys2Proof.Machine.execEchoBegin t chain s

end Sys2Proof.Machine
end

