-- ==== Sys2Proof/Machine/Driver.lean ====
section
/-! DEFINITION. The CB-D16 as the controller relies on it (4.2, R72, R75 to R84): plain functions of a driver's own
state, which is no part of the controller's State (log 22). -/

namespace Sys2Proof.Machine

/-- The state of a CB-D16 (Table 4-3), with the revision it answers to IDENT. -/
structure Driver where
  address : Option Nat
  group : Option Nat
  shadow : List Nat
  active : List Nat
  trim : Nat
  openMask : BitVec 16
  shortMask : BitVec 16
  hot : Bool
  supplyLow : Bool
  damagedFrames : Nat
  revision : Nat
  deriving DecidableEq, Repr

/-- A driver at its own power-up; its two flags are as measured (R75). -/
def Driver.powerUp (revision : Nat) (hot supplyLow : Bool) : Driver :=
  ⟨none, none, List.replicate 16 0, List.replicate 16 0, 128, 0, 0, hot, supplyLow, 0, revision⟩

/-! ## Frames with a right CRC (R76 to R82) -/

/-- Write duties from a first channel on (R77). -/
def writeDuties (shadow : List Nat) (first : Nat) (duties : List Nat) : List Nat :=
  shadow.take first ++ duties ++ shadow.drop (first + duties.length)

/-- The driver acts on the LATCH: its group is in the mask (R78). -/
def Driver.latches (d : Driver) (mask : BitVec 8) : Bool :=
  match d.group with
  | some g => mask.getLsbD g
  | none => false

/-- One more in a count that stops at 63 (R78, R82). -/
def count63 (n : Nat) : Nat := min (n + 1) 63

/-- The status a driver writes into a POLL (R79). -/
def Driver.status (d : Driver) : PollReply := ⟨d.openMask, d.shortMask, d.hot, d.supplyLow, d.damagedFrames⟩

/-- A driver after a CLEAR (R82). -/
def Driver.cleared (d : Driver) : Driver :=
  { d with
    address := none
    group := none
    shadow := List.replicate 16 0
    active := List.replicate 16 0
    damagedFrames := 0 }

/-- What an ASSIGN does to a driver as it passes, and the taken flag it leaves (R80). An assigned address of 48..63,
which the part never sends, is taken as any other (log 22). -/
def Driver.passAssign (d : Driver) (a : Nat) (group : Option Nat) (taken : Bool) : Driver × Bool :=
  if d.address = some a then ({ d with group := group }, true)
  else if d.address = none ∧ taken = false then ({ d with address := some a, group := group }, true)
  else (d, taken)

/-- What a driver does with a frame whose CRC is right: its state after it, and the reply fields it sends on (R76 to
R82). -/
def Driver.pass (d : Driver) (x : Sent) (r : Reply) : Driver × Reply :=
  match x, r with
  | .stage e, r =>
    if d.address = some e.address ∧ e.first + e.duties.length ≤ 16 then
      ({ d with shadow := writeDuties d.shadow e.first e.duties }, .ack true)
    else (d, r)
  | .latch mask, .latches n =>
    if d.latches mask then ({ d with active := d.shadow }, .latches (count63 n)) else (d, .latches n)
  | .poll a, r => if d.address = some a then (d, .poll true d.status) else (d, r)
  | .assign a g, .taken f =>
    let y := d.passAssign a g f
    (y.1, .taken y.2)
  | .direct a (.trim code), r => if d.address = some a then ({ d with trim := code }, .ack true) else (d, r)
  | .direct a .ident, r => if d.address = some a then (d, .ident true 77 d.revision 16) else (d, r)
  | .clear, .cleared n => (d.cleared, .cleared (count63 n))
  | .latch _, r | .assign _ _, r | .clear, r => (d, r)

/-- A frame passes the drivers of a chain in order: their states after it and the reply fields as they return. -/
def passChain : List Driver → Sent → Reply → List Driver × Reply
  | [], _, r => ([], r)
  | d :: rest, x, r =>
    let y := d.pass x r
    let z := passChain rest x y.2
    (y.1 :: z.1, z.2)

/-- A frame of the part sent round the loop undamaged. -/
def loop (ds : List Driver) (x : Sent) : List Driver × Reply := passChain ds x x.blankReply

/-- The data bits of the echo of an undamaged frame (R74, R192). -/
def echoBits (ds : List Driver) (x : Sent) (tag : Nat) : List Bool := frameBits x tag (loop ds x).2

/-! ## A frame as a driver receives it (R76, R192) -/

/-- The bit at which the reply fields of a kind begin (Table 12-1). -/
def Sent.replyStart : Sent → Nat
  | .stage _ | .latch _ | .direct _ (.trim _) => 20
  | .assign _ _ => 22
  | .poll _ | .direct _ .ident | .clear => 12

/-- Reply fields in order of sending (Table 12-1). -/
def Reply.bits : Reply → List Bool
  | .ack a => [a]
  | .latches n | .cleared n => toBits 6 n
  | .taken f => [f]
  | .poll a p =>
    a :: toBits 16 p.openMask.toNat ++ toBits 16 p.shortMask.toNat ++ [p.hot, p.supplyLow] ++ toBits 8 p.damagedFrames
  | .ident a k v n => a :: toBits 8 k ++ toBits 8 v ++ toBits 5 n

/-- The driver writes a reply field into a frame that arrives with the fields `x` and the reply fields `r`, whatever its
CRC turns out to be (R76 to R82). -/
def Driver.writes (d : Driver) (x : Sent) (r : Reply) : Bool :=
  match x with
  | .stage e => decide (d.address = some e.address ∧ e.first + e.duties.length ≤ 16)
  | .latch mask => d.latches mask
  | .poll a | .direct a _ => decide (d.address = some a)
  | .assign a _ => decide (d.address = some a ∨ (d.address = none ∧ r = .taken false))
  | .clear => true

/-- A driver that receives a frame with a wrong CRC (R76). -/
def Driver.takeDamaged (d : Driver) : Driver := { d with damagedFrames := min (d.damagedFrames + 1) 255 }

/-- In place of a CRC the complement of the CRC over the covered bits, which is wrong by construction (R76). -/
def withWrongCrc (covered : List Bool) : List Bool := covered ++ toBits 16 (~~~(crc16 covered)).toNat

/-- Bits with others written over them from bit `start` on. -/
def writeOver (bits : List Bool) (start : Nat) (field : List Bool) : List Bool :=
  (bits.take start ++ field ++ bits.drop (start + field.length)).take bits.length

/-- What a driver does with the data bits of one frame, and those it sends on (R76, R74). With a right CRC it acts, and
where it has written a reply field sends on the CRC over the frame as it leaves. With a wrong one, or when the frame breaks
off before its end (log 22), it counts the damage and takes no action; where it has written a reply field it sends on a
CRC that is wrong, else the frame as it came. A kind it does not know it forwards unchanged. -/
def Driver.receive (d : Driver) (bits : List Bool) : Driver × List Bool :=
  match readSent bits with
  | none => (if crcRight bits then d else d.takeDamaged, bits)
  | some x =>
    let body := bits.take (x.bits - 8)
    let r := readReply x body
    let out := if d.writes x r then writeOver body x.replyStart (d.pass x r).2.bits else body
    let covered := out.take (x.bits - 24)
    if body.length < x.bits - 8 then (d.takeDamaged, out)
    else if crcRight body then ((d.pass x r).1, if d.writes x r then withCrc covered else body)
    else (d.takeDamaged, if d.writes x r then withWrongCrc covered else body)

/-! ## The line round the loop (R72, R84) -/

/-- A stretch of the line between two drivers: idle or silence for a number of bit times, a recognisable start symbol and
the data bits after it, or transitions that are neither (R72). -/
inductive LineItem where
  | idle (n : Nat)
  | silence (n : Nat)
  | frame (bits : List Bool)
  | broken (n : Nat)
  deriving DecidableEq, Repr

/-- What a driver makes of a stretch of its input: idle goes on as idle, a frame as the driver sends it on, what is
neither as idle in its place, and silence as silence, the driver keeping its state (R72, R76, R84). -/
def Driver.forward (d : Driver) : LineItem → Driver × LineItem
  | .idle n => (d, .idle n)
  | .silence n => (d, .silence n)
  | .broken n => (d, .idle n)
  | .frame bits => ((d.receive bits).1, .frame (d.receive bits).2)

/-- A stretch of line sent round the loop: the drivers after it in chain order, and what the return line carries.
`hit k` is what the section of the loop ahead of the `k`-th driver makes of a stretch; the last section is the return
line. -/
def roundLoop (hit : Nat → LineItem → LineItem) : Nat → List Driver → LineItem → List Driver × LineItem
  | k, [], i => ([], hit k i)
  | k, d :: rest, i =>
    let y := d.forward (hit k i)
    let z := roundLoop hit (k + 1) rest y.2
    (y.1 :: z.1, z.2)

/-- The delay round the loop: 1/3 µs for each driver and the line delay of the board (R72). -/
def loopDelay (drivers : Nat) (board : Nat) : Nat := 16 * drivers + board

/-! ## Light and evaluation (R79, R81, R83) -/

/-- The share of an output period in which a channel conducts, in 1/4096: none while BLANK is asserted (R83). -/
def Driver.share (d : Driver) (blank : Bool) (k : Nat) : Nat := if blank then 0 else d.active.getD k 0

/-- The full-scale current of every channel, in 1/256 of its maximum (R81). -/
def Driver.fullScale (d : Driver) : Nat := d.trim + 1

/-- What an evaluation of a channel finds (R79). -/
inductive StringState where
  | sound | open | short
  deriving DecidableEq, Repr

/-- A mask with one bit set or cleared. -/
def setMaskBit (m : BitVec 16) (k : Nat) (b : Bool) : BitVec 16 :=
  if b then m ||| (1#16 <<< k) else m &&& ~~~(1#16 <<< k)

/-- An evaluation of channel `k` sets the bit of what it finds and clears the other; a channel at duty 0, or with BLANK
asserted, is not evaluated and keeps its bits (R79, R83). -/
def Driver.evaluate (d : Driver) (blank : Bool) (k : Nat) (found : StringState) : Driver :=
  if d.share blank k = 0 then d
  else
    { d with
      openMask := setMaskBit d.openMask k (decide (found = .open))
      shortMask := setMaskBit d.shortMask k (decide (found = .short)) }

end Sys2Proof.Machine
end

