-- ==== Sys2Proof/Machine/PanelFormat.lean ====
section
/-! DEFINITION. The wire form of panel messages in both directions (12.3, R173, R175, R193). -/

namespace Sys2Proof.Machine

/-! ## Incoming messages -/

/-- The length in bytes that a kind byte requires, CRC included (Table 12-4); none for a kind byte outside 3..7. -/
def panelLength (kind : Nat) : Option Nat :=
  match kind with
  | 3 => some 4
  | 4 => some 3
  | 5 => some 13
  | 6 => some 4
  | 7 => some 4
  | _ => none

/-- The last two bytes are the CRC of those before them. -/
def panelCrcRight (bytes : List Byte) : Bool :=
  decide (crcBytes (bytes.take (bytes.length - 2)) = bytes.drop (bytes.length - 2))

/-- What an incoming message is, in the order of R175's tests: the command it spells, taken at moment `t`, or why it
is discarded. `bytes` are those between its start symbol and its end symbol; `ended` says that the end symbol came. -/
def decodePanel (t : Nat) (ended : Bool) (bytes : List Byte) : Except DiscardReason Instr :=
  if !ended then .error .cutShort
  else if !panelCrcRight bytes then .error .wrongCrc
  else if panelLength (num bytes 0 1) ≠ some bytes.length then .error .badKindOrLength
  else match num bytes 0 1 with
    | 3 => if num bytes 1 1 = 0 then .error .badField else .ok (.hold t (BitVec.ofNat 8 (num bytes 1 1)))
    | 4 => .ok (.resume t)
    | 5 => if 1 < num bytes 2 1 then .error .badField else .ok (.panelWindow t (readWindow bytes 1))
    | 6 => .ok (.panelUnwindow t (num bytes 1 1))
    | _ =>
      if 1 < num bytes 1 1 then .error .badField else .ok (.panelBlank t (decide (num bytes 1 1 = 1)))

/-- Fields with their CRC. -/
def panelFrame (fields : List Byte) : List Byte := fields ++ crcBytes fields

/-- The bytes of a timing controller's message with their CRC, none for a command of another port (Table 12-4). -/
def encodePanel : Instr → Option (List Byte)
  | .hold _ m => some (panelFrame (natBytes 1 3 ++ [m]))
  | .resume _ => some (panelFrame (natBytes 1 4))
  | .panelWindow _ w => some (panelFrame (natBytes 1 5 ++ windowBytes w))
  | .panelUnwindow _ number => some (panelFrame (natBytes 1 6 ++ natBytes 1 number))
  | .panelBlank _ on => some (panelFrame (natBytes 1 7 ++ natBytes 1 on.toNat))
  | _ => none

/-! ## The incoming line (R173, R191) -/

/-- What the receiver makes of a stretch of the incoming line: the data bits between a start symbol and its end symbol, or
a message cut short. -/
inductive Incoming where
  | whole (bits : List Bool)
  | cutShort
  deriving DecidableEq, Repr

/-- The last `limit` of the data bits received are all 0: the sender sends idle. -/
def endsIdle (limit : Nat) (bits : List Bool) : Bool :=
  decide (limit ≤ bits.length) && (bits.drop (bits.length - limit)).all fun b => !b

/-- The incoming line as its receiver reads it, given in half bit times from half bit `at` on: what is received, and the
half bit by which. `message` holds the data bits since a start symbol, none between messages. A message ends with its end
symbol, and is cut short by a second start symbol, by idle (more than the longest message's data bits 0, `limit` of them)
and by a bit time without a transition that begins no symbol, as silence has it (R173, log 36). Less than a symbol's
length at the end of what is given decides nothing yet. The first argument bounds the steps. -/
def receiveLine (limit : Nat) : Nat → Option (List Bool) → Nat → List Bool → List (Nat × Incoming)
  | 0, _, _, _ => []
  | fuel + 1, message, pos, line =>
    if line.length < 16 then []
    else match message with
      | none =>
        if line.take 16 = startSymbol then receiveLine limit fuel (some []) (pos + 16) (line.drop 16)
        else receiveLine limit fuel none (pos + 1) (line.drop 1)
      | some bits =>
        if line.take 16 = endSymbol then (pos + 16, .whole bits) :: receiveLine limit fuel none (pos + 16) (line.drop 16)
        else if line.take 16 = startSymbol then
          (pos + 16, .cutShort) :: receiveLine limit fuel (some []) (pos + 16) (line.drop 16)
        else
          let b := line.getD 1 false
          if line.getD 0 false = b then (pos + 2, .cutShort) :: receiveLine limit fuel none (pos + 2) (line.drop 2)
          else if endsIdle limit (bits ++ [b]) then
            (pos + 2, .cutShort) :: receiveLine limit fuel none (pos + 2) (line.drop 2)
          else receiveLine limit fuel (some (bits ++ [b])) (pos + 2) (line.drop 2)

/-- The command that what is received is, taken at moment `t`; a discarded message is one too (R175). The CRC is that of
the bits as they stand, so one that is no whole number of bytes is told by its length. -/
def Incoming.command (t : Nat) : Incoming → Instr
  | .cutShort => .messageDiscarded t .cutShort
  | .whole bits =>
    if !crcRight bits then .messageDiscarded t .wrongCrc
    else if bits.length % 8 ≠ 0 then .messageDiscarded t .badKindOrLength
    else match decodePanel t true (toBytes (bits.length / 8) bits) with
      | .ok c => c
      | .error r => .messageDiscarded t r

/-- The commands that an incoming line brings, given in half bit times from moment `t` on, each at the moment it is
received; `limit` data bits 0 in a row are idle. The longest message has 104 bits. -/
def panelCommands (limit t : Nat) (line : List Bool) : List Instr :=
  (receiveLine limit (line.length + 1) none 0 line).map fun x => x.2.command (t + ceilDiv x.1 2)

/-- The commands that an incoming line brings to the part. -/
def panelReceives (t : Nat) (line : List Bool) : List Instr := panelCommands (105 + Config.panelIdleRun) t line

/-- The bytes of a message on their line, in half bit times: start symbol, data bits, end symbol (R173, R191). -/
def messageOnLine (bytes : List Byte) : List Bool :=
  startSymbol ++ (byteBits bytes).flatMap lineBit ++ endSymbol

/-! ## Outgoing messages -/

/-- The reason byte of a WINDOW REFUSED notice (Table 12-4). -/
def RefusalReason.code : RefusalReason → Nat
  | .range => 2
  | .full => 3

/-- The fields of an outgoing message, from its kind byte (Table 12-4). -/
def PanelMessage.fields : PanelMessage → List Byte
  | .holdEnded => natBytes 1 2 ++ natBytes 1 1 ++ natBytes 1 0 ++ natBytes 1 0
  | .refused n => natBytes 1 2 ++ natBytes 1 2 ++ natBytes 1 n.number ++ natBytes 1 n.reason.code
  | .lightSection b =>
    natBytes 1 1 ++ natBytes 1 b.group ++ natBytes 2 b.counter ++ natBytes 1 b.tag ++ [b.lateMask]
      ++ natBytes 1 b.firstRow ++ natBytes 1 b.rowCount ++ natBytes 1 b.cols
      ++ pack (b.values.map (BitVec.ofNat 12))

/-- An outgoing message on its line, in half bit times: start symbol, fields, CRC, end symbol (R173, R191). -/
def PanelMessage.onLine (m : PanelMessage) : List Bool := messageOnLine (panelFrame m.fields)

/-- What the outgoing panel line carries: the message being sent, or the idle pattern, here for `n` bit times (R173,
R179, R191). -/
def PanelPort.onLine (p : PanelPort) (n : Nat) : List Bool :=
  match p.sending with
  | some x => x.message.onLine
  | none => idlePattern n

end Sys2Proof.Machine
end

