-- ==== Sys2Proof/Machine/ResponseFormat.lean ====
section
/-! DEFINITION. The bytes of a read transaction of the system port (12.4, R180, R194, Tables 12-6 to 12-8). The
codes of enumerated values that no byte table gives are those of log 25. -/

namespace Sys2Proof.Machine

/-- A mark as one byte. -/
def markByte (b : Bool) : List Byte := natBytes 1 b.toNat

/-- An unsigned number, or all ones in its width where it is absent (12.4). -/
def optBytes (len : Nat) : Option Nat → List Byte
  | some n => natBytes len n
  | none => List.replicate len 0xFF#8

/-! ## Codes of enumerated values -/

/-- The result byte (12.4). -/
def SysResult.code : SysResult → Nat
  | .done => 0
  | .empty => 1
  | .busy => 2
  | .wrongState => 3
  | .range => 4
  | .clamped => 5
  | .conflict => 6
  | .stale => 7
  | .inconsistent => 8
  | .linkError => 9

/-- Faults in the order of Table 1-7. -/
def ZoneFault.code : ZoneFault → Nat
  | .none => 0
  | .open => 1
  | .short => 2
  | .missing => 3

/-- The two bytes of a zone state and its dark reason (12.4). -/
def ZoneState.bytes : ZoneState → List Byte
  | .unmapped => natBytes 1 0 ++ [0xFF#8]
  | .faulted => natBytes 1 1 ++ [0xFF#8]
  | .dark .chain => natBytes 1 2 ++ natBytes 1 0
  | .dark .blank => natBytes 1 2 ++ natBytes 1 1
  | .lit => natBytes 1 3 ++ [0xFF#8]

/-- Part states in the order of Table 1-4. -/
def PartState.code : PartState → Nat
  | .config => 0
  | .starting => 1
  | .running => 2

/-- Pass states in the order of R26. -/
def PassPhase.code : PassPhase → Nat
  | .idle => 0
  | .composing => 1
  | .limiting => 2
  | .emitting => 3

/-- Timebase states in the order of Table 3-1. -/
def TimebaseState.code : TimebaseState → Nat
  | .free => 0
  | .acquire => 1
  | .locked => 2
  | .holdover => 3

/-- HOLD states in the order of R70. -/
def HoldState.code : HoldState → Nat
  | .none => 0
  | .pending => 1
  | .inForce => 2

/-- Chain states in the order of Table 6-1. -/
def ChainState.code : ChainState → Nat
  | .unused => 0
  | .stopped => 1
  | .enumerating => 2
  | .running => 3
  | .recovering => 4
  | .failed => 5

/-- Causes in the order in which R122 lists them (log 25). -/
def Cause.code : Cause → Nat
  | .linkDamage => 0
  | .notTaken => 1
  | .echoMismatch => 2
  | .echoOverdue => 3
  | .loopLost => 4
  | .problemFrames => 5

/-- Owners (12.4). -/
def WindowOwner.code : WindowOwner → Nat
  | .picture => 0
  | .panel => 1

/-! ## Report entries (Tables 12-6, 12-7) -/

/-- The source kind of an entry (Table 12-6). -/
def ReportSource.kindCode : ReportSource → Nat
  | .picturePort => 0
  | .panelPort => 1
  | .zone _ => 2
  | .driver _ _ => 3
  | .chain _ _ => 4
  | .sensor _ => 5
  | .timebase => 6
  | .pass => 7

/-- The source id of an entry (Table 12-6). -/
def ReportSource.id : ReportSource → Nat
  | .zone i => i
  | .driver c p => 64 * c + p
  | .chain c f => 64 * c + f
  | .sensor i => i
  | .picturePort | .panelPort | .timebase | .pass => 0

/-- Recovery states (Table 12-6). -/
def RecoveryState.code : RecoveryState → Nat
  | .active => 0
  | .degraded => 1
  | .recovered => 2
  | .failed => 3

/-- Event codes (Table 12-7). -/
def ReportEvent.code : ReportEvent → Nat
  | .channelFault => 1
  | .open => 2
  | .short => 3
  | .statusCheck => 4
  | .driverHot => 5
  | .supplyLow => 6
  | .latchShortfall => 7
  | .missingDrivers => 8
  | .unmappedDrivers => 9
  | .chain .echoMismatch => 10
  | .chain .echoOverdue => 11
  | .chain .loopLost => 12
  | .chain .problemFrames => 13
  | .chain .linkDamage => 14
  | .chain .notTaken => 15
  | .chainRestored => 16
  | .syncLost => 17
  | .syncRestored => 18
  | .overrun => 19
  | .holdExpired => 20
  | .messageDiscarded => 21
  | .sensorFault => 22
  | .pictureTruncated => 33
  | .pictureRange => 34
  | .pictureFull => 35
  | .pictureWrongProfile => 36
  | .pictureSequence => 37
  | .pictureIncomplete => 38
  | .pictureMalformed => 39

/-- The snapshot tag byte of an entry (Table 12-6); the bits that the table does not name are 0 (log 32). -/
def tagCode : Option SnapTag → Nat
  | none => 0
  | some g => 128 + 16 * g.buffer + g.generation

/-- The seven bytes of an entry (Table 12-6). -/
def ReportEntry.bytes (e : ReportEntry) : List Byte :=
  natBytes 1 (16 * e.source.kindCode + 4 * e.recovery.code + 2 * e.chained.toNat + e.overflow.toNat)
    ++ natBytes 2 e.source.id ++ natBytes 1 e.event.code ++ natBytes 1 (tagCode e.tag) ++ natBytes 2 e.counter

/-! ## Snapshots (Table 12-8) -/

/-- The six bytes of a reply, all 0 where absent (Table 12-8); bits 7..2 of its flags are 0 (log 32). -/
def replyBytes : Option PollReply → List Byte
  | none => List.replicate 6 0#8
  | some r =>
    natBytes 2 r.openMask.toNat ++ natBytes 2 r.shortMask.toNat
      ++ natBytes 1 (r.hot.toNat + 2 * r.supplyLow.toNat) ++ natBytes 1 r.damagedFrames

/-- The 63 bytes of a snapshot (Table 12-8); bits 7..5 of byte 5 are 0 (log 32). -/
def Snapshot.bytes (x : Snapshot) : List Byte :=
  natBytes 1 x.chain ++ natBytes 1 x.position ++ natBytes 2 x.counter ++ optBytes 1 x.record.group
    ++ natBytes 1 (x.record.known.toNat + 2 * x.record.hot.toNat + 4 * x.record.supplyLow.toNat
        + 8 * x.record.replies.length)
    ++ x.record.shadow.flatMap (natBytes 2) ++ natBytes 1 x.record.trim ++ natBytes 2 x.record.openCand.toNat
    ++ natBytes 2 x.record.shortCand.toNat ++ replyBytes x.record.replies[0]? ++ replyBytes x.record.replies[1]?
    ++ natBytes 2 x.record.lastPoll ++ natBytes 2 x.damaged ++ natBytes 2 x.late ++ natBytes 2 x.recoveries

/-! ## READ ZONE, READ PROBE, READ COUNTERS -/

/-- The three bytes of a channel (12.4). -/
def channelBytes : Option Channel → List Byte
  | none => List.replicate 3 0xFF#8
  | some x => natBytes 1 x.chain ++ natBytes 1 x.position ++ natBytes 1 x.channel

/-- The fields of Table 1-7 and the state. -/
def zoneBytes (z : Zone) (state : ZoneState) : List Byte :=
  channelBytes z.channel ++ natBytes 2 z.gain ++ optBytes 2 z.override ++ natBytes 1 z.fault.code
    ++ natBytes 2 z.eased ++ natBytes 2 z.shown ++ state.bytes

/-- The fields of Table 1-10. -/
def ProbeRecord.bytes (r : ProbeRecord) : List Byte :=
  natBytes 2 r.counter ++ natBytes 2 r.lr ++ natBytes 2 r.lb ++ natBytes 2 r.le ++ natBytes 2 r.dc ++ natBytes 2 r.dt
    ++ natBytes 2 r.dl ++ natBytes 2 r.lm ++ r.state.bytes ++ optBytes 2 r.factor ++ natBytes 3 r.scale

/-- The data of READ PROBE: no record fields where there is none. -/
def probeBytes (zone : Nat) (mode : ProbeMode) (armed : Bool) (record : Option ProbeRecord) : List Byte :=
  natBytes 2 zone ++ natBytes 1 (modeCode mode) ++ markByte armed
    ++ (match record with | some r => r.bytes | none => [])

/-- The counters of Table 11-2, row by row. -/
def counterBytes (k : Counters) (chains : List ChainCounters) : List Byte :=
  [k.stale, k.overtaken, k.overruns, k.runts, k.reportsLost, k.sectionsDropped, k.panelDiscarded,
      k.pictureErrors].flatMap (natBytes 2)
    ++ chains.flatMap (fun c => natBytes 2 c.damaged) ++ chains.flatMap (fun c => natBytes 2 c.late)
    ++ chains.flatMap fun c => natBytes 2 c.recoveries

/-! ## READ STATE (Table 11-3) -/

/-- The block of one chain. The BLANK line is given as a mark, set while asserted (log 25). -/
def ChainReport.bytes (c : ChainReport) : List Byte :=
  natBytes 1 c.state.code ++ natBytes 1 c.drivers ++ natBytes 1 c.count ++ natBytes 1 c.attempts
    ++ optBytes 1 (c.cause.map Cause.code) ++ markByte c.blankAsserted ++ natBytes 1 c.weight ++ optBytes 1 c.sensor
    ++ natBytes 2 c.target ++ natBytes 2 c.applied

/-- A temperature: two signed bytes, all ones where absent (12.4, log 27). -/
def temperatureBytes : Option Int → List Byte
  | some t => intBytes 2 t
  | none => List.replicate 2 0xFF#8

/-- The block of one sensor. -/
def SensorReport.bytes (x : SensorReport) : List Byte :=
  optBytes 2 x.average ++ temperatureBytes x.temperature ++ markByte x.fault

/-- A window record (Table 1-9). -/
def Window.bytes (w : Window) : List Byte :=
  natBytes 1 w.owner.code ++ natBytes 1 w.number ++ natBytes 1 (windowCode w.kind) ++ rectBytes w.rect
    ++ natBytes 2 w.level ++ natBytes 2 w.lifetime

/-- The rows of Table 11-3 in order. -/
def StateReport.bytes (r : StateReport) : List Byte :=
  natBytes 1 r.part.code ++ natBytes 1 r.grid.cols ++ natBytes 1 r.grid.rows ++ natBytes 1 r.groups
    ++ r.offsets.flatMap (natBytes 2) ++ natBytes 2 r.lead ++ natBytes 1 (profileCode r.profile) ++ natBytes 2 r.budget
    ++ natBytes 2 r.rise ++ natBytes 2 r.fall ++ natBytes 2 r.pollInterval ++ natBytes 2 r.holdTime
    ++ (natBytes 1 r.phase.code ++ natBytes 3 r.scale)
    ++ (markByte r.slotFull ++ natBytes 1 r.tag ++ markByte r.sceneCut)
    ++ (natBytes 1 r.timebase.code ++ natBytes 2 r.freePeriod ++ optBytes 2 r.period ++ markByte r.freeRun
        ++ natBytes 2 r.counter ++ natBytes 1 r.hold.code ++ natBytes 1 r.holdCount ++ natBytes 1 r.holdMax)
    ++ r.chains.flatMap ChainReport.bytes
    ++ (markByte r.claims.picture ++ markByte r.claims.panel ++ markByte r.claims.system)
    ++ (markByte r.converting ++ intBytes 1 r.params.a ++ intBytes 2 r.params.m ++ intBytes 1 r.params.tStart
        ++ intBytes 1 r.params.tStop ++ natBytes 2 r.params.hMin ++ r.sensors.flatMap SensorReport.bytes)
    ++ (natBytes 1 r.windows.length ++ r.windows.flatMap Window.bytes)
    ++ (natBytes 1 r.entries ++ markByte r.alert ++ markByte r.armed)

/-! ## The read transaction (12.4) -/

/-- The data of a response. -/
def ResponseData.bytes : ResponseData → List Byte
  | .none => []
  | .entry e => e.bytes
  | .snapshot x => x.bytes
  | .probe z m a r => probeBytes z m a r
  | .zone z st => zoneBytes z st
  | .counters k cs => counterBytes k cs
  | .state r => r.bytes
  | .ident k v n => natBytes 1 k ++ natBytes 1 v ++ natBytes 1 n

/-- The command code byte: 0 for none (12.4). -/
def commandCode : Option SysCommand → Nat
  | some cmd => cmd.code
  | none => 0

/-- The bytes a read transaction returns before the zeros that follow (R180, R194). While the ready mark is clear the
result and the data length are 0 and no data follows. -/
def Response.bytes (r : Response) : List Byte :=
  let data := if r.ready then r.data.bytes else []
  let result := if r.ready then (match r.result with | some x => x.code | none => 0) else 0
  natBytes 1 (128 * r.ready.toNat) ++ natBytes 1 (commandCode r.command) ++ natBytes 1 result
    ++ natBytes 2 data.length ++ data

/-- What a read transaction of `n` bytes returns now (R180, R194): it changes nothing. -/
def State.readResponse (s : State) (n : Nat) : List Byte :=
  (s.system.response.bytes ++ List.replicate n 0#8).take n

end Sys2Proof.Machine
end

