-- ==== Sys2Proof/WellFormed.lean ====
section
/-! DEFINITION. Which commands can occur: their operands are those that the wire fields of chapter 12 can carry, and
chain, group and buffer numbers of the part's own events name one that exists. -/

namespace Sys2Proof

open Machine

/-- A number that a field of `len` bytes carries. -/
def fits (len n : Nat) : Bool := decide (n < 256 ^ len)

/-- A number that a signed field of `len` bytes carries. -/
def fitsSigned (len : Nat) (i : Int) : Bool :=
  decide (-(256 ^ len : Nat) ≤ 2 * i) && decide (2 * i < (256 ^ len : Nat))

/-- A rectangle whose coordinates fit their bytes. -/
def Rect.wf (r : Rect) : Bool := fits 1 r.col0 && fits 1 r.row0 && fits 1 r.col1 && fits 1 r.row1

/-- A WINDOW whose fields fit their bytes. -/
def WindowFields.wf (w : WindowFields) : Bool :=
  fits 1 w.number && w.rect.wf && fits 2 w.level && fits 2 w.lifetime

/-- Thermal parameters that fit their fields. -/
def ThermalParams.wf (p : ThermalParams) : Bool :=
  fitsSigned 1 p.a && fitsSigned 2 p.m && fitsSigned 1 p.tStart && fitsSigned 1 p.tStop && fits 2 p.hMin

/-- A sensor field: 255 stands for none. -/
def sensorWf : Option Nat → Bool
  | none => true
  | some i => decide (i < 255)

/-- A run of 1 to 256 values. -/
def runWf (start count : Nat) : Bool := fits 2 start && decide (1 ≤ count ∧ count ≤ 256)

/-- Well-formedness of a command. -/
def Instr.wf : Instr → Bool
  | .powerOn _ => true
  | .setGrid _ cols rows => fits 1 cols && fits 1 rows
  | .setChain _ c d w sensor => fits 1 c && fits 1 d && fits 2 w && sensorWf sensor
  | .mapZone _ z c p k => fits 2 z && fits 1 c && fits 1 p && fits 1 k
  | .unmapZone _ z => fits 2 z
  | .setGroups _ g offsets lead =>
    fits 1 g && decide (offsets.length = 8) && offsets.all (fits 2) && fits 2 lead
  | .setProfile _ _ | .setPower _ _ | .setEasing _ _ _ => true
  | .setService _ pollUs holdMs => fits 2 pollUs && fits 2 holdMs
  | .setThermal _ p => p.wf
  | .setTimebase _ f => fits 2 f
  | .followSync _ | .freeRun _ => true
  | .loadGains _ first gains => fits 2 first && fits 1 gains.length && gains.all (fits 2)
  | .setOverride _ z l => fits 2 z && fits 2 l
  | .clearOverride _ z | .clearFault _ z | .readZone _ z => fits 2 z
  | .clearWindows _ | .start _ | .stop _ => true
  | .restartChain _ c => fits 1 c
  | .driverTrim _ c a code => fits 1 c && fits 1 a && fits 1 code
  | .driverIdent _ c a => fits 1 c && fits 1 a
  | .systemBlank _ _ | .takeReport _ => true
  | .readSnapshot _ b g => fits 1 b && fits 1 g
  | .probe _ z _ => fits 2 z
  | .readProbe _ | .readCounters _ | .readState _ | .softRestart _ => true
  | .unknownCommandWrite _ bytes => !bytes.isEmpty && !writeFits bytes
  | .responseCapture _ => true
  | .run12 _ first values => runWf first values.length
  | .run8 _ first values => runWf first values.length
  | .fine4 _ first values => runWf first values.length
  | .nudge _ r _ => r.wf
  | .close _ _ _ => true
  | .pictureWindow _ w | .panelWindow _ w => w.wf
  | .pictureUnwindow _ n | .panelUnwindow _ n => fits 1 n
  | .pictureBlank _ _ | .status _ => true
  | .malformedMessage _ bytes extraBits => malformed bytes extraBits && decide (extraBits < 8)
  | .hold _ m => decide (m ≠ 0)
  | .resume _ | .panelBlank _ _ | .messageDiscarded _ _ | .outgoingMessageEnd => true
  | .fsyncEdge _ | .generatedFrameStart | .holdoverEntry | .holdExpired => true
  | .compositionEnd | .limitingEnd | .emissionBlock => true
  | .problemFrames c | .frameBoundary c | .echoOverdue c | .attemptBegin c | .runningTimerExpiry c | .pollTick c =>
    decide (c < 8)
  | .echoEnd _ c _ | .loopLost _ c | .echoBegin _ c => decide (c < 8)
  | .commitPoint k | .latchPoint k => decide (k < 8)
  | .conversionComplete _ => true
  | .snapshotHoldExpiry b => decide (b < 4)

/-- A port whose messages the part takes. -/
inductive Port where
  | system | picture | panel
  deriving DecidableEq, Repr

/-- The port whose messages spell a command whole: none for an event, and for a picture message that spells nothing. -/
def Instr.port : Instr → Option Port
  | .setGrid _ _ _ | .setChain _ _ _ _ _ | .mapZone _ _ _ _ _ | .unmapZone _ _ | .setGroups _ _ _ _
  | .setProfile _ _ | .setPower _ _ | .setEasing _ _ _ | .setService _ _ _ | .setThermal _ _ | .setTimebase _ _
  | .followSync _ | .freeRun _ | .loadGains _ _ _ | .setOverride _ _ _ | .clearOverride _ _ | .clearFault _ _
  | .clearWindows _ | .start _ | .stop _ | .restartChain _ _ | .driverTrim _ _ _ _ | .driverIdent _ _ _
  | .systemBlank _ _ | .takeReport _ | .readSnapshot _ _ _ | .probe _ _ _ | .readProbe _ | .readZone _ _
  | .readCounters _ | .readState _ | .softRestart _ | .unknownCommandWrite _ _ => some .system
  | .run12 _ _ _ | .run8 _ _ _ | .fine4 _ _ _ | .nudge _ _ _ | .close _ _ _ | .pictureWindow _ _
  | .pictureUnwindow _ _ | .pictureBlank _ _ | .status _ => some .picture
  | .hold _ _ | .resume _ | .panelWindow _ _ | .panelUnwindow _ _ | .panelBlank _ _ => some .panel
  | .powerOn _ | .responseCapture _ | .malformedMessage _ _ _ | .messageDiscarded _ _ | .outgoingMessageEnd
  | .fsyncEdge _ | .generatedFrameStart | .holdoverEntry | .holdExpired | .problemFrames _ | .compositionEnd
  | .limitingEnd | .emissionBlock | .commitPoint _ | .latchPoint _ | .frameBoundary _ | .echoEnd _ _ _
  | .echoOverdue _ | .loopLost _ _ | .attemptBegin _ | .runningTimerExpiry _ | .pollTick _ | .conversionComplete _
  | .snapshotHoldExpiry _ | .echoBegin _ _ => none

end Sys2Proof
end

