-- ==== Sys2Proof/Safety.lean ====
section
/-! DEFINITION. What a sound state is, rule by rule: the terms in which the invariants are stated. Each holds at
reset, and each is claimed of every step from every state that meets it. -/

namespace Sys2Proof.Machine

/-! ## Results -/

/-- The state in which a command taken at moment `t` has changed nothing but the response buffer, which holds its
result and no data. -/
def State.onlyAnswers (s : State) (t : Nat) (cmd : SysCommand) (r : SysResult) : State :=
  { s with now := max s.now t, system := { s.system with response := ⟨true, some cmd, some r, .none, none⟩ } }

/-- The same with data. -/
def State.onlyReturns (s : State) (t : Nat) (cmd : SysCommand) (r : SysResult) (d : ResponseData) : State :=
  { s with now := max s.now t, system := { s.system with response := ⟨true, some cmd, some r, d, none⟩ } }

/-- The state in which only time has passed, to moment `t` if that is not past. -/
def State.onlyWaits (s : State) (t : Nat) : State := { s with now := max s.now t }

/-- The state in which a picture message taken at moment `t` has been refused, or carried out in part, with result `r`:
the result held, the error counted, and reported if it is the first since the error-reported mark was clear (R172). -/
def State.pictureError (s : State) (t : Nat) (r : PictureResult) (e : ReportEvent) : State :=
  let s1 : State := { s with
    now := max s.now t
    picture := { s.picture with result := r, errorMark := true }
    counters := { s.counters with pictureErrors := sat16 s.counters.pictureErrors } }
  if s.picture.errorMark = true then s1
  else s1.queueReport [⟨.picturePort, e, .active, false, false, none, s.timebase.counter⟩]

/-- The outcome of a run whose values are written from `first` on, each by its own change of its zone's level: DONE where
all lie in the grid, TRUNCATED where the last are discarded, with the sequence pointer at `pointer` (R165, R169). -/
def RunWrites (s : State) (t first pointer : Nat) (writes : List (Nat → Nat)) (o : Host.Outcome State Fault Refusal) :
    Prop :=
  ∃ l, l.length = s.grid.count ∧
    (∀ i, i < s.grid.count → l.getD i 0 =
      if first ≤ i ∧ i < first + writes.length then (writes.getD (i - first) id) (s.request.openSet.getD i 0)
      else s.request.openSet.getD i 0) ∧
    o = .next
      (if first + writes.length ≤ s.grid.count then
        { s with
          now := max s.now t
          request := { s.request with openSet := l }
          picture := { s.picture with result := .done, pointer := pointer } }
      else
        State.pictureError
          { s with
            request := { s.request with openSet := l }
            picture := { s.picture with pointer := pointer } } t .truncated .pictureTruncated)

/-- START is consistent (R184). -/
structure StartAllowed (s : State) : Prop where
  grid : 1 ≤ s.grid.count
  mapped : ∃ z ∈ s.zones, z.channel ≠ none
  served : ∀ z ∈ s.zones, ∀ x, z.channel = some x → x.position < (s.chain x.chain).drivers
  groups : ∀ i j x y, (s.zone i).channel = some x → (s.zone j).channel = some y → x.chain = y.chain →
    x.position = y.position → s.grid.zoneGroup s.schedule.groups i = s.grid.zoneGroup s.schedule.groups j

/-- A DIRECT command of chain `k` is outstanding: its request waits or its frame is in flight (R111). -/
def State.directWaits (s : State) (k : Nat) : Prop :=
  (s.chain k).direct ≠ none ∨ ∃ f ∈ (s.chain k).inflight, ∃ a q, f.sent = .direct a q

/-- The response buffer after the result of chain `k`'s DIRECT command is fixed: unchanged once another command has
replaced it (R112, R180). -/
def State.directAnswered (s : State) (k : Nat) (r : SysResult) (d : ResponseData) : SystemPort :=
  if s.system.response.waitsFor = some k then
    { s.system with response := ⟨true, s.system.response.command, some r, d, none⟩ }
  else s.system

/-- The outcome in which RUNNING chain `k` leaves RUNNING for a cause: to RECOVERING with a 1 ms wait, or to FAILED when its
attempt count is used up (R113, R121, R122). What the line still sends stays as it was (log 33). -/
def LeavesRunning (s : State) (k : Nat) (cause : Cause) (o : Host.Outcome State Fault Refusal) : Prop :=
  ∃ port, (s.directWaits k → port = s.directAnswered k .linkError .none) ∧ (¬ s.directWaits k → port = s.system) ∧
    o = .next (State.queueReport
      { s with
        system := port
        chains := s.chains.set k { s.chain k with
          state := if (s.chain k).attempts < 3 then .recovering else .failed
          wait := if (s.chain k).attempts < 3 then some (s.now + ms 1) else none
          cause := some cause
          attempt := none
          resend := none
          announce := true
          leftFrame := true
          recoveries := sat16 (s.chain k).recoveries
          mirror := (s.chain k).mirror.map fun m => { Mirror.powerOn with trim := m.trim }
          inflight := []
          staging := []
          latchSource := []
          direct := none
          poll := none
          settle := List.replicate 8 ⟨false, 0, false⟩
          problem := false
          problemCount := 0
          pollDue := none
          runDue := none
          latched := false } }
      [⟨.chain k 0, .chain cause, if (s.chain k).attempts < 3 then .degraded else .failed, false, false, none,
        s.timebase.counter⟩])

/-- The outcome in which an enumeration attempt of chain `k` fails: another follows a 1 ms wait, or the chain goes to FAILED
with its report (R119, R122). That FAILED unassigns the mirror is log 13. -/
def AttemptFails (s : State) (k : Nat) (cause : Cause) (o : Host.Outcome State Fault Refusal) : Prop :=
  ((s.chain k).attempts < 3 → o = .next { s with
    chains := s.chains.set k { s.chain k with
      inflight := [], attempt := none, resend := none, cause := some cause, wait := some (s.now + ms 1) } }) ∧
  (3 ≤ (s.chain k).attempts → o = .next (State.queueReport
    { s with
      chains := s.chains.set k { s.chain k with
        state := .failed
        inflight := []
        attempt := none
        resend := none
        cause := some cause
        wait := none
        mirror := (s.chain k).mirror.map fun m => { Mirror.powerOn with trim := m.trim } } }
    [⟨.chain k 0, .chain cause, .failed, false, false, none, s.timebase.counter⟩]))

/-- What a mismatch, an overdue echo or a lost loop of chain `k` does: a RUNNING chain leaves RUNNING, an attempt fails, and in
any other state nothing happens (R85, R88 to R90). -/
def LinkFails (s : State) (k : Nat) (cause : Cause) (o : Host.Outcome State Fault Refusal) : Prop :=
  ((s.chain k).state = .running → LeavesRunning s k cause o) ∧
  ((s.chain k).state ≠ .running → (s.chain k).attempt ≠ none → AttemptFails s k cause o) ∧
  ((s.chain k).state ≠ .running → (s.chain k).attempt = none → o = .next s)

/-- Chain engine `rest`, from which the arbiter has taken frame `x` at moment `now`, after it has sent it: with the next tag, in
flight, the line free again once the frame and 8 bit times of idle have been sent (R73, R74, R100). -/
def Chain.granted (rest : Chain) (now : Nat) (x : Sent) (retry : Bool) : Chain :=
  { rest with
    sentCount := rest.sentCount + 1
    lineFree := max now rest.lineFree + 2 * x.bits + 16
    out := some ⟨x, rest.sentCount % 4⟩
    before := if rest.lineFree ≤ now then [] else rest.out.toList ++ rest.before
    inflight := rest.inflight ++ [⟨x, rest.sentCount % 4, max now rest.lineFree + 2 * x.bits, retry, false⟩] }

/-- A STAGE to the address is in flight, so R102 holds a waiting one. -/
def Chain.holds (ch : Chain) (a : Nat) : Prop := ∃ f ∈ ch.inflight, ∃ e, f.sent = .stage e ∧ e.address = a

/-- Chain engine `ch` after a hand-over of group `k` that it takes, `duties a` being the new duties of the driver at address
`a`: the settle record marked handed and counting the STAGEs queued, which join the tail in address order (R95, R97,
R98). -/
def Chain.handed (ch : Chain) (k counter : Nat) (duties : Nat → List Nat) : Chain :=
  let stages := ((List.range 48).filter fun a => (ch.record a).assigned && decide ((ch.record a).group = some k)).filterMap
    fun a => ch.stageFor k counter a (duties a)
  { ch with
    staging := ch.staging ++ stages
    settle := ch.settle.modify k fun x => { x with handed := true, count := x.count + stages.length } }

/-- A request one grant of the STAGE source older, up to 16 (R105). -/
def older (age : Nat) : Nat := min (age + 1) 16

/-- The records of an assigned driver whose group is in the mask made unknown, the others as they were (R87, R91). -/
def forgotten (mask : BitVec 8) (m : Mirror) : Mirror :=
  { m with known := m.known && !(m.assigned && (m.group.any fun g => mask.getLsbD g)) }

/-- A capture of snapshot `x` at moment `now`: the lowest-numbered free buffer takes it, with the next generation and the
hold time in force, and the tag names it; with no buffer free there is neither capture nor tag (R146). -/
def Captures (r : ReportUnit) (now : Nat) (x : Snapshot) (tag : Option SnapTag) (buffers : List SnapBuffer) : Prop :=
  ((∀ b ∈ r.buffers, b.expires ≠ none) → tag = none ∧ buffers = r.buffers) ∧
  ∀ i b, r.buffers[i]? = some b → b.expires = none → (∀ j y, j < i → r.buffers[j]? = some y → y.expires ≠ none) →
    tag = some ⟨i, (b.generation + 1) % 16⟩ ∧
    buffers = r.buffers.set i ⟨some (now + ms r.holdTime), (b.generation + 1) % 16, some x⟩

/-- The CHANNEL FAULT reports of one reply as they stand in the queue, two ZONE entries to a report, each report led by the
driver's entry `d` with the snapshot tag, every entry but a report's last chained (R136, R142). -/
def faultReports (d : ReportEntry) : List ReportEntry → List ReportEntry
  | [] => []
  | [x] => [{ d with chained := true }, x]
  | x :: y :: rest => { d with chained := true } :: { x with chained := true } :: y :: faultReports d rest

/-- A list two by two, the last alone where their number is odd. -/
def inTwos {α : Type} : List α → List (List α)
  | [] => []
  | [x] => [[x]]
  | x :: y :: rest => [x, y] :: inTwos rest

/-- The part `y` that results when the reports of one reply are offered to part `x` one after another, each led by entry `d`
and holding the entries of one list. A report without room is lost and captures nothing; the first one queued captures
snapshot `snap`, and it and each later one carry that capture's tag in the lead. `carried` is the tag of a report queued
before (R136, R142). -/
def ReportsInTurn (d : ReportEntry) (snap : Snapshot) :
    List (List ReportEntry) → Option (Option SnapTag) → State → State → Prop
  | [], _, x, y => y = x
  | es :: rest, carried, x, y =>
    (32 < x.reports.queue.length + es.length + 1 → ReportsInTurn d snap rest carried (x.queueReport (d :: es)) y) ∧
    (x.reports.queue.length + es.length + 1 ≤ 32 → ∃ tag buffers,
      (∀ g, carried = some g → tag = g ∧ buffers = x.reports.buffers) ∧
      (carried = none → Captures x.reports x.now snap tag buffers) ∧
      ReportsInTurn d snap rest (some tag)
        (State.queueReport { x with reports := { x.reports with buffers := buffers } } ({ d with tag := tag } :: es)) y)

/-- The fields of a frame that the part sends fit their fields on the wire (Table 4-1). -/
def Sent.wf : Sent → Bool
  | .stage e =>
    decide (e.address < 48) && decide (1 ≤ e.duties.length) && decide (e.first + e.duties.length ≤ 16)
      && e.duties.all fun d => decide (d ≤ 4095)
  | .latch _ | .clear => true
  | .poll a => decide (a < 48)
  | .direct a (.trim code) => decide (a < 48) && decide (code ≤ 255)
  | .direct a .ident => decide (a < 48)
  | .assign a g => decide (a < 48) && g.all fun g => decide (g ≤ 7)

/-- The state of every chain but one. -/
def Others (k : Nat) (s u : State) : Prop :=
  u.chains.length = s.chains.length ∧ ∀ j, j ≠ k → u.chain j = s.chain j

/-! ## Window list (R17, R18) -/

/-- The key of a window record (R17). -/
def Window.key (w : Window) : WindowOwner × Nat := (w.owner, w.number)

/-- The window list of a sound state: at most 16 records, no two with one key, every field in its range and every
rectangle within the grid (R17, R18). -/
structure WindowsSound (s : State) : Prop where
  few : s.windows.length ≤ 16
  keys : (s.windows.map Window.key).Nodup
  fields : ∀ w ∈ s.windows, w.number ≤ 7 ∧ w.level ≤ 4095 ∧ w.lifetime ≤ 4095
  inside : ∀ w ∈ s.windows, w.rect.col1 < s.grid.cols ∧ w.rect.row1 < s.grid.rows

/-! ## Channel map and gains (R4, R5, R7) -/

/-- The zone table of a sound state: N records, no two holding the same channel, channels and gains in their ranges
(R4, R5, R7). -/
structure MapSound (s : State) : Prop where
  size : s.zones.length = s.grid.count
  unique : ∀ i j x, (s.zone i).channel = some x → (s.zone j).channel = some x → i = j
  channels : ∀ z ∈ s.zones, ∀ x, z.channel = some x → x.chain ≤ 7 ∧ x.position ≤ 47 ∧ x.channel ≤ 15
  gains : ∀ z ∈ s.zones, 512 ≤ z.gain ∧ z.gain ≤ 1535

/-! ## Sizes of the stores (R2, R3, R13, R42, R63) -/

/-- The stores kept for each zone hold N entries, those kept for each group hold 8, and G lies in 1..8. -/
structure SizesSound (s : State) : Prop where
  zones : s.zones.length = s.grid.count
  openSet : s.request.openSet.length = s.grid.count
  slot : ∀ x, s.request.slot = some x → x.levels.length = s.grid.count
  current : s.request.current.levels.length = s.grid.count
  buffer : s.pass.buffer.length = s.grid.count
  emitted : s.pass.emitted.length = 8
  points : s.schedule.points.length = 8
  groups : 1 ≤ s.schedule.groups ∧ s.schedule.groups ≤ 8

/-! ## The budget (R37 to R39) -/

/-- The power demand and the limited drives of a sound state: a pass runs in service only, the demand held in LIMITING is
the weighted sum of the derated drives, and in EMITTING the weighted sum of the limited drives is no more than the budget
limit. -/
structure BudgetSound (s : State) : Prop where
  inService : s.pass.phase ≠ .idle → s.system.part ≠ .config
  demand : s.pass.phase = .limiting → s.pass.power = ((List.range s.grid.count).map fun i =>
    if (s.sampledZone i).state = .lit then (s.composed i).dt * (s.zoneChain (s.sampledZone i)).weight else 0).sum
  limited : s.pass.phase = .emitting →
    ((List.range s.grid.count).map fun i => s.driveOf i * (s.zoneChain (s.sampledZone i)).weight).sum
      ≤ s.pass.sample.budget * 131072

/-! ## Levels (R43) -/

/-- Every level of a list lies in 0..4095. -/
def levelsOk (l : List Nat) : Prop := ∀ x ∈ l, x ≤ 4095

/-- The levels an outgoing message carries. -/
def PanelMessage.values : PanelMessage → List Nat
  | .holdEnded | .refused _ => []
  | .lightSection b => b.values

/-- The duties of a frame. -/
def Sent.duties : Sent → List Nat
  | .stage e => e.duties
  | .latch _ | .poll _ | .direct _ _ | .assign _ _ | .clear => []

/-- The levels and duties a chain engine holds (R93, R97, 4.3). -/
structure Chain.LevelsOk (ch : Chain) : Prop where
  mirror : ∀ m ∈ ch.mirror, levelsOk m.shadow
  staging : ∀ e ∈ ch.staging, levelsOk e.duties
  inflight : ∀ f ∈ ch.inflight, levelsOk f.sent.duties
  resend : ∀ x, ch.resend = some x → levelsOk x.duties

/-- The probe record's levels. -/
def ProbeRecord.levels (r : ProbeRecord) : List Nat := [r.lr, r.lb, r.le, r.dc, r.dt, r.dl, r.lm]

/-- The composed values of a zone. -/
def Composed.levels (x : Composed) : List Nat := [x.lb, x.le, x.dc, x.dt]

/-- Every level the part holds lies in 0..4095 (R43), with the factors and scale that keep it so in their ranges
(R38, R154, R158). -/
structure LevelsSound (s : State) : Prop where
  openSet : levelsOk s.request.openSet
  slot : ∀ x, s.request.slot = some x → levelsOk x.levels
  current : levelsOk s.request.current.levels
  windows : ∀ w ∈ s.windows, w.level ≤ 4095
  zones : ∀ z ∈ s.zones, z.eased ≤ 4095 ∧ z.shown ≤ 4095
  overrides : ∀ z ∈ s.zones, ∀ l, z.override = some l → l ≤ 4095
  sampledWindows : ∀ w ∈ s.pass.sample.windows, w.level ≤ 4095
  sampledOverrides : ∀ z ∈ s.pass.sample.zones, ∀ l, z.override = some l → l ≤ 4095
  work : ∀ x ∈ s.pass.work, levelsOk x.levels
  buffer : levelsOk s.pass.buffer
  chains : ∀ ch ∈ s.chains, ch.LevelsOk
  sections : ∀ b ∈ s.panel.sections, levelsOk b.values
  sending : ∀ x, s.panel.sending = some x → levelsOk x.message.values
  probe : ∀ r, s.probe.record = some r → levelsOk r.levels
  scale : s.pass.scale ≤ 65536
  factors : ∀ x ∈ s.pass.sample.chains, x.factor ≤ 256
  applied : ∀ ch ∈ s.chains, ch.applied ≤ 256
  floor : s.thermal.params.hMin ≤ 256

/-! ## Thermal (R154, R158) -/

/-- The thermal parameters in range, and every applied factor in 64..256 (R154, R158). -/
structure DerateSound (s : State) : Prop where
  params : thermalInRange s.thermal.params = true
  applied : ∀ ch ∈ s.chains, 64 ≤ ch.applied ∧ ch.applied ≤ 256

/-- `h` is the target derate factor of a chain that names `sensor`, its hot mark set or not: the first case of R156 that
holds, with the temperature that R153 uses, capped by R157. -/
def DerateTarget (th : Thermal) (sensor : Option Nat) (hot : Prop) (h : Nat) : Prop :=
  ∃ c, (hot → h = min c 128) ∧ (¬ hot → h = c) ∧
    (sensor = none → c = 256) ∧
    ∀ i x, sensor = some i → th.sensors[i]? = some x →
      (x.codes = [] → c = th.params.hMin) ∧
      ∀ T : Int, x.codes ≠ [] → (x.fault = true → T = th.params.tStop) → (x.fault = false → x.temperature = some T) →
        (T ≤ th.params.tStart → c = 256) ∧
        (th.params.tStart < T → th.params.tStop ≤ T → c = th.params.hMin) ∧
        (th.params.tStart < T → T < th.params.tStop →
          (c : Int) = 256 - ((256 - th.params.hMin) * (T - th.params.tStart)) / (th.params.tStop - th.params.tStart))

/-! ## Counters (R188) -/

/-- The values of the counters that no chain owns. -/
def Counters.values (k : Counters) : List Nat :=
  [k.stale, k.overtaken, k.overruns, k.runts, k.reportsLost, k.sectionsDropped, k.panelDiscarded, k.pictureErrors]

/-- Every counter is 16 bits wide (R188). -/
structure CountersSound (s : State) : Prop where
  part : ∀ x ∈ s.counters.values, x ≤ 65535
  chains : ∀ ch ∈ s.chains, ch.damaged ≤ 65535 ∧ ch.late ≤ 65535 ∧ ch.recoveries ≤ 65535

/-! ## Report unit (R142, R144, R146) -/

/-- The report unit of a sound state: at most 32 entries, an armed mark only over an empty queue with the ALERT latch
clear, the newest entry not chained, generations 0..15. -/
structure ReportsSound (s : State) : Prop where
  few : s.reports.queue.length ≤ 32
  armed : s.reports.armed = true → s.reports.queue = [] ∧ s.reports.alert = false
  whole : ∀ e, s.reports.queue.getLast? = some e → e.chained = false
  buffers : s.reports.buffers.length = 4
  generations : ∀ b ∈ s.reports.buffers, b.generation ≤ 15

/-! ## Panel port (R177 to R179) -/

/-- The panel port of a sound state: at most 8 sections and 8 notices wait, and nothing waits while the outgoing line
is idle (R177 to R179). -/
structure PanelSound (s : State) : Prop where
  sections : s.panel.sections.length ≤ 8
  notices : s.panel.notices.length ≤ 8
  busy : s.panel.sending = none → s.panel.sections = [] ∧ s.panel.notices = [] ∧ s.panel.holdEnded = false

/-! ## Chain engines (R73, R100, R113, R116) -/

/-- The tags of the frames in flight are those of the last frames sent, in order (R73). -/
def tagsInOrder (fs : List InFlight) (sentCount : Nat) : Prop :=
  ∀ i f, fs[i]? = some f → (f.tag + (fs.length - i)) % 4 = sentCount % 4 ∧ f.tag < 4

/-- A frame that only an enumeration attempt sends. -/
def Sent.ofAttempt : Sent → Bool
  | .assign _ _ | .clear => true
  | .stage _ | .latch _ | .poll _ | .direct _ _ => false

/-- A chain engine of a sound state. -/
structure Chain.Sound (ch : Chain) : Prop where
  records : ch.mirror.length = 48
  window : ch.inflight.length ≤ 4
  tags : tagsInOrder ch.inflight ch.sentCount
  running : ch.state = .running → ch.attempt = none ∧ ch.wait = none ∧ ∀ f ∈ ch.inflight, f.sent.ofAttempt = false
  attempt : ch.attempt ≠ none →
    (ch.state = .enumerating ∨ ch.state = .recovering) ∧ ch.wait = none ∧ ch.inflight.length ≤ 1 ∧
      ∀ f ∈ ch.inflight, f.sent.ofAttempt = true
  resend : ch.resend ≠ none → ch.attempt ≠ none ∧ ch.inflight = [] ∧ ∀ x, ch.resend = some x → x.ofAttempt = true
  waiting : ch.wait ≠ none → (ch.state = .enumerating ∨ ch.state = .recovering) ∧ ch.inflight = []
  resting : ch.state ≠ .running → ch.attempt = none → ch.inflight = []
  quiet : ch.state ≠ .running →
    ch.staging = [] ∧ ch.latchSource = [] ∧ ch.direct = none ∧ ch.poll = none ∧ ch.pollDue = none ∧ ch.runDue = none
      ∧ ch.latched = false ∧ ch.problem = false
  unused : ch.state = .unused ↔ ch.drivers = 0

/-- Every chain engine is sound, there are eight, and in CONFIG each is UNUSED or STOPPED (R113 to R115). -/
structure ChainsSound (s : State) : Prop where
  eight : s.chains.length = 8
  each : ∀ ch ∈ s.chains, ch.Sound
  config : s.system.part = .config → ∀ ch ∈ s.chains, ch.state = .unused ∨ ch.state = .stopped

/-! ## Timebase (R52 to R58) -/

/-- The timebase of a sound state at moment `now`: periods in 4,100..42,000 µs, remembered moments past, a pending
frame start and a running holdover timer within the bounds of R58. -/
structure Timebase.Sound (tb : Timebase) (now : Nat) : Prop where
  past : tb.lastStart ≤ now
  edge : ∀ e, tb.lastEdge = some e → e ≤ now
  free : 4100 ≤ tb.freePeriod ∧ tb.freePeriod ≤ 42000
  held : 4100 ≤ tb.heldPeriod ∧ tb.heldPeriod ≤ 42000
  period : ∀ p, tb.period = some p → 4100 ≤ p ∧ p ≤ 42000
  pending : ∀ d, tb.pendingStart = some d → tb.lastStart + us 4100 ≤ d ∧ d ≤ tb.lastStart + us 42000
  locked : tb.state = .locked → ∃ e p, tb.lastEdge = some e ∧ tb.period = some p ∧ tb.lastStart ≤ e
  holdover : tb.state = .holdover → tb.period ≠ none
  quiet : tb.state = .locked → tb.freeRun = false → tb.pendingStart = none
  freeRunning : tb.freeRun = true → tb.pendingStart ≠ none
  following : tb.state ≠ .locked → tb.pendingStart ≠ none
  counter : tb.counter ≤ 65535

/-- At moment `t` no event of the timebase is overdue. -/
def Timebase.onTime (tb : Timebase) (t : Nat) : Prop :=
  (∀ d, tb.pendingStart = some d → t ≤ d) ∧ ∀ d, tb.holdoverDue = some d → t ≤ d

/-- The environment delivers the timebase's own events in time: none is overdue, now or when command `c` is taken. -/
def State.inTime (s : State) (c : Instr) : Prop :=
  s.timebase.onTime s.now ∧ ∀ t, c.arrival = some t → s.timebase.onTime (max s.now t)

end Sys2Proof.Machine
end

