-- ==== Sys2Proof/Certificates/Slice0/Obligations.lean ====
section
/-! DEFINITION. What is claimed of the part: each statement says, of every state and every operand, what the rules of
the spec that its docstring names say the part does. -/

open Sys2Proof Sys2Proof.Machine

/-! ## The machine -/

/-- The queue: the command at its front is what a step takes, with the queue's rest behind it; on an empty queue the
part idles (the model's choice, log 4). -/
def Obligations.StepTakesFrontCommand : Prop :=
  (∀ (c : Instr) (s : State), step { s with pending := c :: s.pending } = exec c s) ∧
  ∀ s : State, s.pending = [] → step s = .next s

/-- 0.6.6, R162, R176, R180: each message of the picture port and each command of the system port receives a result and
each panel message is executed or discarded, and no rule names a condition that stops the part: every command answers a
next state. (That commands wait in one queue, which the command leaves as it was, and that time does not run backwards
is the model's own, log 1; that an event which does not fit changes nothing is log 3.) -/
def Obligations.EveryCommandCompletes : Prop :=
  ∀ (c : Instr) (s : State), ∃ u, exec c s = .next u ∧ u.pending = s.pending ∧ s.now ≤ u.now

/-- The state right after reset meets every invariant below. -/
def Obligations.ResetMeetsInvariants : Prop :=
  WindowsSound State.reset ∧ MapSound State.reset ∧ LevelsSound State.reset ∧ DerateSound State.reset ∧
    CountersSound State.reset ∧ ReportsSound State.reset ∧ PanelSound State.reset ∧ ChainsSound State.reset ∧
    SizesSound State.reset ∧ BudgetSound State.reset ∧ State.reset.timebase.Sound State.reset.now

/-! ## Invariants that every step keeps -/

/-- R18: the window list keeps at most 16 records, no two with one key, fields in range, rectangles in the grid. -/
def Obligations.WindowListStaysSound : Prop :=
  ∀ s u : State, WindowsSound s → step s = .next u → WindowsSound u

/-- R5: no two zone records come to hold the same channel; channels and gains stay in range. -/
def Obligations.ChannelMapStaysSound : Prop :=
  ∀ s u : State, MapSound s → step s = .next u → MapSound u

/-- R43: every level held by the part (request, window, override, Lb, Le, Dc, Dt, Dl, Lm, shown level, section value,
mirror duty) lies in 0..4095: right after reset, and after every step from a state in which it does. -/
def Obligations.LevelsStayInRange : Prop :=
  LevelsSound State.reset ∧ ∀ s u : State, LevelsSound s → step s = .next u → LevelsSound u

/-- R2, R3, R13, R42, R63, R154, R158, R188: the thermal parameters stay in range and every applied derate factor in
64..256; every counter stays within 16 bits; the zone table, open set, slot, current set and section buffer keep N
entries, the emitted marks and the points 8, and G stays in 1..8. (That a change of grid gives the section buffer N
levels is log 17.) -/
def Obligations.FactorsAndCountersStayInRange : Prop :=
  ∀ s u : State, step s = .next u →
    (DerateSound s → DerateSound u) ∧ (CountersSound s → CountersSound u) ∧ (SizesSound s → SizesSound u)

/-- R142, R144: the report queue keeps at most 32 entries and ends with a whole report, and while the armed mark is set
it is empty with ALERT released; snapshot generations stay in 0..15. -/
def Obligations.ReportUnitStaysSound : Prop :=
  ∀ s u : State, ReportsSound s → step s = .next u → ReportsSound u

/-- R177 to R179: at most 8 sections and 8 notices wait, and none while the outgoing line is idle. -/
def Obligations.PanelPortStaysSound : Prop :=
  ∀ s u : State, PanelSound s → step s = .next u → PanelSound u

/-- R73, R100, R113, R116: no chain has more than 4 frames in flight and their tags are those of the last frames sent in
order, an attempt has at most one, and a chain that is not RUNNING holds no queue, source, timer or latched mark. -/
def Obligations.ChainEnginesStaySound : Prop :=
  ∀ s u : State, ChainsSound s → step s = .next u → ChainsSound u

/-- R58: with the timebase's own events delivered in time, its state stays sound. -/
def Obligations.TimebaseStaysSound : Prop :=
  ∀ (c : Instr) (s u : State), s.timebase.Sound s.now → s.inTime c → exec c s = .next u → u.timebase.Sound u.now

/-- R58: from every sound state whose own timebase events are delivered in time, a step that moves the frame counter, as
every frame start does, sets the moment of the last frame start to one no closer than 4,100 µs to the one before and no
farther from it than 42,000 µs. Power-on and soft restart, which set the moment of the last frame start without a frame
start, are not steps between two frame starts. -/
def Obligations.FrameStartsKeepTheirSpacing : Prop :=
  ∀ (c : Instr) (s u : State), s.timebase.Sound s.now → s.inTime c → exec c s = .next u →
    (∀ t, c ≠ .powerOn t ∧ c ≠ .softRestart t) → u.timebase.counter ≠ s.timebase.counter →
      s.timebase.lastStart + us 4100 ≤ u.timebase.lastStart ∧ u.timebase.lastStart ≤ s.timebase.lastStart + us 42000

/-- R127: a BLANK line that is asserted is released only by an accepted echo of a LATCH: by an ECHO END of its own
RUNNING chain whose oldest frame in flight is a LATCH and whose echo is accepted. -/
def Obligations.BlankReleasedOnlyByEcho : Prop :=
  ∀ (c : Instr) (s u : State) (k : Nat), exec c s = .next u → s.blankAsserted k = true → u.blankAsserted k = false →
    ∃ t bits f rest mask count, c = .echoEnd t k bits ∧ (s.chain k).state = .running ∧
      (s.chain k).inflight = f :: rest ∧ f.sent = .latch mask ∧ (s.chain k).judge f bits = .accepted (.latches count)

/-- R37 to R39: through every step the power demand held in LIMITING stays the weighted sum of the derated drives of the
LIT zones, and in EMITTING the limited drives, weighted by chain, sum to no more than the budget limit; a pass runs in
service only. -/
def Obligations.LimitedDrivesMeetTheBudget : Prop :=
  ∀ s u : State, BudgetSound s → step s = .next u → BudgetSound u

/-! ## Starting points (11.3) -/

/-- R187, R53: POWER_ON, whatever the part was doing, sets every block to its power-on values: CONFIG, the grid unset,
no zones, empty request sets, no windows, the probe disarmed, every chain UNUSED with no drivers and trim 128, the
report queue and snapshot buffers empty with ALERT armed, the sensors without samples, the panel line idle with nothing
waiting, and the timebase FREE with its first frame start 16,667 µs later. (The probe's zone index 0 and mode are R22's;
that the current set's frame tag is 0 and its scene cut clear is R16's.) -/
def Obligations.PowerOnSetsEveryBlock : Prop :=
  ∀ (t : Nat) (s : State), ∃ u, exec (.powerOn t) s = .next u ∧
    u.system = ⟨.config, ⟨true, none, some .done, .none, none⟩, 2000⟩ ∧ u.grid = ⟨0, 0⟩ ∧ u.zones = [] ∧
    u.request = ⟨[], none, ⟨[], 0, false⟩⟩ ∧ u.probe = ⟨0, .once, false, none⟩ ∧
    u.windows = [] ∧ u.claims = ⟨false, false, false⟩ ∧ u.pass.phase = .idle ∧ u.pass.scale = 65536 ∧
    u.pass.entryMark = false ∧ u.pass.emitted = List.replicate 8 false ∧ u.pass.buffer = [] ∧
    u.pass.budget = 65535 ∧ u.pass.rise = 4095 ∧ u.pass.fall = 4095 ∧ u.chains.length = 8 ∧
    (∀ k, (u.chain k).state = .unused ∧ (u.chain k).drivers = 0 ∧ (u.chain k).weight = 128 ∧
      (u.chain k).sensor = none ∧ (u.chain k).applied = 256 ∧ u.blankAsserted k = true ∧
      (u.chain k).count = 0 ∧ (u.chain k).attempts = 0 ∧ (u.chain k).cause = none ∧ (u.chain k).inflight = [] ∧
      (u.chain k).staging = [] ∧ (u.chain k).latchSource = [] ∧ (u.chain k).direct = none ∧ (u.chain k).poll = none ∧
      (u.chain k).sentCount = 0 ∧ (u.chain k).damaged = 0 ∧ (u.chain k).late = 0 ∧ (u.chain k).recoveries = 0 ∧
      ∀ a, ((u.chain k).record a).assigned = false ∧ ((u.chain k).record a).trim = 128) ∧
    u.reports.queue = [] ∧ u.reports.alert = false ∧ u.reports.armed = true ∧ u.reports.holdTime = 2000 ∧
    u.reports.buffers = List.replicate 4 ⟨none, 0, none⟩ ∧
    u.thermal.params = ⟨100, -160, 70, 95, 128⟩ ∧ u.thermal.converting = false ∧
    u.thermal.sensors = List.replicate 8 ⟨false, [], false, none⟩ ∧ u.panel = ⟨[], [], false, none⟩ ∧
    u.timebase.state = .free ∧ u.timebase.counter = 0 ∧ u.timebase.freePeriod = 16667 ∧ u.timebase.period = none ∧
    u.timebase.freeRun = false ∧
    u.timebase.pendingStart = some (u.now + us 16667) ∧ u.timebase.lastStart = u.now ∧ u.now = max s.now t ∧
    u.schedule.groups = 1 ∧ u.schedule.offsets = List.replicate 8 0 ∧ u.schedule.lead = 800 ∧
    u.schedule.points = List.replicate 8 none ∧
    u.schedule.hold = .none ∧ u.picture.result = .done ∧ u.picture.profile = .sparse ∧ u.picture.pointer = 0 ∧
    u.picture.errorMark = false ∧ u.counters = Counters.zero ∧ u.pending = s.pending

/-- R184: START in CONFIG puts the part in STARTING, every chain with drivers in ENUMERATING with its attempt count 0
and its 1 ms wait begun, and the thermal sequencer in conversion from TS0 with every discard mark set and every list
empty; otherwise it is refused WRONG STATE or INCONSISTENT and changes nothing else. -/
def Obligations.StartBeginsService : Prop :=
  ∀ (t : Nat) (s : State),
    (s.system.part ≠ .config → exec (.start t) s = .next (s.onlyAnswers t .start .wrongState)) ∧
    (s.system.part = .config → ¬ StartAllowed s → exec (.start t) s = .next (s.onlyAnswers t .start .inconsistent)) ∧
    (s.system.part = .config → StartAllowed s → ∃ u, exec (.start t) s = .next u ∧
      u = { s with
        now := max s.now t
        system := { s.system with part := .starting, response := ⟨true, some .start, some .done, .none, none⟩ }
        chains := u.chains
        thermal := u.thermal } ∧
      u.chains.length = s.chains.length ∧
      (∀ k, k < s.chains.length → (s.chain k).drivers = 0 → u.chain k = s.chain k) ∧
      (∀ k, k < s.chains.length → (s.chain k).drivers ≠ 0 →
        (u.chain k).state = .enumerating ∧ (u.chain k).attempts = 0 ∧ (u.chain k).wait = some (u.now + ms 1) ∧
        (u.chain k).attempt = none ∧ (u.chain k).inflight = [] ∧ (u.chain k).drivers = (s.chain k).drivers ∧
        (u.chain k).count = (s.chain k).count ∧ (u.chain k).cause = (s.chain k).cause) ∧
      u.thermal.converting = true ∧ u.thermal.startedAt = u.now ∧ u.thermal.done = 0 ∧
      u.thermal.params = s.thermal.params ∧
      (∀ x ∈ u.thermal.sensors, x.discard = true ∧ x.codes = []) ∧
      u.thermal.sensors.map Sensor.fault = s.thermal.sensors.map Sensor.fault)

/-- R186, R48, R51, R125: STOP in any state puts the part in CONFIG, abandons a pass without overrun (its working store
is left open here), cancels the frame's points, stops the sequencer, and leaves every chain with drivers STOPPED, its
BLANK line asserted, nothing in flight or waiting, every record unassigned with its trim kept, with one CLEAR put on the
line. Everything else the part holds stays: the fields not named below are those of the state before. (That the CLEAR is
counted in the sent-frame count is log 14, that it follows a frame under way log 33.) -/
def Obligations.StopLeavesService : Prop :=
  ∀ (t : Nat) (s : State), ∃ u, exec (.stop t) s = .next u ∧
    u = { s with
      now := max s.now t
      system := { s.system with part := .config, response := ⟨true, some .stop, some .done, .none, none⟩ }
      pass := { s.pass with
        phase := .idle, entryMark := false, emitted := List.replicate 8 false, work := u.pass.work, power := u.pass.power }
      schedule := { s.schedule with points := List.replicate 8 none }
      chains := u.chains
      thermal := { s.thermal with converting := false } } ∧
    (s.pass.phase = .idle → u.pass.work = s.pass.work ∧ u.pass.power = s.pass.power) ∧
    u.chains.length = s.chains.length ∧
    ∀ k, k < s.chains.length →
      ((s.chain k).drivers = 0 → u.chain k = s.chain k) ∧
      ((s.chain k).drivers ≠ 0 → u.blankAsserted k = true ∧ ∃ left, u.chain k = { s.chain k with
          state := .stopped
          attempts := 0
          wait := none
          attempt := none
          resend := none
          runDue := none
          leftFrame := left
          mirror := (s.chain k).mirror.map fun m => { Mirror.powerOn with trim := m.trim }
          inflight := []
          staging := []
          latchSource := []
          direct := none
          poll := none
          settle := List.replicate 8 ⟨false, 0, false⟩
          problem := false
          problemCount := 0
          pollPointer := 0
          pollDue := none
          latched := false
          sentCount := (s.chain k).sentCount + 1
          lineFree := max u.now (s.chain k).lineFree + 2 * 64 + 16
          out := some ⟨.clear, (s.chain k).sentCount % 4⟩
          before := if (s.chain k).lineFree ≤ u.now then [] else (s.chain k).out.toList ++ (s.chain k).before } ∧
        (left = true ↔ (s.chain k).leftFrame = true ∨ (s.chain k).state = .running))

/-- R187: SOFT RESTART in any state keeps the left column of its table and sets the right column afresh: zones, request
sets, windows, probe, timebase, HOLD, chains, report unit, sensors, picture port and counters. The panel port, the grid,
the claims and every setting stay. A chain with drivers is left STOPPED with nothing in flight, waiting or running and
every record unassigned with its trim kept, one CLEAR put on its line; an UNUSED chain stays UNUSED. (That MISSING
faults become NONE is log 35, that the CLEAR follows a frame under way log 33; the sent-frame count after the CLEAR, log
14, is not stated here.) -/
def Obligations.SoftRestartSetsAfresh : Prop :=
  ∀ (t : Nat) (s : State), ∃ u, exec (.softRestart t) s = .next u ∧
    u.now = max s.now t ∧ u.grid = s.grid ∧ u.claims = s.claims ∧ u.panel = s.panel ∧ u.pending = s.pending ∧
    u.system.part = .config ∧ u.system.pollInterval = s.system.pollInterval ∧
    u.system.response = ⟨true, some .softRestart, some .done, .none, none⟩ ∧
    u.zones = s.zones.map (fun z => ⟨z.channel, z.gain, none, .none, 0, 0, false⟩) ∧
    u.request = ⟨List.replicate s.grid.count 0, none, ⟨List.replicate s.grid.count 0, 0, false⟩⟩ ∧ u.windows = [] ∧
    u.probe = ⟨0, .once, false, none⟩ ∧ u.pass.phase = .idle ∧ u.pass.scale = 65536 ∧ u.pass.entryMark = false ∧
    u.pass.emitted = List.replicate 8 false ∧ u.pass.buffer = List.replicate s.grid.count 0 ∧
    u.pass.rise = s.pass.rise ∧ u.pass.fall = s.pass.fall ∧ u.pass.budget = s.pass.budget ∧
    u.timebase.state = .free ∧ u.timebase.freePeriod = s.timebase.freePeriod ∧ u.timebase.period = none ∧
    u.timebase.counter = 0 ∧ u.timebase.freeRun = false ∧
    u.timebase.pendingStart = some (u.now + us s.timebase.freePeriod) ∧
    u.schedule = { s.schedule with
      points := List.replicate 8 none, hold := .none, holdCount := 0, holdMax := 1, resumeMark := false } ∧
    u.reports.queue = [] ∧ u.reports.alert = false ∧ u.reports.armed = true ∧ u.reports.holdTime = s.reports.holdTime ∧
    u.reports.buffers = s.reports.buffers.map (fun _ => ⟨none, 0, none⟩) ∧
    u.thermal.converting = false ∧ u.thermal.params = s.thermal.params ∧
    u.thermal.sensors = s.thermal.sensors.map (fun _ => ⟨false, [], false, none⟩) ∧
    u.picture = { s.picture with result := .done, pointer := 0, errorMark := false } ∧ u.counters = Counters.zero ∧
    u.chains.length = s.chains.length ∧
    ∀ k, k < s.chains.length → u.blankAsserted k = true ∧ ∃ sent,
      ((s.chain k).drivers = 0 → u.chain k = { s.chain k with
        cause := none, latched := false, applied := 256, sentCount := sent, damaged := 0, late := 0, recoveries := 0 }) ∧
      ((s.chain k).drivers ≠ 0 → ∃ left, u.chain k = { s.chain k with
          state := .stopped
          attempts := 0
          cause := none
          wait := none
          attempt := none
          resend := none
          runDue := none
          leftFrame := left
          mirror := (s.chain k).mirror.map fun m => { Mirror.powerOn with trim := m.trim }
          inflight := []
          staging := []
          latchSource := []
          direct := none
          poll := none
          settle := List.replicate 8 ⟨false, 0, false⟩
          problem := false
          problemCount := 0
          pollPointer := 0
          pollDue := none
          latched := false
          applied := 256
          damaged := 0
          late := 0
          recoveries := 0
          sentCount := sent
          lineFree := max u.now (s.chain k).lineFree + 2 * 64 + 16
          out := some ⟨.clear, (s.chain k).sentCount % 4⟩
          before := if (s.chain k).lineFree ≤ u.now then [] else (s.chain k).out.toList ++ (s.chain k).before } ∧
        (left = true ↔ (s.chain k).leftFrame = true ∨ (s.chain k).state = .running))

/-! ## System configuration (1.1, 1.2, 8.2, 11.2) -/

/-- R1, R2: SET GRID. An accepted change of grid makes N zone records afresh, empties request sets, slot, window list
and probe, and returns the DENSE pointer to 0; every other item stays. (The section buffer takes N levels of 0: log 17.
The probe's zone index returns to 0 and its mode to ONCE: log 29.) -/
def Obligations.SetGridStartsAfresh : Prop :=
  ∀ (t cols rows : Nat) (s : State),
    (s.system.part ≠ .config →
      exec (.setGrid t cols rows) s = .next (s.onlyAnswers t .setGrid .wrongState)) ∧
    (s.system.part = .config → ¬ (1 ≤ cols ∧ cols ≤ 96 ∧ 1 ≤ rows ∧ rows ≤ 54) →
      exec (.setGrid t cols rows) s = .next (s.onlyAnswers t .setGrid .range)) ∧
    (s.system.part = .config → 1 ≤ cols → cols ≤ 96 → 1 ≤ rows → rows ≤ 54 → s.grid = ⟨cols, rows⟩ →
      exec (.setGrid t cols rows) s = .next (s.onlyAnswers t .setGrid .done)) ∧
    (s.system.part = .config → 1 ≤ cols → cols ≤ 96 → 1 ≤ rows → rows ≤ 54 → s.grid ≠ ⟨cols, rows⟩ →
      exec (.setGrid t cols rows) s = .next { s.onlyAnswers t .setGrid .done with
        grid := ⟨cols, rows⟩
        zones := List.replicate (cols * rows) ⟨none, 1024, none, .none, 0, 0, false⟩
        request := ⟨List.replicate (cols * rows) 0, none, ⟨List.replicate (cols * rows) 0, 0, false⟩⟩
        windows := []
        probe := ⟨0, .once, false, none⟩
        pass := { s.pass with buffer := List.replicate (cols * rows) 0 }
        picture := { s.picture with pointer := 0 } })

/-- R181, R114: SET CHAIN stores weight (held to 1..255), sensor and driver count together; a driver count changed in
CONFIG moves the chain between UNUSED and STOPPED, and one that differs outside CONFIG is refused. Nothing else of that
chain, and no other chain, changes. -/
def Obligations.SetChainStoresItsSettings : Prop :=
  ∀ (t k d w : Nat) (sensor : Option Nat) (s : State),
    ((7 < k ∨ 48 < d ∨ ∃ i, sensor = some i ∧ 7 < i) →
      exec (.setChain t k d w sensor) s = .next (s.onlyAnswers t .setChain .range)) ∧
    (k ≤ 7 → d ≤ 48 → (∀ i, sensor = some i → i ≤ 7) →
      (s.system.part ≠ .config → d ≠ (s.chain k).drivers →
        exec (.setChain t k d w sensor) s = .next (s.onlyAnswers t .setChain .wrongState)) ∧
      (s.system.part = .config ∨ d = (s.chain k).drivers →
        exec (.setChain t k d w sensor) s = .next
          { s.onlyAnswers t .setChain (if 1 ≤ w ∧ w ≤ 255 then .done else .clamped) with
            chains := s.chains.set k { s.chain k with
              state := if d = (s.chain k).drivers then (s.chain k).state else if d = 0 then .unused else .stopped
              drivers := d
              weight := if w = 0 then 1 else if 255 < w then 255 else w
              sensor := sensor } }))

/-- R5, R6: MAP ZONE gives a zone its channel unless another zone holds it, UNMAP ZONE takes it away; a change of
channel makes the zone's fault NONE and every other field and every other record stays. Both are taken in CONFIG alone
and refused for an operand out of range. -/
def Obligations.MapAndUnmapChangeOneRecord : Prop :=
  ∀ (t z c p k : Nat) (s : State),
    (s.system.part ≠ .config →
      exec (.mapZone t z c p k) s = .next (s.onlyAnswers t .mapZone .wrongState) ∧
      exec (.unmapZone t z) s = .next (s.onlyAnswers t .unmapZone .wrongState)) ∧
    (s.system.part = .config → s.zones.length = s.grid.count →
      (¬ (z < s.grid.count ∧ c ≤ 7 ∧ p ≤ 47 ∧ k ≤ 15) →
        exec (.mapZone t z c p k) s = .next (s.onlyAnswers t .mapZone .range)) ∧
      (s.grid.count ≤ z → exec (.unmapZone t z) s = .next (s.onlyAnswers t .unmapZone .range)) ∧
      (z < s.grid.count → c ≤ 7 → p ≤ 47 → k ≤ 15 →
        ((∃ j, j ≠ z ∧ (s.zone j).channel = some ⟨c, p, k⟩) →
          exec (.mapZone t z c p k) s = .next (s.onlyAnswers t .mapZone .conflict)) ∧
        ((∀ j, j ≠ z → (s.zone j).channel ≠ some ⟨c, p, k⟩) →
          exec (.mapZone t z c p k) s = .next { s.onlyAnswers t .mapZone .done with
            zones := s.zones.set z { s.zone z with
              channel := some ⟨c, p, k⟩
              fault := if (s.zone z).channel = some ⟨c, p, k⟩ then (s.zone z).fault else .none } })) ∧
      (z < s.grid.count →
        exec (.unmapZone t z) s = .next { s.onlyAnswers t .unmapZone .done with
          zones := s.zones.set z { s.zone z with
            channel := none
            fault := if (s.zone z).channel = none then (s.zone z).fault else .none } }))

/-- R182, R164: SET GROUPS sets G, the offsets and the lead together, a change of G in CONFIG alone; SET PROFILE sets
the profile and returns the sequence pointer to 0, in CONFIG alone. -/
def Obligations.SetGroupsAndProfile : Prop :=
  ∀ (t g lead : Nat) (offsets : List Nat) (p : Profile) (s : State), offsets.length = 8 →
    (¬ (1 ≤ g ∧ g ≤ 8 ∧ 100 ≤ lead ∧ lead ≤ 4000 ∧ ∀ x ∈ offsets, x ≤ 1023) →
      exec (.setGroups t g offsets lead) s = .next (s.onlyAnswers t .setGroups .range)) ∧
    (1 ≤ g → g ≤ 8 → 100 ≤ lead → lead ≤ 4000 → (∀ x ∈ offsets, x ≤ 1023) →
      (s.system.part ≠ .config → g ≠ s.schedule.groups →
        exec (.setGroups t g offsets lead) s = .next (s.onlyAnswers t .setGroups .wrongState)) ∧
      (s.system.part = .config ∨ g = s.schedule.groups →
        exec (.setGroups t g offsets lead) s = .next { s.onlyAnswers t .setGroups .done with
          schedule := { s.schedule with groups := g, offsets := offsets, lead := lead } })) ∧
    (s.system.part ≠ .config →
      exec (.setProfile t p) s = .next (s.onlyAnswers t .setProfile .wrongState)) ∧
    (s.system.part = .config →
      exec (.setProfile t p) s = .next { s.onlyAnswers t .setProfile .done with
        picture := { s.picture with profile := p, pointer := 0 } })

/-- R183: SET POWER sets the budget word, SET EASING both steps unless either is 0, SET SERVICE the poll interval and
the hold time unless either is off its range or its steps, starting the tick timer of every RUNNING chain again (R109).
-/
def Obligations.SetPowerEasingAndService : Prop :=
  ∀ (t : Nat) (b rise fall : BitVec 16) (pollUs holdMs : Nat) (s : State),
    exec (.setPower t b) s = .next { s.onlyAnswers t .setPower .done with pass := { s.pass with budget := b.toNat } } ∧
    (rise.toNat % 4096 = 0 ∨ fall.toNat % 4096 = 0 →
      exec (.setEasing t rise fall) s = .next (s.onlyAnswers t .setEasing .range)) ∧
    (rise.toNat % 4096 ≠ 0 → fall.toNat % 4096 ≠ 0 →
      exec (.setEasing t rise fall) s = .next { s.onlyAnswers t .setEasing .done with
        pass := { s.pass with rise := rise.toNat % 4096, fall := fall.toNat % 4096 } }) ∧
    (¬ (500 ≤ pollUs ∧ pollUs ≤ 16000 ∧ pollUs % 500 = 0 ∧ 250 ≤ holdMs ∧ holdMs ≤ 8000 ∧ holdMs % 250 = 0) →
      exec (.setService t pollUs holdMs) s = .next (s.onlyAnswers t .setService .range)) ∧
    (500 ≤ pollUs → pollUs ≤ 16000 → pollUs % 500 = 0 → 250 ≤ holdMs → holdMs ≤ 8000 → holdMs % 250 = 0 →
      exec (.setService t pollUs holdMs) s = .next { s with
        now := max s.now t
        system := { s.system with
          pollInterval := pollUs, response := ⟨true, some .setService, some .done, .none, none⟩ }
        reports := { s.reports with holdTime := holdMs }
        chains := s.chains.map fun ch =>
          if ch.state = .running then { ch with pollDue := some (max s.now t + us pollUs) } else ch })

/-- R54, R154: SET THERMAL sets its five parameters together if each is in range and T_start is below T_stop; no
temperature is formed by it. SET TIMEBASE sets the free period in 4,100..42,000 µs and leaves a pending frame start its
time (R54). -/
def Obligations.SetThermalAndTimebase : Prop :=
  ∀ (t f : Nat) (p : ThermalParams) (s : State),
    (¬ (-128 ≤ p.a ∧ p.a ≤ 127 ∧ -4096 ≤ p.m ∧ p.m ≤ 4095 ∧ -128 ≤ p.tStart ∧ p.tStop ≤ 127 ∧ p.tStart < p.tStop ∧
        64 ≤ p.hMin ∧ p.hMin ≤ 256) →
      exec (.setThermal t p) s = .next (s.onlyAnswers t .setThermal .range)) ∧
    (-128 ≤ p.a → p.a ≤ 127 → -4096 ≤ p.m → p.m ≤ 4095 → -128 ≤ p.tStart → p.tStop ≤ 127 → p.tStart < p.tStop →
      64 ≤ p.hMin → p.hMin ≤ 256 →
      exec (.setThermal t p) s = .next { s.onlyAnswers t .setThermal .done with
        thermal := { s.thermal with params := p } }) ∧
    (f < 4100 ∨ 42000 < f → exec (.setTimebase t f) s = .next (s.onlyAnswers t .setTimebase .range)) ∧
    (4100 ≤ f → f ≤ 42000 →
      exec (.setTimebase t f) s = .next { s.onlyAnswers t .setTimebase .done with
        timebase := { s.timebase with freePeriod := f } })

/-- R61: FOLLOW SYNC leads FREE, and any state whose free-run mark is set, to ACQUIRE with no accepted edge recorded and
the pending frame start kept; otherwise it changes nothing. FREE RUN sets the free-run mark outside FREE, and in LOCKED
and HOLDOVER schedules the frame start that ends the following: a free period after the last frame start, or at once.
(That the free period is the one held at the last frame start is log 7.) -/
def Obligations.FollowSyncAndFreeRun : Prop :=
  ∀ (t : Nat) (s : State),
    (s.timebase.state = .free →
      exec (.followSync t) s = .next { s.onlyAnswers t .followSync .done with
        timebase := { s.timebase with state := .acquire, lastEdge := none } } ∧
      exec (.freeRun t) s = .next (s.onlyAnswers t .freeRun .done)) ∧
    (s.timebase.state ≠ .free → s.timebase.freeRun = true →
      exec (.followSync t) s = .next { s.onlyAnswers t .followSync .done with
        timebase := { s.timebase with state := .acquire, freeRun := false, lastEdge := none } } ∧
      exec (.freeRun t) s = .next (s.onlyAnswers t .freeRun .done)) ∧
    (s.timebase.state ≠ .free → s.timebase.freeRun = false →
      exec (.followSync t) s = .next (s.onlyAnswers t .followSync .done) ∧
      exec (.freeRun t) s = .next { s.onlyAnswers t .freeRun .done with
        timebase := { s.timebase with
          freeRun := true
          pendingStart := if s.timebase.state = .acquire then s.timebase.pendingStart
            else some (max (max s.now t) (s.timebase.lastStart + us s.timebase.heldPeriod)) } })

/-! ## Zone service (1.2, 1.4, 1.5, 7.1) -/

/-- R7: LOAD GAINS stores up to 32 consecutive gains held to 512..1535 and changes no other field and no other record;
it is refused RANGE, with no gain written, beyond the grid or with no gain or more than 32. -/
def Obligations.LoadGainsStoresClampedGains : Prop :=
  ∀ (t first : Nat) (gains : List Nat) (s : State), s.zones.length = s.grid.count →
    (gains = [] ∨ 32 < gains.length ∨ s.grid.count < first + gains.length →
      exec (.loadGains t first gains) s = .next (s.onlyAnswers t .loadGains .range)) ∧
    (gains ≠ [] → gains.length ≤ 32 → first + gains.length ≤ s.grid.count →
      ∃ zs, exec (.loadGains t first gains) s = .next { s.onlyAnswers t .loadGains
          (if ∀ g ∈ gains, 512 ≤ g ∧ g ≤ 1535 then .done else .clamped) with zones := zs } ∧
        zs.length = s.zones.length ∧
        ∀ i, i < s.zones.length → zs.getD i Zone.fresh =
          if first ≤ i ∧ i < first + gains.length then
            { s.zone i with gain := max 512 (min (gains.getD (i - first) 0) 1535) }
          else s.zone i)

/-- R8, R23: SET OVERRIDE makes a zone's override present with the level given, CLEAR OVERRIDE makes it absent, PROBE
arms the probe on a zone in a mode with its record emptied; each is refused RANGE for a zone beyond the grid, and SET
OVERRIDE for a level above 4095. -/
def Obligations.OverridesAndProbeAreSet : Prop :=
  ∀ (t z l : Nat) (mode : ProbeMode) (s : State), s.zones.length = s.grid.count →
    (s.grid.count ≤ z ∨ 4095 < l →
      exec (.setOverride t z l) s = .next (s.onlyAnswers t .setOverride .range)) ∧
    (s.grid.count ≤ z →
      exec (.clearOverride t z) s = .next (s.onlyAnswers t .clearOverride .range) ∧
      exec (.probe t z mode) s = .next (s.onlyAnswers t .probe .range)) ∧
    (z < s.grid.count →
      (l ≤ 4095 → exec (.setOverride t z l) s = .next { s.onlyAnswers t .setOverride .done with
        zones := s.zones.set z { s.zone z with override := some l } }) ∧
      exec (.clearOverride t z) s = .next { s.onlyAnswers t .clearOverride .done with
        zones := s.zones.set z { s.zone z with override := none } } ∧
      exec (.probe t z mode) s = .next { s.onlyAnswers t .probe .done with
        probe := ⟨z, mode, true, none⟩ })

/-- R137: CLEAR FAULT makes a zone's fault NONE, its eased level to rise from 0 in the next pass to begin if it had a
fault (log 34), and, where its chain holds an assigned record at its position, clears both candidate marks of its
channel there; no other zone, record, mark or block changes. -/
def Obligations.ClearFaultReturnsZoneToService : Prop :=
  ∀ (t z : Nat) (s : State), s.zones.length = s.grid.count →
    (s.grid.count ≤ z → exec (.clearFault t z) s = .next (s.onlyAnswers t .clearFault .range)) ∧
    (z < s.grid.count →
      ∃ cs, exec (.clearFault t z) s = .next { s.onlyAnswers t .clearFault .done with
          zones := s.zones.set z { s.zone z with
            fault := .none
            relit := (s.zone z).relit || decide ((s.zone z).fault ≠ .none) }
          chains := cs } ∧
        ((s.zone z).channel = none → cs = s.chains) ∧
        ∀ x, (s.zone z).channel = some x →
          cs = s.chains.modify x.chain fun ch => { ch with
            mirror := ch.mirror.modify x.position fun m =>
              if m.assigned then
                { m with
                  openCand := m.openCand &&& ~~~(1#16 <<< x.channel)
                  shortCand := m.shortCand &&& ~~~(1#16 <<< x.channel) }
              else m })

/-- R11, R24, R160, R189: READ ZONE, READ PROBE and READ STATE return what they name and change nothing but the
response: the zone's record with the state Table 1-8 derives now, the probe with EMPTY where it has no record, and every
item of Table 11-3, with each chain's target factor and each sensor's average as they stand (R160). -/
def Obligations.ReadsChangeOnlyTheResponse : Prop :=
  ∀ (t z : Nat) (s : State),
    (s.grid.count ≤ z → exec (.readZone t z) s = .next (s.onlyAnswers t .readZone .range)) ∧
    (z < s.grid.count →
      ∃ st, exec (.readZone t z) s = .next (s.onlyReturns t .readZone .done (.zone (s.zone z) st)) ∧
        st = match (s.zone z).channel with
          | none => .unmapped
          | some x =>
            if (s.zone z).fault ≠ .none then .faulted
            else if (s.chain x.chain).state ≠ .running then .dark .chain
            else if s.claims.picture ∨ s.claims.panel ∨ s.claims.system then .dark .blank
            else .lit) ∧
    (exec (.readProbe t) s = .next (s.onlyReturns t .readProbe (if s.probe.record = none then .empty else .done)
      (.probe s.probe.zone s.probe.mode s.probe.armed s.probe.record))) ∧
    ∃ r, exec (.readState t) s = .next (s.onlyReturns t .readState .done (.state r)) ∧
      r = {
        part := s.system.part
        grid := s.grid
        groups := s.schedule.groups
        offsets := s.schedule.offsets
        lead := s.schedule.lead
        profile := s.picture.profile
        budget := s.pass.budget
        rise := s.pass.rise
        fall := s.pass.fall
        pollInterval := s.system.pollInterval
        holdTime := s.reports.holdTime
        phase := s.pass.phase
        scale := s.pass.scale
        slotFull := decide (s.request.slot ≠ none)
        tag := s.request.current.tag
        sceneCut := s.request.current.sceneCut
        timebase := s.timebase.state
        freePeriod := s.timebase.freePeriod
        period := s.timebase.period
        freeRun := s.timebase.freeRun
        counter := s.timebase.counter
        hold := s.schedule.hold
        holdCount := s.schedule.holdCount
        holdMax := s.schedule.holdMax
        chains := r.chains
        claims := s.claims
        converting := s.thermal.converting
        params := s.thermal.params
        sensors := s.thermal.sensors.map fun x =>
          ⟨if x.codes = [] then none else some (x.codes.sum / x.codes.length), x.temperature, x.fault⟩
        windows := s.windows
        entries := s.reports.queue.length
        alert := s.reports.alert
        armed := s.reports.armed } ∧
      r.chains.length = s.chains.length ∧
      ∀ k, k < s.chains.length → ∃ target, r.chains[k]? = some
          ⟨(s.chain k).state, (s.chain k).drivers, (s.chain k).count, (s.chain k).attempts, (s.chain k).cause,
            s.blankAsserted k, (s.chain k).weight, (s.chain k).sensor, target, (s.chain k).applied⟩ ∧
        (DerateSound s → DerateTarget s.thermal (s.chain k).sensor
          (∃ m ∈ (s.chain k).mirror, m.assigned = true ∧ m.hot = true) target)

/-- R180: a write whose first byte names no command, or whose length is not its command's, is refused RANGE and changes
nothing else. (The command kind left in the buffer is log 20; bytes that fit a command are not this event, log 3.) -/
def Obligations.UnknownWriteIsRefused : Prop :=
  ∀ (t : Nat) (b : Byte) (rest : List Byte) (s : State),
    (sysCommandOf b.toNat = none ∨ ∃ cmd, sysCommandOf b.toNat = some cmd ∧
      cmd.length (b :: rest) ≠ rest.length + 1) →
    ∃ kind, exec (.unknownCommandWrite t (b :: rest)) s = .next { s with
      now := max s.now t
      system := { s.system with response := ⟨true, kind, some .range, .none, none⟩ } }

/-! ## Chain service (5.6, 5.7, 6.1 to 6.4) -/

/-- R124, R131: RESTART CHAIN puts one chain in ENUMERATING with its attempts restored, its 1 ms wait begun and
everything in progress discarded; c, cause, counters, driver count and every other chain stay. It is refused RANGE above
chain 7 and WRONG STATE in CONFIG or for an UNUSED chain. (That a frame under way is sent to its end though its chain
leaves RUNNING is log 33.) -/
def Obligations.RestartChainEnumeratesAfresh : Prop :=
  ∀ (t k : Nat) (s : State),
    (7 < k → exec (.restartChain t k) s = .next (s.onlyAnswers t .restartChain .range)) ∧
    (k ≤ 7 → s.system.part = .config ∨ (s.chain k).state = .unused →
      exec (.restartChain t k) s = .next (s.onlyAnswers t .restartChain .wrongState)) ∧
    (k ≤ 7 → s.system.part ≠ .config → (s.chain k).state ≠ .unused →
      ∃ left, exec (.restartChain t k) s = .next { s.onlyAnswers t .restartChain .done with
        chains := s.chains.set k { s.chain k with
          state := .enumerating
          attempts := 0
          wait := some (max s.now t + ms 1)
          attempt := none
          resend := none
          announce := true
          leftFrame := left
          mirror := (s.chain k).mirror.map fun m => { Mirror.powerOn with trim := m.trim }
          inflight := []
          staging := []
          latchSource := []
          direct := none
          poll := none
          settle := List.replicate 8 ⟨false, 0, false⟩
          problem := false
          problemCount := 0
          pollDue := none
          runDue := none
          latched := false } } ∧
        (left = true ↔ (s.chain k).leftFrame = true ∨ (s.chain k).state = .running))

/-- R117, R120, R122, R108: an attempt begins when its wait has run, a chain RUNNING for 10 s has its attempts restored,
and a tick places a POLL to the address of the pointer, which moves on, unless one waits already or no address is
assigned (R120); then the tick timer starts again. Without a wait, a running timer or a tick timer these events do not
fit and change nothing (log 3). -/
def Obligations.ChainTimersAct : Prop :=
  ∀ (k w : Nat) (s : State),
    ((s.chain k).wait = none → exec (.attemptBegin k) s = .next s) ∧
    ((s.chain k).wait = some w → exec (.attemptBegin k) s = .next { s with
      now := max s.now w
      zones := s.zones.map fun z =>
        if z.fault = .missing ∧ (∃ x, z.channel = some x ∧ x.chain = k) then { z with fault := .none } else z
      chains := s.chains.set k { ({ s.chain k with sentCount := 0 } : Chain).granted (max s.now w) .clear false with
        attempts := (s.chain k).attempts + 1
        wait := none
        attempt := some .clearing
        watchFrom := max s.now w } }) ∧
    ((s.chain k).runDue = none → exec (.runningTimerExpiry k) s = .next s) ∧
    ((s.chain k).runDue = some w → exec (.runningTimerExpiry k) s = .next { s with
      now := max s.now w
      chains := s.chains.set k { s.chain k with attempts := 0, runDue := none } }) ∧
    ((s.chain k).pollDue = none → exec (.pollTick k) s = .next s) ∧
    ((s.chain k).pollDue = some w →
        (s.chain k).poll ≠ none ∨ (∀ m ∈ (s.chain k).mirror, m.assigned = false) → exec (.pollTick k) s = .next { s with
      now := max s.now w
      chains := s.chains.set k (({ s.chain k with
        pollDue := some (w + us s.system.pollInterval) } : Chain).serve (max s.now w)) }) ∧
    ((s.chain k).pollDue = some w → (s.chain k).poll = none → (∃ m ∈ (s.chain k).mirror, m.assigned = true) →
      ∃ p, exec (.pollTick k) s = .next { s with
          now := max s.now w
          chains := s.chains.set k (({ s.chain k with
            poll := some ⟨(s.chain k).pollPointer, 0, false⟩
            pollPointer := p
            pollDue := some (w + us s.system.pollInterval) } : Chain).serve (max s.now w)) } ∧
        ((∃ a, a < 48 ∧ (s.chain k).pollPointer < a ∧ ((s.chain k).record a).assigned = true) →
          p < 48 ∧ (s.chain k).pollPointer < p ∧ ((s.chain k).record p).assigned = true ∧
          ∀ a, (s.chain k).pollPointer < a → a < p → ((s.chain k).record a).assigned = false) ∧
        ((∀ a, a < 48 → (s.chain k).pollPointer < a → ((s.chain k).record a).assigned = false) → p = 0))

/-- R104, R111, R180: DRIVER TRIM and DRIVER IDENT are checked in order, and an accepted one waits in its chain's DIRECT
source with age 0, the response pending; on an idle line the arbiter serves it at once (R104). -/
def Obligations.DirectCommandsAreChecked : Prop :=
  ∀ (t c a : Nat) (q : DirectKind) (cmd : SysCommand) (i : Instr) (s : State),
    (q = .ident ∧ cmd = .driverIdent ∧ i = .driverIdent t c a ∨
      ∃ code, q = .trim code ∧ cmd = .driverTrim ∧ i = .driverTrim t c a code) →
    (7 < c ∨ 47 < a ∨ (∃ code, q = .trim code ∧ 255 < code) → exec i s = .next (s.onlyAnswers t cmd .range)) ∧
    (c ≤ 7 → a ≤ 47 → (∀ code, q = .trim code → code ≤ 255) →
      ((s.chain c).state ≠ .running → exec i s = .next (s.onlyAnswers t cmd .wrongState)) ∧
      ((s.chain c).state = .running →
        (((s.chain c).record a).assigned = false → exec i s = .next (s.onlyAnswers t cmd .range)) ∧
        (((s.chain c).record a).assigned = true →
          (s.directWaits c → exec i s = .next (s.onlyAnswers t cmd .busy)) ∧
          (¬ s.directWaits c → exec i s = .next { s with
            now := max s.now t
            system := { s.system with response := ⟨false, some cmd, none, .none, some c⟩ }
            chains := s.chains.set c
              (({ s.chain c with direct := some ⟨a, q, 0, false⟩ } : Chain).serve (max s.now t)) }))))

/-- R126 to R128: BLANK(on) and BLANK(off) set and clear the claim of their own port alone; clearing a claim that was
set clears every latched mark; and while a claim is set every BLANK line is asserted. -/
def Obligations.BlankClaimsMoveTheLines : Prop :=
  ∀ (t : Nat) (on : Bool) (s : State),
    exec (.systemBlank t on) s = .next { s.onlyAnswers t .blank .done with
      claims := { s.claims with system := on }
      chains := if s.claims.system = true ∧ on = false then s.chains.map fun ch => { ch with latched := false }
        else s.chains } ∧
    exec (.pictureBlank t on) s = .next { s with
      now := max s.now t
      picture := { s.picture with result := .done }
      claims := { s.claims with picture := on }
      chains := if s.claims.picture = true ∧ on = false then s.chains.map fun ch => { ch with latched := false }
        else s.chains } ∧
    exec (.panelBlank t on) s = .next { s with
      now := max s.now t
      claims := { s.claims with panel := on }
      chains := if s.claims.panel = true ∧ on = false then s.chains.map fun ch => { ch with latched := false }
        else s.chains } ∧
    ((s.claims.picture = true ∨ s.claims.panel = true ∨ s.claims.system = true) → ∀ k, s.blankAsserted k = true)

/-! ## Report unit (7.2, 7.3) -/

/-- R143, R144, R147, R148, R188: READ COUNTERS returns every counter and sets every counter to 0; TAKE REPORT removes
and returns the oldest entry or answers EMPTY, clearing ALERT; READ SNAPSHOT returns the content that its tag names and
frees the buffer, or answers STALE; a hold timer that runs out frees its buffer. An expiry of a buffer that is not held
does not fit and changes nothing (log 3). -/
def Obligations.ReportsSnapshotsAndCountersAreRead : Prop :=
  ∀ (t b g w : Nat) (s : State),
    exec (.readCounters t) s = .next { s.onlyReturns t .readCounters .done
        (.counters s.counters (s.chains.map fun ch => ⟨ch.damaged, ch.late, ch.recoveries⟩)) with
      counters := ⟨0, 0, 0, 0, 0, 0, 0, 0⟩
      chains := s.chains.map fun ch => { ch with damaged := 0, late := 0, recoveries := 0 } } ∧
    (s.reports.queue = [] → exec (.takeReport t) s = .next { s.onlyAnswers t .takeReport .empty with
      reports := { s.reports with alert := false, armed := true } }) ∧
    (∀ e rest, s.reports.queue = e :: rest →
      exec (.takeReport t) s = .next { s.onlyReturns t .takeReport .done (.entry e) with
        reports := { s.reports with queue := rest, alert := false } }) ∧
    (3 < b ∨ 15 < g → exec (.readSnapshot t b g) s = .next (s.onlyAnswers t .readSnapshot .range)) ∧
    (b ≤ 3 → g ≤ 15 → ∀ x, s.reports.buffers[b]? = some x →
      (∀ content, x.generation = g → x.content = some content →
        exec (.readSnapshot t b g) s = .next { s.onlyReturns t .readSnapshot .done (.snapshot content) with
          reports := { s.reports with buffers := s.reports.buffers.set b { x with expires := none } } }) ∧
      (x.generation ≠ g ∨ x.content = none →
        exec (.readSnapshot t b g) s = .next (s.onlyAnswers t .readSnapshot .stale))) ∧
    ∀ x, s.reports.buffers[b]? = some x →
      (x.expires = none → exec (.snapshotHoldExpiry b) s = .next s) ∧
      (x.expires = some w → exec (.snapshotHoldExpiry b) s = .next { s with
        now := max s.now w
        reports := { s.reports with buffers := s.reports.buffers.set b { x with expires := none } } })

/-! ## Picture port (chapter 9) -/

/-- R162, R163, R172: asserting chip select captures the response; STATUS has no effect but its result; a message with
spare bits, an unknown kind or a length its kind does not require is MALFORMED, counted and reported once. An assertion
that clocks no whole byte is no message (R161), and bytes that are a well-formed message are not this event (log 3). -/
def Obligations.CaptureStatusAndMalformed : Prop :=
  ∀ (t extra : Nat) (bytes : List Byte) (s : State),
    exec (.responseCapture t) s = .next { s with
      now := max s.now t
      picture := { s.picture with
        captured := some ⟨s.picture.result, s.request.slot.isSome, s.picture.pointer, s.timebase.counter⟩ } } ∧
    exec (.status t) s = .next { s with now := max s.now t, picture := { s.picture with result := .done } } ∧
    (bytes ≠ [] → 0 < extra ∨ pictureLength bytes ≠ some bytes.length →
      exec (.malformedMessage t bytes extra) s = .next (s.pictureError t .malformed .pictureMalformed)) ∧
    (bytes = [] ∨ extra = 0 ∧ pictureLength bytes = some bytes.length →
      exec (.malformedMessage t bytes extra) s = .next (s.onlyWaits t))

/-- R165 to R167: in SPARSE a run writes its values from the start index on, a 12-bit value whole, an 8-bit value times
16, a 4-bit value into the low four bits; values beyond the grid are discarded with TRUNCATED, and a start at N or above
is refused RANGE. No other zone and nothing else changes. -/
def Obligations.SparseRunsWriteLevels : Prop :=
  ∀ (t first : Nat) (v12 : List (BitVec 12)) (v8 : List (BitVec 8)) (v4 : List (BitVec 4)) (s : State),
    s.picture.profile = .sparse → s.request.openSet.length = s.grid.count →
    (s.grid.count ≤ first →
      exec (.run12 t first v12) s = .next (s.pictureError t .range .pictureRange) ∧
      exec (.run8 t first v8) s = .next (s.pictureError t .range .pictureRange) ∧
      exec (.fine4 t first v4) s = .next (s.pictureError t .range .pictureRange)) ∧
    (first < s.grid.count →
      RunWrites s t first s.picture.pointer (v12.map fun v _ => v.toNat) (exec (.run12 t first v12) s) ∧
      RunWrites s t first s.picture.pointer (v8.map fun v _ => 16 * v.toNat) (exec (.run8 t first v8) s) ∧
      RunWrites s t first s.picture.pointer (v4.map fun v old => old / 16 * 16 + v.toNat) (exec (.fine4 t first v4) s))

/-- R169: in DENSE FINE4 and NUDGE are refused WRONG PROFILE; a RUN12 or RUN8 is refused RANGE without a grid or once
every zone has been written, SEQUENCE where its start is not the pointer, and else is written, the pointer moving to the
index after the last zone written. -/
def Obligations.DenseRunsFollowTheSequence : Prop :=
  ∀ (t first : Nat) (v12 : List (BitVec 12)) (v8 : List (BitVec 8)) (v4 : List (BitVec 4)) (r : Rect) (d : BitVec 8)
    (s : State), s.picture.profile = .dense → s.request.openSet.length = s.grid.count →
    exec (.fine4 t first v4) s = .next (s.pictureError t .wrongProfile .pictureWrongProfile) ∧
    exec (.nudge t r d) s = .next (s.pictureError t .wrongProfile .pictureWrongProfile) ∧
    (s.grid.count = 0 ∨ (first = s.picture.pointer ∧ s.grid.count ≤ first) →
      exec (.run12 t first v12) s = .next (s.pictureError t .range .pictureRange) ∧
      exec (.run8 t first v8) s = .next (s.pictureError t .range .pictureRange)) ∧
    (s.grid.count ≠ 0 → first ≠ s.picture.pointer →
      exec (.run12 t first v12) s = .next (s.pictureError t .sequence .pictureSequence) ∧
      exec (.run8 t first v8) s = .next (s.pictureError t .sequence .pictureSequence)) ∧
    (first = s.picture.pointer → first < s.grid.count →
      RunWrites s t first (min (first + v12.length) s.grid.count) (v12.map fun v _ => v.toNat)
        (exec (.run12 t first v12) s) ∧
      RunWrites s t first (min (first + v8.length) s.grid.count) (v8.map fun v _ => 16 * v.toNat)
        (exec (.run8 t first v8) s))

/-- R168, R170: NUDGE is refused WRONG PROFILE in DENSE; in SPARSE it moves every level of its clamped rectangle by its
signed delta, held to 0..4095, or is refused RANGE without a grid or with its corners out of order. CLOSE copies the
open set into the closed slot, counting a set it overtakes, returns the pointer to 0 and clears the error-reported mark;
in DENSE it is refused INCOMPLETE while the pointer is below N. -/
def Obligations.NudgeAndClose : Prop :=
  ∀ (t : Nat) (r : Rect) (d tag : BitVec 8) (cut : Bool) (s : State),
    s.request.openSet.length = s.grid.count →
    (s.picture.profile = .dense →
      exec (.nudge t r d) s = .next (s.pictureError t .wrongProfile .pictureWrongProfile)) ∧
    (s.picture.profile = .sparse → s.grid.count = 0 ∨ r.col1 < r.col0 ∨ r.row1 < r.row0 →
      exec (.nudge t r d) s = .next (s.pictureError t .range .pictureRange)) ∧
    (s.picture.profile = .sparse → s.grid.count ≠ 0 → r.col0 ≤ r.col1 → r.row0 ≤ r.row1 →
      ∃ l, exec (.nudge t r d) s = .next { s with
          now := max s.now t
          request := { s.request with openSet := l }
          picture := { s.picture with result := .done } } ∧
        l.length = s.grid.count ∧
        ∀ i, i < s.grid.count → (l.getD i 0 : Int) =
          if min r.col0 (s.grid.cols - 1) ≤ i % s.grid.cols ∧ i % s.grid.cols ≤ min r.col1 (s.grid.cols - 1) ∧
            min r.row0 (s.grid.rows - 1) ≤ i / s.grid.cols ∧ i / s.grid.cols ≤ min r.row1 (s.grid.rows - 1)
          then max 0 (min ((s.request.openSet.getD i 0 : Int) + d.toInt) 4095)
          else (s.request.openSet.getD i 0 : Int)) ∧
    (s.picture.profile = .dense → s.picture.pointer < s.grid.count →
      exec (.close t tag cut) s = .next (s.pictureError t .incomplete .pictureIncomplete)) ∧
    (s.picture.profile = .sparse ∨ s.grid.count ≤ s.picture.pointer →
      exec (.close t tag cut) s = .next { s with
        now := max s.now t
        request := { s.request with slot := some ⟨s.request.openSet, tag.toNat, cut⟩ }
        counters := if s.request.slot = none then s.counters
          else { s.counters with overtaken := sat16 s.counters.overtaken }
        picture := { s.picture with result := .done, pointer := 0, errorMark := false } })

/-! ## Windows (1.4, 9.6, 10.2, 11.2) -/

/-- R18, R19: a WINDOW of either port is refused RANGE or FULL or written, clamped, in the place of the record with its
key or at the end; UNWINDOW removes the record with its key, CLEAR WINDOWS every record. The picture port holds the
result and the panel port places a notice of a refusal. -/
def Obligations.WindowsAreKeptByKey : Prop :=
  ∀ (t n : Nat) (w : WindowFields) (s : State),
    exec (.clearWindows t) s = .next { s.onlyAnswers t .clearWindows .done with windows := [] } ∧
    (7 < n → exec (.pictureUnwindow t n) s = .next (s.pictureError t .range .pictureRange) ∧
      exec (.panelUnwindow t n) s = .next ((s.onlyWaits t).placeNotice ⟨n, .range⟩)) ∧
    (n ≤ 7 →
      exec (.pictureUnwindow t n) s = .next { s with
        now := max s.now t
        windows := s.windows.filter fun x => decide (x.key ≠ (.picture, n))
        picture := { s.picture with result := .done } } ∧
      exec (.panelUnwindow t n) s = .next { s with
        now := max s.now t, windows := s.windows.filter fun x => decide (x.key ≠ (.panel, n)) }) ∧
    ∀ owner : WindowOwner,
      let accepted : List Window → State := fun ws => match owner with
        | .picture => { s with now := max s.now t, windows := ws, picture := { s.picture with result := .done } }
        | .panel => { s with now := max s.now t, windows := ws }
      let refused : RefusalReason → State := fun r => match owner, r with
        | .picture, .range => s.pictureError t .range .pictureRange
        | .picture, .full => s.pictureError t .full .pictureFull
        | .panel, r => (s.onlyWaits t).placeNotice ⟨w.number, r⟩
      let i : Instr := match owner with
        | .picture => .pictureWindow t w
        | .panel => .panelWindow t w
      let fresh : Window := ⟨owner, w.number, w.kind,
        ⟨min w.rect.col0 (s.grid.cols - 1), min w.rect.row0 (s.grid.rows - 1), min w.rect.col1 (s.grid.cols - 1),
          min w.rect.row1 (s.grid.rows - 1)⟩, w.level, w.lifetime, false⟩
      (s.grid.count = 0 ∨ 7 < w.number ∨ 4095 < w.level ∨ 4095 < w.lifetime ∨ w.rect.col1 < w.rect.col0 ∨
          w.rect.row1 < w.rect.row0 → exec i s = .next (refused .range)) ∧
      (s.grid.count ≠ 0 → w.number ≤ 7 → w.level ≤ 4095 → w.lifetime ≤ 4095 → w.rect.col0 ≤ w.rect.col1 →
          w.rect.row0 ≤ w.rect.row1 →
        ((∃ x ∈ s.windows, x.key = (owner, w.number)) →
          exec i s = .next (accepted (s.windows.map fun x => if x.key = (owner, w.number) then fresh else x))) ∧
        ((∀ x ∈ s.windows, x.key ≠ (owner, w.number)) →
          (s.windows.length < 16 → exec i s = .next (accepted (s.windows ++ [fresh]))) ∧
          (16 ≤ s.windows.length → exec i s = .next (refused .full))))

/-! ## Panel port and HOLD (3.7, chapter 10) -/

/-- R70, R71: HOLD and RESUME act by the HOLD state and change nothing else; HOLD in force whose last frame has passed
ends by expiry with its notice and its report. (HOLD EXPIRED standing alone is log 10.) -/
def Obligations.HoldAndResumeFollowTheTable : Prop :=
  ∀ (t : Nat) (m : BitVec 8) (s : State), m ≠ 0 →
    exec (.hold t m) s = .next { s with
      now := max s.now t
      schedule := match s.schedule.hold with
        | .none => { s.schedule with hold := .pending, holdMax := m.toNat }
        | .pending => { s.schedule with holdMax := m.toNat }
        | .inForce => { s.schedule with holdCount := 0, holdMax := m.toNat, resumeMark := false } } ∧
    exec (.resume t) s = .next { s with
      now := max s.now t
      schedule := match s.schedule.hold with
        | .none => s.schedule
        | .pending => { s.schedule with hold := .none }
        | .inForce => { s.schedule with resumeMark := true } } ∧
    (s.schedule.hold ≠ .inForce ∨ s.schedule.resumeMark = true ∨ s.schedule.holdCount + 1 < s.schedule.holdMax →
      exec .holdExpired s = .next s) ∧
    (s.schedule.hold = .inForce → s.schedule.resumeMark = false → s.schedule.holdMax ≤ s.schedule.holdCount + 1 →
      exec .holdExpired s = .next (({ s with
        schedule := { s.schedule with hold := .none, holdCount := 0 } } : State).markHoldEnded.queueReport
          [⟨.panelPort, .holdExpired, .active, false, false, none, s.timebase.counter⟩]))

/-- R175, R142, R144: a discarded message, and a HOLD of 0 frames, is counted and reported. With room for it the report
joins the queue, asserting an armed ALERT; without room it is lost, counted, and the newest entry takes the overflow
flag. -/
def Obligations.DiscardedMessagesAreReported : Prop :=
  ∀ (t : Nat) (why : DiscardReason) (s : State),
    exec (.hold t 0) s = exec (.messageDiscarded t why) s ∧
    (s.reports.queue.length ≤ 31 → exec (.messageDiscarded t why) s = .next { s with
      now := max s.now t
      counters := { s.counters with panelDiscarded := min (s.counters.panelDiscarded + 1) 65535 }
      reports := { s.reports with
        queue := s.reports.queue ++
          [⟨.panelPort, .messageDiscarded, .active, false, false, none, s.timebase.counter⟩]
        alert := if s.reports.armed = true then true else s.reports.alert
        armed := false } }) ∧
    ∀ older newest, s.reports.queue = older ++ [newest] → 32 ≤ s.reports.queue.length →
      exec (.messageDiscarded t why) s = .next { s with
        now := max s.now t
        counters := { s.counters with
          panelDiscarded := min (s.counters.panelDiscarded + 1) 65535
          reportsLost := min (s.counters.reportsLost + 1) 65535 }
        reports := { s.reports with queue := older ++ [{ newest with overflow := true }] } }

/-- R173, R177 to R179: when a message has been sent, the port begins a HOLD ENDED notice, else the oldest WINDOW
REFUSED notice, else the oldest section, which is sent for 16 bit times of symbols and 8 for each byte of its fields and
CRC; with none waiting the line is idle. What is placed while a message is being sent waits: a section at the tail of
its queue, which when it holds eight drops its oldest and counts it; a notice at the tail of its list, which when it
holds eight loses it; HOLD ENDED as a mark. On an idle line it begins at once. With no message being sent the event does
not fit and changes nothing (log 3). -/
def Obligations.OutgoingLineServesInOrder : Prop :=
  ∀ s : State,
    (s.panel.sending = none → exec .outgoingMessageEnd s = .next s) ∧
    (∀ x, s.panel.sending = some x →
      ∃ p, exec .outgoingMessageEnd s = .next { s with now := max s.now x.ends, panel := p } ∧
        (s.panel.holdEnded = true →
          p = { s.panel with holdEnded := false, sending := some ⟨.holdEnded, max s.now x.ends + 64⟩ }) ∧
        (s.panel.holdEnded = false →
          (∀ n rest, s.panel.notices = n :: rest →
            p = { s.panel with notices := rest, sending := some ⟨.refused n, max s.now x.ends + 64⟩ }) ∧
          (s.panel.notices = [] →
            (∀ b rest, s.panel.sections = b :: rest →
              p = { s.panel with
                sections := rest
                sending := some ⟨.lightSection b,
                  max s.now x.ends + (16 + 8 * (11 + (12 * b.values.length + 7) / 8))⟩ }) ∧
            (s.panel.sections = [] → p = { s.panel with sending := none })))) ∧
    ∀ (b : LightSection) (n : WindowNotice),
      (s.panel.sending ≠ none →
        (s.panel.sections.length < 8 →
          s.queueSection b = { s with panel := { s.panel with sections := s.panel.sections ++ [b] } }) ∧
        (8 ≤ s.panel.sections.length →
          s.queueSection b = { s with
            panel := { s.panel with sections := s.panel.sections.drop 1 ++ [b] }
            counters := { s.counters with sectionsDropped := min (s.counters.sectionsDropped + 1) 65535 } }) ∧
        (s.panel.notices.length < 8 →
          s.placeNotice n = { s with panel := { s.panel with notices := s.panel.notices ++ [n] } }) ∧
        (8 ≤ s.panel.notices.length → s.placeNotice n = s) ∧
        s.markHoldEnded = { s with panel := { s.panel with holdEnded := true } }) ∧
      (s.panel.sending = none → PanelSound s →
        s.queueSection b = { s with panel := { s.panel with
          sending := some ⟨.lightSection b, s.now + (16 + 8 * (11 + (12 * b.values.length + 7) / 8))⟩ } } ∧
        s.placeNotice n = { s with panel := { s.panel with sending := some ⟨.refused n, s.now + 64⟩ } } ∧
        s.markHoldEnded = { s with panel := { s.panel with sending := some ⟨.holdEnded, s.now + 64⟩ } })

/-! ## Timebase and frame starts (chapter 3, 2.1) -/

/-- R54 to R60: an FSYNC edge is ignored in FREE and while the free-run mark is set, counted where it is a runt, and
otherwise recorded: it locks ACQUIRE, measures p in LOCKED, returns HOLDOVER to LOCKED, and is a frame start where it
lies 4,100 µs or more after the last one, delivered as `FrameStartsAreDelivered` says. A spacing that is not a whole
number of microseconds makes p one of its neighbours (log 5). SYNC RESTORED carries the counter that the edge's own
frame start makes (log 8) and is queued ahead of the reports of that frame start's delivery (log 9). -/
def Obligations.EdgesMoveTheTimebase : Prop :=
  ∀ (t : Nat) (s : State),
    let n := max s.now t
    let tb := s.timebase
    let frame : Timebase → State := fun x => { s with
      now := n
      timebase := { x with counter := (tb.counter + 1) % 65536, lastStart := n, heldPeriod := tb.freePeriod } }
    let restored : Nat → List ReportEntry := fun c => [⟨.timebase, .syncRestored, .recovered, false, false, none, c⟩]
    (tb.state = .free ∨ tb.freeRun = true → exec (.fsyncEdge t) s = .next (s.onlyWaits t)) ∧
    (tb.state ≠ .free → tb.freeRun = false →
      (∀ e, tb.lastEdge = some e → n < e + us 4100 → exec (.fsyncEdge t) s = .next { s with
        now := n, counters := { s.counters with runts := min (s.counters.runts + 1) 65535 } }) ∧
      ((∀ e, tb.lastEdge = some e → e + us 4100 ≤ n) →
        (tb.state = .acquire → (∀ e, tb.lastEdge = some e → e + us 42000 < n) →
          exec (.fsyncEdge t) s = .next { s with now := n, timebase := { tb with lastEdge := some n } }) ∧
        (∀ e, tb.lastEdge = some e → tb.state = .locked ∨ (tb.state = .acquire ∧ n ≤ e + us 42000) →
          ∃ p, (p * 48 = n - e ∨ ((n - e) % 48 ≠ 0 ∧ (p = (n - e) / 48 ∨ p = (n - e) / 48 + 1))) ∧
            ∀ x, x = { tb with
                state := TimebaseState.locked, lastEdge := some n, period := some p,
                pendingStart := if tb.state = .locked then tb.pendingStart else none } →
              (n < tb.lastStart + us 4100 → exec (.fsyncEdge t) s = .next { s with now := n, timebase := x }) ∧
              (tb.lastStart + us 4100 ≤ n →
                exec (.fsyncEdge t) s = .next (frame { x with pendingStart := none }).deliverFrame)) ∧
        (tb.state = .holdover → ∀ x, x = { tb with
            state := TimebaseState.locked, lastEdge := some n, pendingStart := none } →
          (n < tb.lastStart + us 4100 →
            exec (.fsyncEdge t) s = .next (({ s with now := n, timebase := x } : State).queueReport
              (restored tb.counter))) ∧
          (tb.lastStart + us 4100 ≤ n →
            exec (.fsyncEdge t) s = .next ((frame x).queueReport (restored ((tb.counter + 1) % 65536))).deliverFrame))))

/-- R54, R58 to R61: a pending frame start falls due and counts, and is delivered as `FrameStartsAreDelivered` says;
with the free-run mark set it leads to FREE and clears the mark. The holdover timer expires at the earlier of floor(3p /
2) µs after the last accepted edge and 42,000 µs after the last frame start (that it is the earlier of the two is log
6), and leads to HOLDOVER with a frame start and its report, queued ahead of those of the delivery (log 9). With none
pending, or no timer running, these events do not fit and change nothing (log 3). -/
def Obligations.PartGeneratesFrameStarts : Prop :=
  ∀ (d p e : Nat) (s : State),
    let tb := s.timebase
    (tb.pendingStart = none → exec .generatedFrameStart s = .next s) ∧
    (tb.pendingStart = some d →
      ∃ x : Timebase, exec .generatedFrameStart s =
          .next ({ s with now := max s.now d, timebase := x } : State).deliverFrame ∧
        x.counter = (tb.counter + 1) % 65536 ∧ x.lastStart = max s.now d ∧ x.freePeriod = tb.freePeriod ∧
        x.heldPeriod = tb.freePeriod ∧ x.period = tb.period ∧ x.lastEdge = tb.lastEdge ∧ x.freeRun = false ∧
        x.state = (if tb.freeRun = true then .free else tb.state) ∧
        (x.state = .free ∨ x.state = .acquire → x.pendingStart = some (max s.now d + us tb.freePeriod)) ∧
        (x.state = .holdover → tb.period = some p → x.pendingStart = some (max s.now d + us p)) ∧
        (x.state = .locked → x.pendingStart = none)) ∧
    (tb.state ≠ .locked ∨ tb.freeRun = true → exec .holdoverEntry s = .next s) ∧
    (tb.state = .locked → tb.freeRun = false → tb.lastEdge = some e → tb.period = some p →
      ∀ n, n = max s.now (min (e + us (3 * p / 2)) (tb.lastStart + us 42000)) →
        exec .holdoverEntry s = .next (({ s with
          now := n
          timebase := { tb with
            state := .holdover
            counter := (tb.counter + 1) % 65536
            lastStart := n
            heldPeriod := tb.freePeriod
            pendingStart := some (n + us p) } } : State).queueReport
          [⟨.timebase, .syncLost, .degraded, false, false, none, (tb.counter + 1) % 65536⟩]).deliverFrame)

/-- R15, R25, R28, R44, R47, R62, R63, R68, R71, R103, R156, R158: what the delivery of a frame start does, with R42,
R45, R34, R64 to R66, R98, R112, R121, R157, R178 and R185. It moves each applied factor by up to 8 toward its target;
closes the previous frame, each serving chain queueing the LATCH it owes and each unreached group being late on the
chains that carry it; counts and reports a pass it abandons; ends the problem period, a third problem frame taking a
chain out of RUNNING with its outstanding DIRECT command answered LINK ERROR; moves HOLD and counts its frames, an end
by expiry placing the HOLD ENDED notice and its report; brings a STARTING part with no chain ENUMERATING into RUNNING
with the running-entry mark set; and, in RUNNING without HOLD, begins a pass that takes the closed slot or counts a
stale frame, samples its inputs, lays out the points of the frame and takes those at or before the frame start at once,
queueing their light sections; the zones that have returned to service since the pass before then stand at an eased
level of 0, to ease from it (R120, R137, log 34). Then the lines are served. It writes no other level. The order of
these effects is log 9. (That a frame under way is sent to its end though its chain leaves RUNNING is log 33.) (That the
groups whose computed commit points lie before the frame start are taken in ascending group order is log 37.) -/
def Obligations.FrameStartsAreDelivered : Prop :=
  ∀ (s : State), ChainsSound s → DerateSound s → ∀ u, u = s.deliverFrame →
    u.now = s.now ∧ u.timebase = s.timebase ∧ u.grid = s.grid ∧ u.claims = s.claims ∧
    u.thermal = s.thermal ∧ u.picture = s.picture ∧ u.probe = s.probe ∧ u.pending = s.pending ∧
    u.request.openSet = s.request.openSet ∧ u.pass.buffer = s.pass.buffer ∧ u.pass.scale = s.pass.scale ∧
    u.pass.emitted = List.replicate 8 false ∧ u.chains.length = 8 ∧
    u.counters.overruns = (if s.pass.phase = .idle then s.counters.overruns else min (s.counters.overruns + 1) 65535) ∧
    (∀ k, k < 8 → ∃ h, DerateTarget s.thermal (s.chain k).sensor (∃ m ∈ (s.chain k).mirror, m.assigned = true ∧ m.hot = true) h ∧
      (u.chain k).applied = if s.thermal.converting = true ∧ s.system.part ≠ .config then
          (if (s.chain k).applied < h then min ((s.chain k).applied + 8) h else max ((s.chain k).applied - 8) h)
        else (s.chain k).applied) ∧
    (∀ k, k < 8 → ∃ (mask : BitVec 8) (late began : List Nat) (count : Nat),
      (∀ j, j < 8 → (mask.getLsbD j = true ↔ ∃ q, s.point j = some q ∧ q.reached = true ∧ q.latched = false ∧
        q.outcomes.getD k .notCarried = .committed)) ∧
      late = (List.range 8).filter (fun j => (s.sampledChain k).carries.getLsbD j && (s.sampledChain k).running &&
        decide ((s.chain k).state = .running) && !(s.chain k).leftFrame &&
        (match s.point j with | some q => !q.reached | none => false)) ∧
      began = (List.range 8).filter (fun j => (u.sampledChain k).carries.getLsbD j && decide ((u.chain k).state = .running) &&
        (match u.point j with | some q => q.reached | none => false)) ∧
      count = (if late ++ began = [] then (s.chain k).late else min ((s.chain k).late + (late ++ began).length) 65535) ∧
      ((s.chain k).problem = false ∨ (s.chain k).problemCount < 2 → ∃ mirror,
        u.chain k = Chain.serve { s.chain k with
          applied := (u.chain k).applied
          latchSource := if mask ≠ 0 ∧ (s.chain k).state = .running ∧ (s.chain k).leftFrame = false then
            (s.chain k).latchSource ++ [⟨mask, false⟩] else (s.chain k).latchSource
          staging := (s.chain k).staging.filter fun e => !(late ++ began).contains e.group
          late := count
          mirror := mirror
          settle := List.replicate 8 ⟨false, 0, false⟩
          leftFrame := false
          problem := false
          problemCount := if (s.chain k).problem = true then (s.chain k).problemCount + 1 else 0 } s.now ∧
        mirror.length = (s.chain k).mirror.length ∧
        ∀ a m, a < mirror.length → m = (s.chain k).record a → mirror.getD a Mirror.powerOn = { m with
          known := m.known && !((s.chain k).staging.any fun e =>
            (late ++ began).contains e.group && e.retry && decide (e.address = a)) }) ∧
      ((s.chain k).problem = true → 2 ≤ (s.chain k).problemCount → u.chain k = { s.chain k with
        state := if (s.chain k).attempts < 3 then .recovering else .failed
        wait := if (s.chain k).attempts < 3 then some (s.now + ms 1) else none
        cause := some .problemFrames
        attempt := none
        resend := none
        announce := true
        leftFrame := true
        recoveries := min ((s.chain k).recoveries + 1) 65535
        mirror := (s.chain k).mirror.map fun m => { Mirror.powerOn with trim := m.trim }
        inflight := []
        staging := []
        latchSource := []
        direct := none
        poll := none
        settle := List.replicate 8 ⟨false, 0, false⟩
        problem := false
        problemCount := 0
        pollDue := none
        runDue := none
        latched := false
        applied := (u.chain k).applied
        late := count })) ∧
    (∀ reports : List ReportEntry, reports =
        (if s.pass.phase = .idle then [] else
          [⟨.pass, .overrun, .active, false, false, none, s.timebase.counter⟩]) ++
        ((List.range 8).filter fun c => (s.chain c).problem && decide (2 ≤ (s.chain c).problemCount)).map (fun c =>
          ⟨.chain c 0, .chain .problemFrames, if (s.chain c).attempts < 3 then .degraded else .failed, false, false, none,
            s.timebase.counter⟩) ++
        (if s.schedule.hold = .inForce ∧ s.schedule.resumeMark = false ∧ s.schedule.holdMax ≤ s.schedule.holdCount + 1 then
          [⟨.panelPort, .holdExpired, .active, false, false, none, s.timebase.counter⟩] else []) →
      u.reports = (reports.foldl (fun x e => x.queueReport [e]) s).reports ∧
      u.counters.reportsLost = (reports.foldl (fun x e => x.queueReport [e]) s).counters.reportsLost) ∧
    u.system.part = (if s.system.part = .starting ∧ ∀ ch ∈ s.chains, ch.state ≠ .enumerating then .running
      else s.system.part) ∧
    u.system.pollInterval = s.system.pollInterval ∧
    ((∃ k, k < 8 ∧ (s.chain k).problem = true ∧ 2 ≤ (s.chain k).problemCount ∧ s.directWaits k ∧
        s.system.response.waitsFor = some k) →
      u.system.response = ⟨true, s.system.response.command, some .linkError, .none, none⟩) ∧
    ((¬ ∃ k, k < 8 ∧ (s.chain k).problem = true ∧ 2 ≤ (s.chain k).problemCount ∧ s.directWaits k ∧
        s.system.response.waitsFor = some k) → u.system.response = s.system.response) ∧
    (u.pass.entryMark = true ↔ s.pass.entryMark = true ∨
      (s.system.part = .starting ∧ ∀ ch ∈ s.chains, ch.state ≠ .enumerating)) ∧
    u.pass.rise = s.pass.rise ∧ u.pass.fall = s.pass.fall ∧ u.pass.budget = s.pass.budget ∧
    u.schedule.groups = s.schedule.groups ∧ u.schedule.offsets = s.schedule.offsets ∧ u.schedule.lead = s.schedule.lead ∧
    u.schedule.holdMax = s.schedule.holdMax ∧
    u.schedule.resumeMark = (if s.schedule.hold = .inForce then false else s.schedule.resumeMark) ∧
    u.schedule.holdCount = (match s.schedule.hold with
      | .none => s.schedule.holdCount
      | .pending => 0
      | .inForce => if s.schedule.resumeMark = true then s.schedule.holdCount
        else if s.schedule.holdMax ≤ s.schedule.holdCount + 1 then 0
        else s.schedule.holdCount + 1) ∧
    (∃ sections : List LightSection,
      sections.map LightSection.group = (List.range 8).filter (fun k =>
        match u.point k with | some q => q.reached | none => false) ∧
      (∀ b ∈ sections, b.counter = s.timebase.counter ∧ b.tag = u.request.current.tag ∧ b.cols = s.grid.cols ∧
        b.rowCount = (s.grid.rowsOf s.schedule.groups b.group).length ∧
        (∀ r rest, s.grid.rowsOf s.schedule.groups b.group = r :: rest → b.firstRow = r) ∧
        (∀ c, c < 8 → (b.lateMask.getLsbD c = true ↔ ∃ q, u.point b.group = some q ∧
          (q.outcomes.getD c .notCarried = .late ∨ q.outcomes.getD c .notCarried = .absent))) ∧
        b.values = ((List.range s.grid.count).filter fun i =>
          decide (s.grid.zoneGroup s.schedule.groups i = b.group)).map fun i =>
            if (u.sampledZone i).state = .lit then (s.zone i).shown else 0) ∧
      ∀ x, x = (if s.schedule.hold = .inForce ∧ s.schedule.resumeMark = false ∧
            s.schedule.holdMax ≤ s.schedule.holdCount + 1 then s.markHoldEnded else s) →
        u.panel = (sections.foldl State.queueSection x).panel ∧
        u.counters.sectionsDropped = (sections.foldl State.queueSection x).counters.sectionsDropped) ∧
    u.schedule.hold = (match s.schedule.hold with
      | .none => .none
      | .pending => .inForce
      | .inForce => if s.schedule.resumeMark = true ∨ s.schedule.holdMax ≤ s.schedule.holdCount + 1 then .none
        else .inForce) ∧
    (u.system.part ≠ .running ∨ u.schedule.hold = .inForce →
      u.zones = s.zones ∧ u.pass.phase = .idle ∧ u.request = s.request ∧ u.windows = s.windows ∧ u.counters.stale = s.counters.stale ∧
      u.schedule.points = List.replicate 8 none ∧ u.panel.sections.length ≤ s.panel.sections.length) ∧
    (u.system.part = .running → u.schedule.hold ≠ .inForce →
      u.zones = (s.zones.map fun z => { z with eased := if z.relit = true then 0 else z.eased, relit := false }) ∧
      u.pass.phase = .composing ∧ u.request.slot = none ∧
      u.request.current = s.request.slot.getD s.request.current ∧
      u.counters.stale = (if s.request.slot = none then min (s.counters.stale + 1) 65535 else s.counters.stale) ∧
      u.windows = s.windows.map (fun w => { w with inSample := true }) ∧
      u.pass.sample.start = s.timebase.lastStart ∧ u.pass.sample.counter = s.timebase.counter ∧
      (u.pass.sample.taken = true ↔ s.request.slot ≠ none) ∧
      u.pass.sample.tag = u.request.current.tag ∧ u.pass.sample.sceneCut = u.request.current.sceneCut ∧
      (u.pass.sample.entryMark = true ↔ s.pass.entryMark = true ∨ s.system.part = .starting) ∧
      u.pass.sample.windows = u.windows ∧ u.pass.sample.rise = s.pass.rise ∧ u.pass.sample.fall = s.pass.fall ∧
      u.pass.sample.budget = s.pass.budget ∧
      (u.pass.sample.claimed = true ↔ s.claims.picture = true ∨ s.claims.panel = true ∨ s.claims.system = true) ∧
      (∀ i, i < s.zones.length → (u.sampledZone i).channel = (s.zone i).channel ∧
        (u.sampledZone i).gain = (s.zone i).gain ∧ (u.sampledZone i).override = (s.zone i).override ∧
        (u.sampledZone i).state = (match (s.zone i).channel with
          | none => .unmapped
          | some x =>
            if (s.zone i).fault ≠ .none then .faulted
            else if (u.chain x.chain).state ≠ .running then .dark .chain
            else if s.claims.picture = true ∨ s.claims.panel = true ∨ s.claims.system = true then .dark .blank
            else .lit)) ∧
      (∀ k, k < 8 → ((u.sampledChain k).running = true ↔ (u.chain k).state = .running) ∧
        (u.sampledChain k).weight = (s.chain k).weight ∧ (u.sampledChain k).factor = (u.chain k).applied ∧
        ∀ g, g < 8 → ((u.sampledChain k).carries.getLsbD g = true ↔ ∃ i x, (s.zone i).channel = some x ∧ x.chain = k ∧
          s.grid.zoneGroup s.schedule.groups i = g)) ∧
      ∀ k predicted, k < 8 →
        (s.timebase.state = .locked ∨ s.timebase.state = .holdover → s.timebase.period = some predicted) →
        (s.timebase.state = .free ∨ s.timebase.state = .acquire → predicted = s.timebase.freePeriod) →
        (¬ (k < s.schedule.groups ∧ s.grid.rowsOf s.schedule.groups k ≠ []) → u.point k = none) ∧
        (k < s.schedule.groups → s.grid.rowsOf s.schedule.groups k ≠ [] → ∃ q l, u.point k = some q ∧
          l = s.schedule.offsets.getD k 0 * predicted / 1024 ∧ q.latchAt = s.timebase.lastStart + us l ∧
          q.commitAt = s.timebase.lastStart + us (l - s.schedule.lead) ∧ q.latched = false ∧
          (q.reached = true ↔ l ≤ s.schedule.lead) ∧
          (q.reached = true → ∀ c, c < 8 → q.outcomes.getD c .notCarried =
            if (u.sampledChain c).carries.getLsbD k = false then .notCarried
            else if (u.chain c).state = .running then .late else .absent)))

/-! ## The frame pass (chapter 2) -/

/-- R20, R31 to R38: the end of composition keeps for every zone the Lb, Le, Dc and Dt of its sample, holds the power
demand and counts down the lifetimes of the sampled windows; the end of limiting fixes the budget scale. In any other
phase these events do not fit and change nothing (log 3). -/
def Obligations.CompositionAndLimitingFollowTheFormulas : Prop :=
  ∀ s : State,
    (s.pass.phase ≠ .composing → exec .compositionEnd s = .next s) ∧
    (s.pass.phase ≠ .limiting → exec .limitingEnd s = .next s) ∧
    (s.pass.phase = .composing → ∃ work power windows,
      exec .compositionEnd s = .next { s with
        now := max s.now (s.pass.sample.start + us ((s.grid.count + 15) / 16))
        pass := { s.pass with phase := .limiting, work := work, power := power }
        windows := windows } ∧
      windows = s.windows.filterMap (fun w =>
        if w.inSample = true ∧ w.lifetime = 1 then none
        else if w.inSample = true ∧ 1 < w.lifetime then some { w with lifetime := w.lifetime - 1 }
        else some w) ∧
      work.length = s.grid.count ∧
      power = ((List.range s.grid.count).map fun i =>
        if (s.sampledZone i).state = .lit then (work.getD i ⟨0, 0, 0, 0⟩).dt * (s.zoneChain (s.sampledZone i)).weight
        else 0).sum ∧
      ∀ i, i < s.grid.count → ∀ x, x = work.getD i ⟨0, 0, 0, 0⟩ → ∀ z, z = s.sampledZone i →
        (z.state ≠ .lit → x = ⟨0, 0, 0, 0⟩) ∧
        (z.state = .lit →
          let covering := fun kind => (s.pass.sample.windows.filter fun w => decide (w.kind = kind) &&
            rectCovers w.rect (i % s.grid.cols) (i / s.grid.cols)).map Window.level
          let lr := s.request.current.levels.getD i 0
          let p := (s.zone i).eased
          x.lb = (match z.override with
            | some l => l
            | none => (covering .ceiling).foldl min ((covering .floor).foldl max lr)) ∧
          (s.pass.sample.entryMark = true ∨ (s.pass.sample.taken = true ∧ s.pass.sample.sceneCut = true) →
            x.le = x.lb) ∧
          (s.pass.sample.entryMark = false → s.pass.sample.taken = false ∨ s.pass.sample.sceneCut = false →
            x.le = if p ≤ x.lb then p + min (x.lb - p) s.pass.sample.rise else p - min (p - x.lb) s.pass.sample.fall) ∧
          x.dc = min 4095 ((x.le * z.gain + 512) / 1024) ∧
          x.dt = x.dc * (s.zoneChain z).factor / 256)) ∧
    (s.pass.phase = .limiting → exec .limitingEnd s = .next { s with
      now := max s.now (s.pass.sample.start + us ((s.grid.count + 15) / 16) + us 2)
      pass := { s.pass with
        phase := .emitting
        blocks := 0
        scale := if s.pass.power ≤ s.pass.sample.budget * 131072 then 65536
          else s.pass.sample.budget * 131072 * 65536 / s.pass.power } })

/-- R10, R27, R34, R39 to R42, R50, R95, R97, R98: an emission block stores the eased levels and buffers the emitted
levels of its sixteen zones and of no other, writes an armed probe, marks the groups whose last zone it emits, and with
the last block makes the engine IDLE. Each group so emitted, in ascending order, is handed to each chain that carries
it, was sampled RUNNING and still serves the frame, unless the chain was already found LATE for it: the settle record is
marked handed, and the STAGEs of `StagesBringTheMirrorUpToDate` join the tail of the staging queue in address order.
Then the lines are served. Outside emission the event does not fit and changes nothing (log 3). -/
def Obligations.EmissionStoresItsBlock : Prop :=
  ∀ s : State,
    (s.pass.phase ≠ .emitting → exec .emissionBlock s = .next s) ∧
    (s.pass.phase = .emitting → s.zones.length = s.grid.count → s.pass.buffer.length = s.grid.count →
        s.pass.emitted.length = 8 → s.schedule.groups ≤ 8 → ∃ u, exec .emissionBlock s = .next u ∧
      u = { s with
        now := max s.now (s.pass.sample.start + us ((s.grid.count + 15) / 16) + us 2 + us (s.pass.blocks + 1))
        zones := u.zones, pass := u.pass, probe := u.probe, chains := u.chains } ∧
      u.pass = { s.pass with
        blocks := s.pass.blocks + 1
        phase := if (s.grid.count + 15) / 16 ≤ s.pass.blocks + 1 then .idle else .emitting
        entryMark := if (s.grid.count + 15) / 16 ≤ s.pass.blocks + 1 ∧ s.pass.sample.entryMark = true then false
          else s.pass.entryMark
        emitted := u.pass.emitted, buffer := u.pass.buffer } ∧
      u.zones.length = s.grid.count ∧ u.pass.buffer.length = s.grid.count ∧ u.chains.length = s.chains.length ∧
      (∀ i, i < s.grid.count → ∀ dl lm, dl = (if (s.sampledZone i).state = .lit
            then (s.composed i).dt * s.pass.scale / 65536 else 0) →
          lm = (if (s.sampledZone i).state = .lit then min 4095 (dl * 1024 / (s.sampledZone i).gain) else 0) →
        u.zone i = (if i / 16 = s.pass.blocks then { s.zone i with eased := (s.composed i).le } else s.zone i) ∧
        u.pass.buffer.getD i 0 = (if i / 16 = s.pass.blocks then lm else s.pass.buffer.getD i 0) ∧
        (s.probe.zone = i → s.probe.armed = true → i / 16 = s.pass.blocks →
          u.probe = { s.probe with
            armed := decide (s.probe.mode = .every)
            record := some ⟨s.pass.sample.counter, s.request.current.levels.getD i 0, (s.composed i).lb, (s.composed i).le,
              (s.composed i).dc, (s.composed i).dt, dl, lm, (s.sampledZone i).state,
              (s.sampledZone i).channel.map (fun x => (s.sampledChain x.chain).factor), s.pass.scale⟩ })) ∧
      (s.probe.armed = false ∨ s.grid.count ≤ s.probe.zone ∨ s.probe.zone / 16 ≠ s.pass.blocks → u.probe = s.probe) ∧
      (∀ k, k < 8 → (u.pass.emitted.getD k false = true ↔ s.pass.emitted.getD k false = true ∨
        (k < s.schedule.groups ∧ ∃ i, i < s.grid.count ∧ i / 16 = s.pass.blocks ∧
          s.grid.zoneGroup s.schedule.groups i ≤ k ∧
          ∀ j, j < s.grid.count → s.grid.zoneGroup s.schedule.groups j ≤ k → j ≤ i))) ∧
      ∃ (groups : List Nat) (duties : Nat → Nat → Nat → List Nat),
        groups.Pairwise (· < ·) ∧
        (∀ k, k ∈ groups ↔ k < s.schedule.groups ∧ ∃ i, i < s.grid.count ∧ i / 16 = s.pass.blocks ∧
          s.grid.zoneGroup s.schedule.groups i ≤ k ∧
          ∀ j, j < s.grid.count → s.grid.zoneGroup s.schedule.groups j ≤ k → j ≤ i) ∧
        (∀ k c a, (duties k c a).length = 16 ∧ ∀ j, j < 16 →
          (∃ i, i < s.grid.count ∧ s.grid.zoneGroup s.schedule.groups i = k ∧
            (s.sampledZone i).channel = some ⟨c, a, j⟩ ∧ (duties k c a).getD j 0 =
              if (s.sampledZone i).state = .lit then (s.composed i).dt * s.pass.scale / 65536 else 0) ∨
          ((∀ i, i < s.grid.count → s.grid.zoneGroup s.schedule.groups i = k →
            (s.sampledZone i).channel ≠ some ⟨c, a, j⟩) ∧ (duties k c a).getD j 0 = 0)) ∧
        ∀ c, c < s.chains.length → u.chain c = Chain.serve (groups.foldl (fun ch k =>
          if (s.sampledChain c).carries.getLsbD k = true ∧ (s.sampledChain c).running = true ∧ ch.state = .running ∧
            ch.leftFrame = false ∧ (s.point k).all (fun q => decide (q.outcomes.getD c .notCarried ≠ .late)) = true
          then ch.handed k s.timebase.counter (duties k c) else ch) (s.chain c)) u.now)

/-- R96, R99: a driver with a STAGE waiting or in flight, or whose shadow is unknown, is staged all sixteen channels;
one whose mirror holds the new duties is not staged; any other is staged from its lowest to its highest differing
channel. What a hand-over stages to a driver is enough: once its STAGE is accepted the driver's mirror holds all sixteen
new duties, whichever of Table R96's cases queued it, and where none is queued the mirror holds them already. -/
def Obligations.StagesBringTheMirrorUpToDate : Prop :=
  ∀ (ch : Chain) (k counter a : Nat) (duties : List Nat), duties.length = 16 → (ch.record a).shadow.length = 16 →
    let old := (ch.record a).shadow
    let whole := (∃ e ∈ ch.staging, e.address = a) ∨ ch.holds a ∨ (ch.record a).known = false
    (whole → ch.stageFor k counter a duties = some ⟨a, 0, duties, k, counter, false⟩) ∧
    (¬ whole → old = duties → ch.stageFor k counter a duties = none) ∧
    (¬ whole → old ≠ duties → ∃ lo hi, lo ≤ hi ∧ hi < 16 ∧ old.getD lo 0 ≠ duties.getD lo 0 ∧
      old.getD hi 0 ≠ duties.getD hi 0 ∧ (∀ j, j < lo ∨ hi < j → old.getD j 0 = duties.getD j 0) ∧
      ch.stageFor k counter a duties = some ⟨a, lo, (duties.drop lo).take (hi + 1 - lo), k, counter, false⟩) ∧
    match ch.stageFor k counter a duties with
    | none => (ch.record a).known = true ∧ (ch.record a).shadow = duties
    | some e => e.address = a ∧ e.group = k ∧ e.frame = counter ∧ e.retry = false ∧ 1 ≤ e.duties.length ∧
        e.first + e.duties.length ≤ 16 ∧ ((ch.record a).takeStage e).shadow = duties ∧
        ((ch.record a).known = false → e.duties.length = 16)

/-! ## Commit points and latch points (3.6) -/

/-- R63 to R66: a commit point is reached together with that of every group that shares its moment, one after another in
ascending order. Each decides the outcome of each carrying chain, sets the shown levels of the COMMITTED, discards the
waiting STAGEs of the LATE and counts them, and queues the group's light section, as `OutgoingLineServesInOrder` says. A
group without points, or already committed, does not fit the event, which then changes nothing (log 3). -/
def Obligations.CommitPointsDecideEachChain : Prop :=
  (∀ (k : Nat) (s : State),
    (s.point k = none → exec (.commitPoint k) s = .next s) ∧
    ∀ p, s.point k = some p →
      (p.reached = true → exec (.commitPoint k) s = .next s) ∧
      (p.reached = false → k < 8 → ∃ groups : List Nat, groups.Pairwise (· < ·) ∧
        (∀ j, j ∈ groups ↔ j < 8 ∧ ∃ q, s.point j = some q ∧ q.reached = false ∧ q.commitAt = p.commitAt) ∧
        exec (.commitPoint k) s = .next (groups.foldl State.commitGroup { s with now := max s.now p.commitAt }))) ∧
  ∀ (k : Nat) (s : State) (p : GroupPoint), s.chains.length = 8 → s.point k = some p →
    ∃ (outcome : Nat → CommitOutcome) (b : LightSection) (zs : List Zone) (cs : List Chain),
      s.commitGroup k = ({ s with
        zones := zs
        chains := cs
        schedule := { s.schedule with
          points := s.schedule.points.set k
            (some { p with reached := true, outcomes := (List.range 8).map outcome }) } } : State).queueSection b ∧
      (∀ c, c < 8 → outcome c =
        if (s.sampledChain c).carries.getLsbD k = false then .notCarried
        else if (s.chain c).state ≠ .running ∨ (s.sampledChain c).running = false ∨ (s.chain c).leftFrame = true
          then .absent
        else if s.pass.emitted.getD k false = true ∧ ((s.chain c).settleOf k).handed = true ∧
          ((s.chain c).settleOf k).count = 0 ∧ ((s.chain c).settleOf k).givenUp = false then .committed
        else .late) ∧
      zs.length = s.zones.length ∧
      (∀ i, i < s.zones.length → zs.getD i Zone.fresh =
        if s.grid.zoneGroup s.schedule.groups i = k ∧
          ∃ x, (s.sampledZone i).channel = some x ∧ x.chain < 8 ∧ outcome x.chain = .committed
        then { s.zone i with shown := s.pass.buffer.getD i 0 } else s.zone i) ∧
      cs.length = 8 ∧
      (∀ c, c < 8 → outcome c ≠ .late → cs[c]? = s.chains[c]?) ∧
      (∀ c, c < 8 → outcome c = .late → ∃ ch, cs[c]? = some ch ∧
        ch = { s.chain c with
          staging := (s.chain c).staging.filter fun e => decide (e.group ≠ k)
          late := min ((s.chain c).late + 1) 65535
          mirror := ch.mirror } ∧
        ch.mirror.length = (s.chain c).mirror.length ∧
        ∀ a m, a < ch.mirror.length → m = (s.chain c).record a → ch.record a = { m with
          known := m.known && !((s.chain c).staging.any fun e =>
            decide (e.group = k) && e.retry && decide (e.address = a)) }) ∧
      b.group = k ∧ b.counter = s.timebase.counter ∧ b.tag = s.pass.sample.tag ∧ b.cols = s.grid.cols ∧
      b.rowCount = (s.grid.rowsOf s.schedule.groups k).length ∧
      (∀ r rest, s.grid.rowsOf s.schedule.groups k = r :: rest → b.firstRow = r) ∧
      (∀ c, c < 8 → (b.lateMask.getLsbD c = true ↔ outcome c = .absent ∨ outcome c = .late ∨
        (outcome c = .committed ∧ (s.claims.picture = true ∨ s.claims.panel = true ∨ s.claims.system = true)))) ∧
      b.values = ((List.range s.grid.count).filter fun i =>
        decide (s.grid.zoneGroup s.schedule.groups i = k)).map fun i =>
          if (s.sampledZone i).state ≠ .lit ∨
            (∃ x, (s.sampledZone i).channel = some x ∧ x.chain < 8 ∧ outcome x.chain = .absent) ∨
            s.claims.picture = true ∨ s.claims.panel = true ∨ s.claims.system = true then 0
          else (zs.getD i Zone.fresh).shown

/-- R67: at a latch point each chain COMMITTED for one or more groups that share it, still RUNNING and not departed
since the frame start, queues one LATCH for them all, and the arbiters serve idle lines at once. A group without points,
not reached or already latched, does not fit the event, which then changes nothing (log 3). -/
def Obligations.LatchPointsQueueOneLatch : Prop :=
  ∀ (k : Nat) (s : State),
    (s.point k = none → exec (.latchPoint k) s = .next s) ∧
    ∀ p, s.point k = some p →
      (p.reached = false ∨ p.latched = true → exec (.latchPoint k) s = .next s) ∧
      (p.reached = true → p.latched = false → s.schedule.points.length = 8 → ∃ mask : Nat → BitVec 8,
        exec (.latchPoint k) s = .next { s with
          now := max s.now p.latchAt
          chains := s.chains.mapIdx fun c ch =>
            (if mask c ≠ 0 ∧ ch.state = .running ∧ ch.leftFrame = false then
              { ch with latchSource := ch.latchSource ++ [⟨mask c, false⟩] }
            else ch).serve (max s.now p.latchAt)
          schedule := { s.schedule with points := s.schedule.points.map fun x => x.map fun q =>
            if q.reached = true ∧ q.latchAt = p.latchAt then { q with latched := true } else q } } ∧
        ∀ c j, j < 8 → ((mask c).getLsbD j = true ↔ ∃ q, s.point j = some q ∧ q.reached = true ∧ q.latched = false ∧
          q.latchAt = p.latchAt ∧ q.outcomes.getD c .notCarried = .committed))

/-! ## The chain link (chapters 4 and 5) -/

/-- R87, R100, R102, R104, R105, R106: at a frame boundary of a RUNNING chain with fewer than four frames in flight the
arbiter grants a LATCH, else a DIRECT or POLL of age 16, else the first STAGE to an address with none in flight, which
ages the waiting DIRECT and POLL, else a DIRECT or POLL, the older first; with nothing eligible, or outside RUNNING,
only time passes. In an attempt the boundary sends again the CLEAR or ASSIGN that waits for it. -/
def Obligations.ArbiterGrantsInOrder : Prop :=
  ∀ (k : Nat) (s : State),
    let ch := s.chain k
    let n := max s.now ch.lineFree
    let grants : Sent → Bool → Chain → Prop := fun x retry rest =>
      exec (.frameBoundary k) s = .next { s with now := n, chains := s.chains.set k (rest.granted n x retry) }
    (ch.state = .unused → exec (.frameBoundary k) s = .next s) ∧
    (ch.state ≠ .unused → (ch.state ≠ .running ∧ ch.resend = none) ∨ 4 ≤ ch.inflight.length →
      exec (.frameBoundary k) s = .next { s with now := n }) ∧
    (∀ x, ch.state ≠ .unused → ch.state ≠ .running → ch.inflight.length < 4 → ch.resend = some x →
      grants x true { ch with resend := none }) ∧
    (ch.state = .running → ch.inflight.length < 4 →
      (∀ l rest, ch.latchSource = l :: rest → grants (.latch l.mask) l.retry { ch with latchSource := rest }) ∧
      (ch.latchSource = [] →
        (∀ d, ch.direct = some d → (∀ p, ch.poll = some p → p.age ≤ d.age) →
          16 ≤ d.age ∨ (∀ e ∈ ch.staging, ch.holds e.address) →
          grants (.direct d.address d.kind) d.retry { ch with direct := none }) ∧
        (∀ p, ch.poll = some p → (∀ d, ch.direct = some d → d.age < p.age) →
          16 ≤ p.age ∨ (∀ e ∈ ch.staging, ch.holds e.address) →
          grants (.poll p.address) p.retry { ch with poll := none }) ∧
        (∀ before e after, ch.staging = before ++ e :: after → (∀ y ∈ before, ch.holds y.address) →
          ¬ ch.holds e.address → (∀ d, ch.direct = some d → d.age < 16) → (∀ p, ch.poll = some p → p.age < 16) →
          grants (.stage e) e.retry { ch with
            staging := before ++ after
            direct := ch.direct.map fun d => { d with age := older d.age }
            poll := ch.poll.map fun p => { p with age := older p.age } }) ∧
        (ch.direct = none → ch.poll = none → (∀ e ∈ ch.staging, ch.holds e.address) →
          exec (.frameBoundary k) s = .next { s with now := n })))

/-- R85, R88 to R90, R103, R121, R122: an unexpected echo, an echo overdue by 40 µs, a loop silent for 20 µs and a third
problem frame take a RUNNING chain out of RUNNING and fail an enumeration attempt; ECHO BEGIN otherwise marks the oldest
frame. A silence the watch has not lasted, an echo not overdue and a problem frame not the third do not fit and change
no more than the time (log 3); PROBLEM FRAMES standing alone is log 10, that a chain FAILED by its attempts has its
mirror unassigned log 13, a second ECHO BEGIN for one frame log 16. (That a frame under way is sent to its end though
its chain leaves RUNNING is log 33.) -/
def Obligations.LinkFailuresEndService : Prop :=
  ∀ (t k : Nat) (s : State),
    let ch := s.chain k
    let s1 := s.onlyWaits t
    (ch.state ≠ .running → ch.attempt = none → exec (.echoBegin t k) s = .next s1) ∧
    (ch.state = .running ∨ ch.attempt ≠ none →
      (ch.inflight = [] → LinkFails s1 k .echoMismatch (exec (.echoBegin t k) s)) ∧
      (∀ f rest, ch.inflight = f :: rest → exec (.echoBegin t k) s = .next { s1 with
        chains := s.chains.set k { ch with inflight := { f with begun := true } :: rest } })) ∧
    (ch.inflight = [] → exec (.echoOverdue k) s = .next s) ∧
    (∀ f rest, ch.inflight = f :: rest →
      (f.begun = true → exec (.echoOverdue k) s = .next s) ∧
      (f.begun = false → LinkFails (s.onlyWaits (f.lastBit + us 40)) k .echoOverdue (exec (.echoOverdue k) s))) ∧
    (max s.now t < ch.watchFrom + us 20 → exec (.loopLost t k) s = .next s1) ∧
    (ch.watchFrom + us 20 ≤ max s.now t → LinkFails s1 k .loopLost (exec (.loopLost t k) s)) ∧
    (ch.state = .running → ch.problem = true → 2 ≤ ch.problemCount →
      LeavesRunning s k .problemFrames (exec (.problemFrames k) s)) ∧
    (ch.state ≠ .running ∨ ch.problem = false ∨ ch.problemCount < 2 → exec (.problemFrames k) s = .next s)

/-- R85 to R89, R91, R100, R101, R106, R119, R122: on a RUNNING chain an echo that is short, has a wrong CRC, or matches
its frame without its ack flag is counted damaged; its frame goes back once, as a retry ahead of first sendings, and is
given up the second time, marking a problem frame. An echo whose CRC is right and whose header differs is a mismatch, as
is one that matches no frame, and one that is another frame's whole, whatever its length. So is a LATCH echo with more
latches than the mirror allows. In an enumeration attempt a damaged CLEAR or ASSIGN waits to be sent again once, at the
next frame boundary, and the second time fails the attempt, as a mismatch does. A chain that checks no echoes ignores
it. (That the bits are all that arrive up to idle or silence is log 15; that a whole echo of another frame with another
length is a mismatch, as R89 and example 4.4 have it, and not damaged, as R85 and R86 would, is log 38; that a POLL
retry takes the place of a POLL or retry that waits is log 12; that FAILED unassigns the mirror is log 13.) -/
def Obligations.DamagedEchoesAreSentAgainOnce : Prop :=
  ∀ (t k : Nat) (bits : List Bool) (s : State),
    let ch := s.chain k
    let s1 := s.onlyWaits t
    (ch.state ≠ .running → ch.attempt = none → exec (.echoEnd t k bits) s = .next s1) ∧
    (ch.state = .running → ch.inflight = [] → LeavesRunning s1 k .echoMismatch (exec (.echoEnd t k bits) s)) ∧
    (ch.state ≠ .running → ch.attempt ≠ none → ch.inflight = [] →
      AttemptFails s1 k .echoMismatch (exec (.echoEnd t k bits) s)) ∧
    ∀ f rest body, ch.inflight = f :: rest → body = bits.take (f.sent.bits - 8) →
      ∀ another : Prop, (another ↔ ∃ x, readSent bits = some x ∧ bits.length = x.bits - 8 ∧ crcRight bits = true ∧
        ¬ (bitField bits 0 4 = f.sent.kindCode ∧ bitField bits 4 2 = f.tag ∧ bitField bits 6 6 = f.sent.address)) →
      (another ∨ (body.length = f.sent.bits - 8 ∧ crcRight body = true ∧
        (¬ (bitField body 0 4 = f.sent.kindCode ∧ bitField body 4 2 = f.tag ∧ bitField body 6 6 = f.sent.address) ∨
          ∃ m, f.sent = .latch m ∧ ch.expectedLatches m < bitField body 20 6)) →
        (ch.state = .running → LeavesRunning s1 k .echoMismatch (exec (.echoEnd t k bits) s)) ∧
        (ch.state ≠ .running → ch.attempt ≠ none →
          AttemptFails s1 k .echoMismatch (exec (.echoEnd t k bits) s))) ∧
      (ch.state ≠ .running → ch.attempt ≠ none → f.sent.ofAttempt = true → ¬ another →
        body.length < f.sent.bits - 8 ∨ crcRight body = false →
        let cut : Chain := { ch with inflight := rest, damaged := min (ch.damaged + 1) 65535 }
        (f.retry = false → exec (.echoEnd t k bits) s = .next (({ s1 with
          chains := s.chains.set k { cut with resend := some f.sent } } : State).serve k)) ∧
        (f.retry = true →
          AttemptFails { s1 with chains := s.chains.set k cut } k .linkDamage (exec (.echoEnd t k bits) s))) ∧
      (ch.state = .running → f.sent.ofAttempt = false → ¬ another →
        body.length < f.sent.bits - 8 ∨ crcRight body = false ∨
          (bitField body 0 4 = f.sent.kindCode ∧ bitField body 4 2 = f.tag ∧ bitField body 6 6 = f.sent.address ∧
            (readReply f.sent body).unacknowledged = true) →
        let cut : Chain := { ch with inflight := rest, damaged := min (ch.damaged + 1) 65535 }
        let port := s.directAnswered k .linkError .none
        ∃ after port', exec (.echoEnd t k bits) s = .next (({ s1 with
            system := port', chains := s.chains.set k after } : State).serve k) ∧
          (f.retry = false → port' = s.system ∧ after = match f.sent with
            | .stage e => { cut with
                staging := cut.staging.takeWhile (fun y => y.retry) ++
                  { e with retry := true } :: cut.staging.dropWhile (fun y => y.retry) }
            | .latch m => { cut with
                latchSource := cut.latchSource.takeWhile (fun y => y.retry) ++
                  ⟨m, true⟩ :: cut.latchSource.dropWhile (fun y => y.retry) }
            | .poll a => { cut with poll := some ⟨a, 16, true⟩ }
            | .direct a q => { cut with direct := some ⟨a, q, 16, true⟩ }
            | .assign _ _ | .clear => after) ∧
          (f.retry = true → after = match f.sent with
            | .stage e => { cut with
                problem := true
                mirror := cut.mirror.modify e.address fun m => { m with known := false }
                settle := if e.frame = s.timebase.counter then cut.settle.modify e.group fun x => { x with givenUp := true }
                  else cut.settle }
            | .latch m => { cut with problem := true, mirror := cut.mirror.map (forgotten m) }
            | .poll _ | .direct _ _ => { cut with problem := true }
            | .assign _ _ | .clear => after) ∧
          (f.retry = true → port' = match f.sent with
            | .direct _ _ => port
            | .stage _ | .latch _ | .poll _ | .assign _ _ | .clear => s.system))

/-- R91, R92, R94, R99, R112, R127: on a RUNNING chain an accepted STAGE brings its duties into the mirror and counts
toward its group, an accepted LATCH sets the latched mark and with too low a count is a shortfall, and an accepted TRIM
or IDENT fixes the result of its command. Then the line is served. -/
def Obligations.AcceptedEchoesAreHandedOn : Prop :=
  ∀ (t k : Nat) (bits : List Bool) (f : InFlight) (rest : List InFlight) (r : Reply) (s : State),
    let ch := s.chain k
    let s1 := s.onlyWaits t
    let cut : Chain := { ch with inflight := rest }
    ch.state = .running → ch.inflight = f :: rest → ch.judge f bits = .accepted r →
    (∀ e, f.sent = .stage e → exec (.echoEnd t k bits) s = .next (({ s1 with
      chains := s.chains.set k { cut with
        mirror := ch.mirror.modify e.address fun m => { m with
          shadow := m.shadow.take e.first ++ e.duties ++ m.shadow.drop (e.first + e.duties.length)
          known := true }
        settle := if e.frame = s.timebase.counter then ch.settle.modify e.group fun x => { x with count := x.count - 1 }
          else ch.settle } } : State).serve k)) ∧
    (∀ m n, f.sent = .latch m → r = .latches n →
      (n = ch.expectedLatches m → exec (.echoEnd t k bits) s = .next (({ s1 with
        chains := s.chains.set k { cut with latched := true } } : State).serve k)) ∧
      (n < ch.expectedLatches m → exec (.echoEnd t k bits) s = .next ((({ s1 with
        chains := s.chains.set k { cut with
          latched := true, problem := true, mirror := ch.mirror.map (forgotten m) } } : State).queueReport
        [⟨.chain k 0, .latchShortfall, .active, false, false, none, s.timebase.counter⟩]).serve k))) ∧
    (∀ a code, f.sent = .direct a (.trim code) → exec (.echoEnd t k bits) s = .next (({ s1 with
      system := s.directAnswered k .done .none
      chains := s.chains.set k { cut with
        mirror := ch.mirror.modify a fun m => { m with trim := code } } } : State).serve k)) ∧
    (∀ a kind revision channels, f.sent = .direct a .ident → r = .ident true kind revision channels →
      exec (.echoEnd t k bits) s = .next (({ s1 with
        system := s.directAnswered k .done (.ident kind revision channels)
        chains := s.chains.set k cut } : State).serve k))

/-- R132 to R136, R138 to R140, R142, R146: an accepted POLL reply joins the driver's replies. A reply with both bits on
a channel is a status check and changes no mark, flag or fault; any other moves the candidate marks of each mapped
channel whose zone is not already OPEN or SHORT by Table 7-1, setting the fault of a zone it confirms, and takes the two
flags. A status check is reported with a snapshot; the confirmed channels are reported two to a report, the first of
them with a snapshot, then a changed hot flag and a changed supply-low flag; a snapshot takes the lowest free buffer.
Where the queue is full nothing is captured; where only some of the reports find room each is queued or lost in its
turn, and the first that is queued captures. The reply's frame leaves the frames in flight, the line is served, and no
other chain changes. (That the snapshot of a status check shows it counted is log 31.) -/
def Obligations.PollRepliesFollowTheCandidateTable : Prop :=
  ∀ (t k a : Nat) (bits : List Bool) (f : InFlight) (rest : List InFlight) (p : PollReply) (s : State),
    MapSound s → (s.chain k).state = .running → (s.chain k).inflight = f :: rest → f.sent = .poll a →
    (s.chain k).judge f bits = .accepted (.poll true p) → a < (s.chain k).mirror.length →
    ∃ u, exec (.echoEnd t k bits) s = .next u ∧ (u.chain k).state = .running ∧ u.zones.length = s.zones.length ∧
      u = { s with
        now := max s.now t, zones := u.zones, chains := u.chains, reports := u.reports, counters := u.counters } ∧
      Others k s u ∧
      u.chain k = Chain.serve { s.chain k with
        inflight := rest
        damaged := if p.openMask &&& p.shortMask = 0 then (s.chain k).damaged else min ((s.chain k).damaged + 1) 65535
        mirror := (s.chain k).mirror.set a ((u.chain k).record a) } u.now ∧
      ∀ m m', m = (s.chain k).record a → m' = (u.chain k).record a →
        m'.replies = (p :: m.replies).take 2 ∧ m'.lastPoll = s.timebase.counter ∧ m'.assigned = m.assigned ∧
        m'.group = m.group ∧ m'.shadow = m.shadow ∧ m'.known = m.known ∧ m'.trim = m.trim ∧
        (∀ b, b ≠ a → (u.chain k).record b = (s.chain k).record b) ∧
        (p.openMask &&& p.shortMask ≠ 0 →
          m'.openCand = m.openCand ∧ m'.shortCand = m.shortCand ∧ m'.hot = m.hot ∧ m'.supplyLow = m.supplyLow ∧
          u.zones = s.zones ∧ (u.chain k).damaged = min ((s.chain k).damaged + 1) 65535 ∧
          (s.reports.queue.length ≤ 31 → ∃ tag buffers,
            Captures s.reports u.now ⟨k, a, s.timebase.counter, m', min ((s.chain k).damaged + 1) 65535, (s.chain k).late,
              (s.chain k).recoveries⟩ tag buffers ∧
            u.reports = { s.reports with
              queue := s.reports.queue ++
                [⟨.driver k a, .statusCheck, .active, false, false, tag, s.timebase.counter⟩]
              alert := if s.reports.armed = true then true else s.reports.alert
              armed := false
              buffers := buffers } ∧ u.counters = s.counters) ∧
          ∀ older newest, s.reports.queue = older ++ [newest] → 32 ≤ s.reports.queue.length →
            u.reports = { s.reports with queue := older ++ [{ newest with overflow := true }] } ∧
            u.counters = { s.counters with reportsLost := min (s.counters.reportsLost + 1) 65535 }) ∧
        (p.openMask &&& p.shortMask = 0 →
          m'.hot = p.hot ∧ m'.supplyLow = p.supplyLow ∧ (u.chain k).damaged = (s.chain k).damaged ∧
          (∃ confirmed : List (Nat × Nat), confirmed.Pairwise (fun x y => x.1 < y.1) ∧
            (∀ c i, (c, i) ∈ confirmed ↔
              c < 16 ∧ (s.zone i).channel = some ⟨k, a, c⟩ ∧ (u.zone i).fault ≠ (s.zone i).fault) ∧
            ∀ flags : List ReportEntry, flags =
                (if p.hot = m.hot then [] else [⟨.driver k a, .driverHot, if p.hot = true then .degraded else .recovered,
                  false, false, none, s.timebase.counter⟩]) ++
                (if p.supplyLow = m.supplyLow then [] else [⟨.driver k a, .supplyLow,
                  if p.supplyLow = true then .degraded else .recovered, false, false, none, s.timebase.counter⟩]) →
              ∀ total, total = confirmed.length + (confirmed.length + 1) / 2 + flags.length →
              (s.reports.queue.length + total ≤ 32 → ∃ tag buffers,
                (confirmed = [] → tag = none ∧ buffers = s.reports.buffers) ∧
                (confirmed ≠ [] → Captures s.reports u.now ⟨k, a, s.timebase.counter,
                  { m' with hot := m.hot, supplyLow := m.supplyLow }, (s.chain k).damaged, (s.chain k).late,
                  (s.chain k).recoveries⟩ tag buffers) ∧
                u.reports = { s.reports with
                  queue := s.reports.queue ++
                    faultReports ⟨.driver k a, .channelFault, .active, false, false, tag, s.timebase.counter⟩
                      (confirmed.map fun x => ⟨.zone x.2, if (u.zone x.2).fault = .short then .short else .open, .active,
                        false, false, none, s.timebase.counter⟩) ++ flags
                  alert := if total ≠ 0 ∧ s.reports.armed = true then true else s.reports.alert
                  armed := if total = 0 then s.reports.armed else false
                  buffers := buffers }) ∧
              (32 ≤ s.reports.queue.length →
                u.reports.buffers = s.reports.buffers ∧ u.reports.queue.length = s.reports.queue.length) ∧
              ∃ y, ReportsInTurn ⟨.driver k a, .channelFault, .active, false, false, none, s.timebase.counter⟩
                  ⟨k, a, s.timebase.counter, { m' with hot := m.hot, supplyLow := m.supplyLow }, (s.chain k).damaged,
                    (s.chain k).late, (s.chain k).recoveries⟩
                  (inTwos (confirmed.map fun x => ⟨.zone x.2, if (u.zone x.2).fault = .short then .short else .open,
                    .active, false, false, none, s.timebase.counter⟩)) none (s.onlyWaits t) y ∧
                u.reports = (flags.foldl (fun x e => x.queueReport [e]) y).reports ∧
                u.counters = (flags.foldl (fun x e => x.queueReport [e]) y).counters) ∧
          (∀ i, (∀ x, (s.zone i).channel = some x → x.chain = k → x.position ≠ a) → u.zone i = s.zone i) ∧
          ∀ c, c < 16 →
            ((∀ i, (s.zone i).channel ≠ some ⟨k, a, c⟩) →
              m'.openCand.getLsbD c = m.openCand.getLsbD c ∧ m'.shortCand.getLsbD c = m.shortCand.getLsbD c) ∧
            ∀ i, (s.zone i).channel = some ⟨k, a, c⟩ →
              ((s.zone i).fault = .open ∨ (s.zone i).fault = .short →
                u.zone i = s.zone i ∧ m'.openCand.getLsbD c = m.openCand.getLsbD c ∧
                m'.shortCand.getLsbD c = m.shortCand.getLsbD c) ∧
              ((s.zone i).fault = .none ∨ (s.zone i).fault = .missing →
                (m.openCand.getLsbD c = false → m.shortCand.getLsbD c = false →
                  m'.openCand.getLsbD c = p.openMask.getLsbD c ∧ m'.shortCand.getLsbD c = p.shortMask.getLsbD c ∧
                  u.zone i = s.zone i) ∧
                (m.openCand.getLsbD c = true ∨ m.shortCand.getLsbD c = true →
                  m'.openCand.getLsbD c = false ∧ m'.shortCand.getLsbD c = false ∧
                  u.zone i = { s.zone i with
                    fault := if m.shortCand.getLsbD c = true ∨ p.shortMask.getLsbD c = true then
                        (if p.openMask.getLsbD c = true ∨ p.shortMask.getLsbD c = true then .short
                        else (s.zone i).fault)
                      else if p.openMask.getLsbD c = true then .open
                      else (s.zone i).fault })))

/-- R94, R117, R118, R119, R120, R121: in an attempt an accepted CLEAR clears every record and begins the ASSIGNs, an
accepted ASSIGN that was taken assigns its record and leads to the next, one that was not taken fails the attempt, and
after the last the chain enters RUNNING with the counted drivers, its zones to ease from 0 in the next pass to begin
(log 34), those beyond them MISSING, reporting MISSING DRIVERS or UNMAPPED DRIVERS, and CHAIN RESTORED after a recovery
or a RESTART CHAIN. (That FAILED unassigns the mirror is log 13; that MISSING takes the place of OPEN and SHORT is log
30.) -/
def Obligations.AttemptsAssignInOrder : Prop :=
  ∀ (t k : Nat) (bits : List Bool) (f : InFlight) (s : State),
    let ch := s.chain k
    let s1 := s.onlyWaits t
    ch.state = .enumerating ∨ ch.state = .recovering → ch.inflight = [f] →
    (∀ n, ch.attempt = some .clearing → f.sent = .clear → ch.judge f bits = .accepted (.cleared n) →
      exec (.echoEnd t k bits) s = .next ((({ s1 with
        chains := s.chains.set k { ch with
          inflight := []
          mirror := ch.mirror.map fun m => { Mirror.powerOn with trim := m.trim, known := true } } } : State).continueAttempt
            k n 0).serve k)) ∧
    (∀ n a g taken, ch.attempt = some (.assigning n a) → f.sent = .assign a g →
      ch.judge f bits = .accepted (.taken taken) →
      (taken = true → exec (.echoEnd t k bits) s = .next ((({ s1 with
        chains := s.chains.set k { ch with
          inflight := []
          mirror := ch.mirror.modify a fun m => { m with assigned := true, group := g } } } : State).continueAttempt
            k n (a + 1)).serve k)) ∧
      (taken = false → AttemptFails s1 k .notTaken (exec (.echoEnd t k bits) s))) ∧
    ∀ (x : State) (n a : Nat), (x.chain k).state ≠ .unused →
      (a < n → a < 48 → ∃ g, x.continueAttempt k n a = { x with
          chains := x.chains.set k { (x.chain k).granted x.now (.assign a g) false with
            attempt := some (.assigning n a) } } ∧
        (∀ j, a < (x.chain k).drivers → g = some j → ∃ i c, (x.zone i).channel = some ⟨k, a, c⟩ ∧
          j = x.grid.zoneGroup x.schedule.groups i) ∧
        (g = none ↔ (x.chain k).drivers ≤ a ∨ ∀ i c, (x.zone i).channel ≠ some ⟨k, a, c⟩)) ∧
      (min n 48 ≤ a → ∀ u, u = x.continueAttempt k n a →
        (u.chain k).state = .running ∧ (u.chain k).count = n ∧ (u.chain k).attempt = none ∧ (u.chain k).wait = none ∧
        (u.chain k).mirror = (x.chain k).mirror ∧ (u.chain k).inflight = (x.chain k).inflight ∧
        (u.chain k).pollPointer = 0 ∧ (u.chain k).pollDue = some (x.now + us x.system.pollInterval) ∧
        (u.chain k).runDue = some (x.now + ms 10000) ∧ u.blankAsserted k = true ∧ Others k x u ∧
        u.zones = (x.zones.map fun z =>
          if ∃ c, z.channel = some c ∧ c.chain = k then
            { z with
              fault := if ∃ c, z.channel = some c ∧ n ≤ c.position ∧ c.position < (x.chain k).drivers then .missing
                else z.fault
              relit := true }
          else z) ∧
        ∀ reports : List ReportEntry, reports =
            (if n < (x.chain k).drivers then [⟨.chain k ((x.chain k).drivers - n), .missingDrivers, .active, false, false,
                none, x.timebase.counter⟩]
              else if (x.chain k).drivers < n then [⟨.chain k (n - (x.chain k).drivers), .unmappedDrivers, .active, false,
                false, none, x.timebase.counter⟩]
              else []) ++
            (if (x.chain k).announce = true then [⟨.chain k 0, .chainRestored, .recovered, false, false, none,
              x.timebase.counter⟩] else []) →
          u.reports = (reports.foldl (fun y e => y.queueReport [e]) x).reports ∧
          u.counters = (reports.foldl (fun y e => y.queueReport [e]) x).counters)

/-! ## Thermal unit (chapter 8) -/

/-- R150 to R153: a conversion completes 20 µs after the one before; its code is discarded or joins the list as the
newest of four, the average, temperature and fault mark are formed from the list, and a change of the mark is reported.
While the sequencer is STOPPED the event does not fit and changes nothing (log 3). -/
def Obligations.ConversionsFormTheAverage : Prop :=
  ∀ (code : BitVec 10) (s : State),
    (s.thermal.converting = false → exec (.conversionComplete code) s = .next s) ∧
    (s.thermal.converting = true → ∀ i x, i = s.thermal.done % 8 → s.thermal.sensors[i]? = some x →
      ∀ n, n = max s.now (s.thermal.startedAt + us (20 * (s.thermal.done + 1))) →
      let after : Sensor → State := fun y => { s with
        now := n, thermal := { s.thermal with done := s.thermal.done + 1, sensors := s.thermal.sensors.set i y } }
      (x.discard = true → exec (.conversionComplete code) s = .next (after { x with discard := false })) ∧
      (x.discard = false → ∀ codes average out, codes = (code.toNat :: x.codes).take 4 →
        average = codes.sum / codes.length → (out = true ↔ average ≤ 8 ∨ 1015 ≤ average) →
        ∀ y, y = { x with
            codes := codes
            fault := out
            temperature := some (s.thermal.params.a + (average * s.thermal.params.m) / 4096) } →
          (out = x.fault → exec (.conversionComplete code) s = .next (after y)) ∧
          (out ≠ x.fault → exec (.conversionComplete code) s = .next ((after y).queueReport
            [⟨.sensor i, .sensorFault, if out = true then .degraded else .recovered, false, false, none,
              s.timebase.counter⟩]))))

/-! ## Formats (chapter 12) -/

/-- R173, R191, R193, R194: every well-formed command of the system port, the picture port and the panel port has its
bytes and is read back from them, with every operand at every value its field admits; a panel message is received from
its line by the end of its end symbol. -/
def Obligations.MessagesReadBack : Prop :=
  ∀ (c : Instr) (t : Nat) (bytes : List Byte), c.wf = true → c.arrival = some t →
    (encodeWrite c = some bytes → decodeWrite t bytes = some c) ∧
    (encodePicture c = some bytes → decodePicture t bytes = some c ∧ malformed bytes 0 = false) ∧
    (encodePanel c = some bytes → decodePanel t true bytes = .ok c ∧
      ∀ t0, t = t0 + 16 + 8 * bytes.length → panelReceives t0 (messageOnLine bytes) = [c]) ∧
    (c.port = some .system → encodeWrite c ≠ none) ∧
    (c.port = some .picture → encodePicture c ≠ none) ∧
    (c.port = some .panel → encodePanel c ≠ none)

/-- R74, R76, R86, R88, R91, R191, R192: the echo of an undamaged frame that has passed any drivers is judged by what
they wrote: damaged where its driver did not acknowledge it, a mismatch where too many latched, else accepted with their
reply. -/
def Obligations.UndamagedEchoesAreRead : Prop :=
  ∀ (ch : Chain) (f : InFlight) (ds : List Driver), f.sent.wf = true → f.tag < 4 →
    (∀ d ∈ ds, d.damagedFrames ≤ 255 ∧ d.revision ≤ 255) →
    ∀ r, r = (loop ds f.sent).2 →
      ch.judge f (echoBits ds f.sent f.tag) =
        if r.unacknowledged = true then .damaged
        else if ch.tooManyLatches f.sent r = true then .mismatch
        else .accepted r
end

