-- ==== Sys2Proof/Laws/State.lean ====
section
/-! SUPPORT. One lemma for each field of the state under each plain update, so that no later proof unfolds a record
update. -/

namespace Sys2Proof.Machine

@[simp] theorem State.arrive_now (s : State) (t : Nat) : (s.arrive t).now = max s.now t := rfl
@[simp] theorem State.arrive_grid (s : State) (t : Nat) : (s.arrive t).grid = s.grid := rfl
@[simp] theorem State.arrive_zones (s : State) (t : Nat) : (s.arrive t).zones = s.zones := rfl
@[simp] theorem State.arrive_request (s : State) (t : Nat) : (s.arrive t).request = s.request := rfl
@[simp] theorem State.arrive_windows (s : State) (t : Nat) : (s.arrive t).windows = s.windows := rfl
@[simp] theorem State.arrive_probe (s : State) (t : Nat) : (s.arrive t).probe = s.probe := rfl
@[simp] theorem State.arrive_pass (s : State) (t : Nat) : (s.arrive t).pass = s.pass := rfl
@[simp] theorem State.arrive_timebase (s : State) (t : Nat) : (s.arrive t).timebase = s.timebase := rfl
@[simp] theorem State.arrive_schedule (s : State) (t : Nat) : (s.arrive t).schedule = s.schedule := rfl
@[simp] theorem State.arrive_chains (s : State) (t : Nat) : (s.arrive t).chains = s.chains := rfl
@[simp] theorem State.arrive_claims (s : State) (t : Nat) : (s.arrive t).claims = s.claims := rfl
@[simp] theorem State.arrive_reports (s : State) (t : Nat) : (s.arrive t).reports = s.reports := rfl
@[simp] theorem State.arrive_thermal (s : State) (t : Nat) : (s.arrive t).thermal = s.thermal := rfl
@[simp] theorem State.arrive_picture (s : State) (t : Nat) : (s.arrive t).picture = s.picture := rfl
@[simp] theorem State.arrive_panel (s : State) (t : Nat) : (s.arrive t).panel = s.panel := rfl
@[simp] theorem State.arrive_system (s : State) (t : Nat) : (s.arrive t).system = s.system := rfl
@[simp] theorem State.arrive_counters (s : State) (t : Nat) : (s.arrive t).counters = s.counters := rfl
@[simp] theorem State.arrive_pending (s : State) (t : Nat) : (s.arrive t).pending = s.pending := rfl

@[simp] theorem State.updChain_now (s : State) (c : Nat) (f : Chain → Chain) : (s.updChain c f).now = s.now := rfl
@[simp] theorem State.updChain_grid (s : State) (c : Nat) (f : Chain → Chain) : (s.updChain c f).grid = s.grid := rfl
@[simp] theorem State.updChain_zones (s : State) (c : Nat) (f : Chain → Chain) : (s.updChain c f).zones = s.zones := rfl
@[simp] theorem State.updChain_request (s : State) (c : Nat) (f : Chain → Chain) : (s.updChain c f).request = s.request := rfl
@[simp] theorem State.updChain_windows (s : State) (c : Nat) (f : Chain → Chain) : (s.updChain c f).windows = s.windows := rfl
@[simp] theorem State.updChain_probe (s : State) (c : Nat) (f : Chain → Chain) : (s.updChain c f).probe = s.probe := rfl
@[simp] theorem State.updChain_pass (s : State) (c : Nat) (f : Chain → Chain) : (s.updChain c f).pass = s.pass := rfl
@[simp] theorem State.updChain_timebase (s : State) (c : Nat) (f : Chain → Chain) : (s.updChain c f).timebase = s.timebase := rfl
@[simp] theorem State.updChain_schedule (s : State) (c : Nat) (f : Chain → Chain) : (s.updChain c f).schedule = s.schedule := rfl
@[simp] theorem State.updChain_chains (s : State) (c : Nat) (f : Chain → Chain) : (s.updChain c f).chains = s.chains.modify c f := rfl
@[simp] theorem State.updChain_claims (s : State) (c : Nat) (f : Chain → Chain) : (s.updChain c f).claims = s.claims := rfl
@[simp] theorem State.updChain_reports (s : State) (c : Nat) (f : Chain → Chain) : (s.updChain c f).reports = s.reports := rfl
@[simp] theorem State.updChain_thermal (s : State) (c : Nat) (f : Chain → Chain) : (s.updChain c f).thermal = s.thermal := rfl
@[simp] theorem State.updChain_picture (s : State) (c : Nat) (f : Chain → Chain) : (s.updChain c f).picture = s.picture := rfl
@[simp] theorem State.updChain_panel (s : State) (c : Nat) (f : Chain → Chain) : (s.updChain c f).panel = s.panel := rfl
@[simp] theorem State.updChain_system (s : State) (c : Nat) (f : Chain → Chain) : (s.updChain c f).system = s.system := rfl
@[simp] theorem State.updChain_counters (s : State) (c : Nat) (f : Chain → Chain) : (s.updChain c f).counters = s.counters := rfl
@[simp] theorem State.updChain_pending (s : State) (c : Nat) (f : Chain → Chain) : (s.updChain c f).pending = s.pending := rfl

@[simp] theorem State.mapChains_now (s : State) (f : Chain → Chain) : (s.mapChains f).now = s.now := rfl
@[simp] theorem State.mapChains_grid (s : State) (f : Chain → Chain) : (s.mapChains f).grid = s.grid := rfl
@[simp] theorem State.mapChains_zones (s : State) (f : Chain → Chain) : (s.mapChains f).zones = s.zones := rfl
@[simp] theorem State.mapChains_request (s : State) (f : Chain → Chain) : (s.mapChains f).request = s.request := rfl
@[simp] theorem State.mapChains_windows (s : State) (f : Chain → Chain) : (s.mapChains f).windows = s.windows := rfl
@[simp] theorem State.mapChains_probe (s : State) (f : Chain → Chain) : (s.mapChains f).probe = s.probe := rfl
@[simp] theorem State.mapChains_pass (s : State) (f : Chain → Chain) : (s.mapChains f).pass = s.pass := rfl
@[simp] theorem State.mapChains_timebase (s : State) (f : Chain → Chain) : (s.mapChains f).timebase = s.timebase := rfl
@[simp] theorem State.mapChains_schedule (s : State) (f : Chain → Chain) : (s.mapChains f).schedule = s.schedule := rfl
@[simp] theorem State.mapChains_chains (s : State) (f : Chain → Chain) : (s.mapChains f).chains = s.chains.map f := rfl
@[simp] theorem State.mapChains_claims (s : State) (f : Chain → Chain) : (s.mapChains f).claims = s.claims := rfl
@[simp] theorem State.mapChains_reports (s : State) (f : Chain → Chain) : (s.mapChains f).reports = s.reports := rfl
@[simp] theorem State.mapChains_thermal (s : State) (f : Chain → Chain) : (s.mapChains f).thermal = s.thermal := rfl
@[simp] theorem State.mapChains_picture (s : State) (f : Chain → Chain) : (s.mapChains f).picture = s.picture := rfl
@[simp] theorem State.mapChains_panel (s : State) (f : Chain → Chain) : (s.mapChains f).panel = s.panel := rfl
@[simp] theorem State.mapChains_system (s : State) (f : Chain → Chain) : (s.mapChains f).system = s.system := rfl
@[simp] theorem State.mapChains_counters (s : State) (f : Chain → Chain) : (s.mapChains f).counters = s.counters := rfl
@[simp] theorem State.mapChains_pending (s : State) (f : Chain → Chain) : (s.mapChains f).pending = s.pending := rfl

@[simp] theorem State.updZone_now (s : State) (i : Nat) (f : Zone → Zone) : (s.updZone i f).now = s.now := rfl
@[simp] theorem State.updZone_grid (s : State) (i : Nat) (f : Zone → Zone) : (s.updZone i f).grid = s.grid := rfl
@[simp] theorem State.updZone_zones (s : State) (i : Nat) (f : Zone → Zone) : (s.updZone i f).zones = s.zones.modify i f := rfl
@[simp] theorem State.updZone_request (s : State) (i : Nat) (f : Zone → Zone) : (s.updZone i f).request = s.request := rfl
@[simp] theorem State.updZone_windows (s : State) (i : Nat) (f : Zone → Zone) : (s.updZone i f).windows = s.windows := rfl
@[simp] theorem State.updZone_probe (s : State) (i : Nat) (f : Zone → Zone) : (s.updZone i f).probe = s.probe := rfl
@[simp] theorem State.updZone_pass (s : State) (i : Nat) (f : Zone → Zone) : (s.updZone i f).pass = s.pass := rfl
@[simp] theorem State.updZone_timebase (s : State) (i : Nat) (f : Zone → Zone) : (s.updZone i f).timebase = s.timebase := rfl
@[simp] theorem State.updZone_schedule (s : State) (i : Nat) (f : Zone → Zone) : (s.updZone i f).schedule = s.schedule := rfl
@[simp] theorem State.updZone_chains (s : State) (i : Nat) (f : Zone → Zone) : (s.updZone i f).chains = s.chains := rfl
@[simp] theorem State.updZone_claims (s : State) (i : Nat) (f : Zone → Zone) : (s.updZone i f).claims = s.claims := rfl
@[simp] theorem State.updZone_reports (s : State) (i : Nat) (f : Zone → Zone) : (s.updZone i f).reports = s.reports := rfl
@[simp] theorem State.updZone_thermal (s : State) (i : Nat) (f : Zone → Zone) : (s.updZone i f).thermal = s.thermal := rfl
@[simp] theorem State.updZone_picture (s : State) (i : Nat) (f : Zone → Zone) : (s.updZone i f).picture = s.picture := rfl
@[simp] theorem State.updZone_panel (s : State) (i : Nat) (f : Zone → Zone) : (s.updZone i f).panel = s.panel := rfl
@[simp] theorem State.updZone_system (s : State) (i : Nat) (f : Zone → Zone) : (s.updZone i f).system = s.system := rfl
@[simp] theorem State.updZone_counters (s : State) (i : Nat) (f : Zone → Zone) : (s.updZone i f).counters = s.counters := rfl
@[simp] theorem State.updZone_pending (s : State) (i : Nat) (f : Zone → Zone) : (s.updZone i f).pending = s.pending := rfl

@[simp] theorem State.respond_now (s : State) (cmd : Option SysCommand) (r : SysResult) (d : ResponseData) : (s.respond cmd r d).now = s.now := rfl
@[simp] theorem State.respond_grid (s : State) (cmd : Option SysCommand) (r : SysResult) (d : ResponseData) : (s.respond cmd r d).grid = s.grid := rfl
@[simp] theorem State.respond_zones (s : State) (cmd : Option SysCommand) (r : SysResult) (d : ResponseData) : (s.respond cmd r d).zones = s.zones := rfl
@[simp] theorem State.respond_request (s : State) (cmd : Option SysCommand) (r : SysResult) (d : ResponseData) : (s.respond cmd r d).request = s.request := rfl
@[simp] theorem State.respond_windows (s : State) (cmd : Option SysCommand) (r : SysResult) (d : ResponseData) : (s.respond cmd r d).windows = s.windows := rfl
@[simp] theorem State.respond_probe (s : State) (cmd : Option SysCommand) (r : SysResult) (d : ResponseData) : (s.respond cmd r d).probe = s.probe := rfl
@[simp] theorem State.respond_pass (s : State) (cmd : Option SysCommand) (r : SysResult) (d : ResponseData) : (s.respond cmd r d).pass = s.pass := rfl
@[simp] theorem State.respond_timebase (s : State) (cmd : Option SysCommand) (r : SysResult) (d : ResponseData) : (s.respond cmd r d).timebase = s.timebase := rfl
@[simp] theorem State.respond_schedule (s : State) (cmd : Option SysCommand) (r : SysResult) (d : ResponseData) : (s.respond cmd r d).schedule = s.schedule := rfl
@[simp] theorem State.respond_chains (s : State) (cmd : Option SysCommand) (r : SysResult) (d : ResponseData) : (s.respond cmd r d).chains = s.chains := rfl
@[simp] theorem State.respond_claims (s : State) (cmd : Option SysCommand) (r : SysResult) (d : ResponseData) : (s.respond cmd r d).claims = s.claims := rfl
@[simp] theorem State.respond_reports (s : State) (cmd : Option SysCommand) (r : SysResult) (d : ResponseData) : (s.respond cmd r d).reports = s.reports := rfl
@[simp] theorem State.respond_thermal (s : State) (cmd : Option SysCommand) (r : SysResult) (d : ResponseData) : (s.respond cmd r d).thermal = s.thermal := rfl
@[simp] theorem State.respond_picture (s : State) (cmd : Option SysCommand) (r : SysResult) (d : ResponseData) : (s.respond cmd r d).picture = s.picture := rfl
@[simp] theorem State.respond_panel (s : State) (cmd : Option SysCommand) (r : SysResult) (d : ResponseData) : (s.respond cmd r d).panel = s.panel := rfl
@[simp] theorem State.respond_system (s : State) (cmd : Option SysCommand) (r : SysResult) (d : ResponseData) : (s.respond cmd r d).system = { s.system with response := ⟨true, cmd, some r, d, none⟩ } := rfl
@[simp] theorem State.respond_counters (s : State) (cmd : Option SysCommand) (r : SysResult) (d : ResponseData) : (s.respond cmd r d).counters = s.counters := rfl
@[simp] theorem State.respond_pending (s : State) (cmd : Option SysCommand) (r : SysResult) (d : ResponseData) : (s.respond cmd r d).pending = s.pending := rfl

@[simp] theorem State.answer_now (s : State) (cmd : SysCommand) (r : SysResult) : (s.answer cmd r).now = s.now := rfl
@[simp] theorem State.answer_grid (s : State) (cmd : SysCommand) (r : SysResult) : (s.answer cmd r).grid = s.grid := rfl
@[simp] theorem State.answer_zones (s : State) (cmd : SysCommand) (r : SysResult) : (s.answer cmd r).zones = s.zones := rfl
@[simp] theorem State.answer_request (s : State) (cmd : SysCommand) (r : SysResult) : (s.answer cmd r).request = s.request := rfl
@[simp] theorem State.answer_windows (s : State) (cmd : SysCommand) (r : SysResult) : (s.answer cmd r).windows = s.windows := rfl
@[simp] theorem State.answer_probe (s : State) (cmd : SysCommand) (r : SysResult) : (s.answer cmd r).probe = s.probe := rfl
@[simp] theorem State.answer_pass (s : State) (cmd : SysCommand) (r : SysResult) : (s.answer cmd r).pass = s.pass := rfl
@[simp] theorem State.answer_timebase (s : State) (cmd : SysCommand) (r : SysResult) : (s.answer cmd r).timebase = s.timebase := rfl
@[simp] theorem State.answer_schedule (s : State) (cmd : SysCommand) (r : SysResult) : (s.answer cmd r).schedule = s.schedule := rfl
@[simp] theorem State.answer_chains (s : State) (cmd : SysCommand) (r : SysResult) : (s.answer cmd r).chains = s.chains := rfl
@[simp] theorem State.answer_claims (s : State) (cmd : SysCommand) (r : SysResult) : (s.answer cmd r).claims = s.claims := rfl
@[simp] theorem State.answer_reports (s : State) (cmd : SysCommand) (r : SysResult) : (s.answer cmd r).reports = s.reports := rfl
@[simp] theorem State.answer_thermal (s : State) (cmd : SysCommand) (r : SysResult) : (s.answer cmd r).thermal = s.thermal := rfl
@[simp] theorem State.answer_picture (s : State) (cmd : SysCommand) (r : SysResult) : (s.answer cmd r).picture = s.picture := rfl
@[simp] theorem State.answer_panel (s : State) (cmd : SysCommand) (r : SysResult) : (s.answer cmd r).panel = s.panel := rfl
@[simp] theorem State.answer_system (s : State) (cmd : SysCommand) (r : SysResult) : (s.answer cmd r).system = { s.system with response := ⟨true, some cmd, some r, .none, none⟩ } := rfl
@[simp] theorem State.answer_counters (s : State) (cmd : SysCommand) (r : SysResult) : (s.answer cmd r).counters = s.counters := rfl
@[simp] theorem State.answer_pending (s : State) (cmd : SysCommand) (r : SysResult) : (s.answer cmd r).pending = s.pending := rfl

@[simp] theorem State.respondPending_now (s : State) (cmd : SysCommand) (c : Nat) : (s.respondPending cmd c).now = s.now := rfl
@[simp] theorem State.respondPending_grid (s : State) (cmd : SysCommand) (c : Nat) : (s.respondPending cmd c).grid = s.grid := rfl
@[simp] theorem State.respondPending_zones (s : State) (cmd : SysCommand) (c : Nat) : (s.respondPending cmd c).zones = s.zones := rfl
@[simp] theorem State.respondPending_request (s : State) (cmd : SysCommand) (c : Nat) : (s.respondPending cmd c).request = s.request := rfl
@[simp] theorem State.respondPending_windows (s : State) (cmd : SysCommand) (c : Nat) : (s.respondPending cmd c).windows = s.windows := rfl
@[simp] theorem State.respondPending_probe (s : State) (cmd : SysCommand) (c : Nat) : (s.respondPending cmd c).probe = s.probe := rfl
@[simp] theorem State.respondPending_pass (s : State) (cmd : SysCommand) (c : Nat) : (s.respondPending cmd c).pass = s.pass := rfl
@[simp] theorem State.respondPending_timebase (s : State) (cmd : SysCommand) (c : Nat) : (s.respondPending cmd c).timebase = s.timebase := rfl
@[simp] theorem State.respondPending_schedule (s : State) (cmd : SysCommand) (c : Nat) : (s.respondPending cmd c).schedule = s.schedule := rfl
@[simp] theorem State.respondPending_chains (s : State) (cmd : SysCommand) (c : Nat) : (s.respondPending cmd c).chains = s.chains := rfl
@[simp] theorem State.respondPending_claims (s : State) (cmd : SysCommand) (c : Nat) : (s.respondPending cmd c).claims = s.claims := rfl
@[simp] theorem State.respondPending_reports (s : State) (cmd : SysCommand) (c : Nat) : (s.respondPending cmd c).reports = s.reports := rfl
@[simp] theorem State.respondPending_thermal (s : State) (cmd : SysCommand) (c : Nat) : (s.respondPending cmd c).thermal = s.thermal := rfl
@[simp] theorem State.respondPending_picture (s : State) (cmd : SysCommand) (c : Nat) : (s.respondPending cmd c).picture = s.picture := rfl
@[simp] theorem State.respondPending_panel (s : State) (cmd : SysCommand) (c : Nat) : (s.respondPending cmd c).panel = s.panel := rfl
@[simp] theorem State.respondPending_system (s : State) (cmd : SysCommand) (c : Nat) : (s.respondPending cmd c).system = { s.system with response := ⟨false, some cmd, none, .none, some c⟩ } := rfl
@[simp] theorem State.respondPending_counters (s : State) (cmd : SysCommand) (c : Nat) : (s.respondPending cmd c).counters = s.counters := rfl
@[simp] theorem State.respondPending_pending (s : State) (cmd : SysCommand) (c : Nat) : (s.respondPending cmd c).pending = s.pending := rfl

@[simp] theorem State.count_now (s : State) (f : Counters → Counters) : (s.count f).now = s.now := rfl
@[simp] theorem State.count_grid (s : State) (f : Counters → Counters) : (s.count f).grid = s.grid := rfl
@[simp] theorem State.count_zones (s : State) (f : Counters → Counters) : (s.count f).zones = s.zones := rfl
@[simp] theorem State.count_request (s : State) (f : Counters → Counters) : (s.count f).request = s.request := rfl
@[simp] theorem State.count_windows (s : State) (f : Counters → Counters) : (s.count f).windows = s.windows := rfl
@[simp] theorem State.count_probe (s : State) (f : Counters → Counters) : (s.count f).probe = s.probe := rfl
@[simp] theorem State.count_pass (s : State) (f : Counters → Counters) : (s.count f).pass = s.pass := rfl
@[simp] theorem State.count_timebase (s : State) (f : Counters → Counters) : (s.count f).timebase = s.timebase := rfl
@[simp] theorem State.count_schedule (s : State) (f : Counters → Counters) : (s.count f).schedule = s.schedule := rfl
@[simp] theorem State.count_chains (s : State) (f : Counters → Counters) : (s.count f).chains = s.chains := rfl
@[simp] theorem State.count_claims (s : State) (f : Counters → Counters) : (s.count f).claims = s.claims := rfl
@[simp] theorem State.count_reports (s : State) (f : Counters → Counters) : (s.count f).reports = s.reports := rfl
@[simp] theorem State.count_thermal (s : State) (f : Counters → Counters) : (s.count f).thermal = s.thermal := rfl
@[simp] theorem State.count_picture (s : State) (f : Counters → Counters) : (s.count f).picture = s.picture := rfl
@[simp] theorem State.count_panel (s : State) (f : Counters → Counters) : (s.count f).panel = s.panel := rfl
@[simp] theorem State.count_system (s : State) (f : Counters → Counters) : (s.count f).system = s.system := rfl
@[simp] theorem State.count_counters (s : State) (f : Counters → Counters) : (s.count f).counters = f s.counters := rfl
@[simp] theorem State.count_pending (s : State) (f : Counters → Counters) : (s.count f).pending = s.pending := rfl

@[simp] theorem State.servePanel_now (s : State) : (s.servePanel).now = s.now := rfl
@[simp] theorem State.servePanel_grid (s : State) : (s.servePanel).grid = s.grid := rfl
@[simp] theorem State.servePanel_zones (s : State) : (s.servePanel).zones = s.zones := rfl
@[simp] theorem State.servePanel_request (s : State) : (s.servePanel).request = s.request := rfl
@[simp] theorem State.servePanel_windows (s : State) : (s.servePanel).windows = s.windows := rfl
@[simp] theorem State.servePanel_probe (s : State) : (s.servePanel).probe = s.probe := rfl
@[simp] theorem State.servePanel_pass (s : State) : (s.servePanel).pass = s.pass := rfl
@[simp] theorem State.servePanel_timebase (s : State) : (s.servePanel).timebase = s.timebase := rfl
@[simp] theorem State.servePanel_schedule (s : State) : (s.servePanel).schedule = s.schedule := rfl
@[simp] theorem State.servePanel_chains (s : State) : (s.servePanel).chains = s.chains := rfl
@[simp] theorem State.servePanel_claims (s : State) : (s.servePanel).claims = s.claims := rfl
@[simp] theorem State.servePanel_reports (s : State) : (s.servePanel).reports = s.reports := rfl
@[simp] theorem State.servePanel_thermal (s : State) : (s.servePanel).thermal = s.thermal := rfl
@[simp] theorem State.servePanel_picture (s : State) : (s.servePanel).picture = s.picture := rfl
@[simp] theorem State.servePanel_panel (s : State) : (s.servePanel).panel = s.panel.serve s.now := rfl
@[simp] theorem State.servePanel_system (s : State) : (s.servePanel).system = s.system := rfl
@[simp] theorem State.servePanel_counters (s : State) : (s.servePanel).counters = s.counters := rfl
@[simp] theorem State.servePanel_pending (s : State) : (s.servePanel).pending = s.pending := rfl

@[simp] theorem State.markHoldEnded_now (s : State) : (s.markHoldEnded).now = s.now := rfl
@[simp] theorem State.markHoldEnded_grid (s : State) : (s.markHoldEnded).grid = s.grid := rfl
@[simp] theorem State.markHoldEnded_zones (s : State) : (s.markHoldEnded).zones = s.zones := rfl
@[simp] theorem State.markHoldEnded_request (s : State) : (s.markHoldEnded).request = s.request := rfl
@[simp] theorem State.markHoldEnded_windows (s : State) : (s.markHoldEnded).windows = s.windows := rfl
@[simp] theorem State.markHoldEnded_probe (s : State) : (s.markHoldEnded).probe = s.probe := rfl
@[simp] theorem State.markHoldEnded_pass (s : State) : (s.markHoldEnded).pass = s.pass := rfl
@[simp] theorem State.markHoldEnded_timebase (s : State) : (s.markHoldEnded).timebase = s.timebase := rfl
@[simp] theorem State.markHoldEnded_schedule (s : State) : (s.markHoldEnded).schedule = s.schedule := rfl
@[simp] theorem State.markHoldEnded_chains (s : State) : (s.markHoldEnded).chains = s.chains := rfl
@[simp] theorem State.markHoldEnded_claims (s : State) : (s.markHoldEnded).claims = s.claims := rfl
@[simp] theorem State.markHoldEnded_reports (s : State) : (s.markHoldEnded).reports = s.reports := rfl
@[simp] theorem State.markHoldEnded_thermal (s : State) : (s.markHoldEnded).thermal = s.thermal := rfl
@[simp] theorem State.markHoldEnded_picture (s : State) : (s.markHoldEnded).picture = s.picture := rfl
@[simp] theorem State.markHoldEnded_panel (s : State) : (s.markHoldEnded).panel = ({ s.panel with holdEnded := true } : PanelPort).serve s.now := rfl
@[simp] theorem State.markHoldEnded_system (s : State) : (s.markHoldEnded).system = s.system := rfl
@[simp] theorem State.markHoldEnded_counters (s : State) : (s.markHoldEnded).counters = s.counters := rfl
@[simp] theorem State.markHoldEnded_pending (s : State) : (s.markHoldEnded).pending = s.pending := rfl

@[simp] theorem State.setTimebase_now (s : State) (tb : Timebase) : (s.setTimebase tb).now = s.now := rfl
@[simp] theorem State.setTimebase_grid (s : State) (tb : Timebase) : (s.setTimebase tb).grid = s.grid := rfl
@[simp] theorem State.setTimebase_zones (s : State) (tb : Timebase) : (s.setTimebase tb).zones = s.zones := rfl
@[simp] theorem State.setTimebase_request (s : State) (tb : Timebase) : (s.setTimebase tb).request = s.request := rfl
@[simp] theorem State.setTimebase_windows (s : State) (tb : Timebase) : (s.setTimebase tb).windows = s.windows := rfl
@[simp] theorem State.setTimebase_probe (s : State) (tb : Timebase) : (s.setTimebase tb).probe = s.probe := rfl
@[simp] theorem State.setTimebase_pass (s : State) (tb : Timebase) : (s.setTimebase tb).pass = s.pass := rfl
@[simp] theorem State.setTimebase_timebase (s : State) (tb : Timebase) : (s.setTimebase tb).timebase = tb := rfl
@[simp] theorem State.setTimebase_schedule (s : State) (tb : Timebase) : (s.setTimebase tb).schedule = s.schedule := rfl
@[simp] theorem State.setTimebase_chains (s : State) (tb : Timebase) : (s.setTimebase tb).chains = s.chains := rfl
@[simp] theorem State.setTimebase_claims (s : State) (tb : Timebase) : (s.setTimebase tb).claims = s.claims := rfl
@[simp] theorem State.setTimebase_reports (s : State) (tb : Timebase) : (s.setTimebase tb).reports = s.reports := rfl
@[simp] theorem State.setTimebase_thermal (s : State) (tb : Timebase) : (s.setTimebase tb).thermal = s.thermal := rfl
@[simp] theorem State.setTimebase_picture (s : State) (tb : Timebase) : (s.setTimebase tb).picture = s.picture := rfl
@[simp] theorem State.setTimebase_panel (s : State) (tb : Timebase) : (s.setTimebase tb).panel = s.panel := rfl
@[simp] theorem State.setTimebase_system (s : State) (tb : Timebase) : (s.setTimebase tb).system = s.system := rfl
@[simp] theorem State.setTimebase_counters (s : State) (tb : Timebase) : (s.setTimebase tb).counters = s.counters := rfl
@[simp] theorem State.setTimebase_pending (s : State) (tb : Timebase) : (s.setTimebase tb).pending = s.pending := rfl

@[simp] theorem State.beginFrame_now (s : State) : (s.beginFrame).now = s.now := rfl
@[simp] theorem State.beginFrame_grid (s : State) : (s.beginFrame).grid = s.grid := rfl
@[simp] theorem State.beginFrame_zones (s : State) : (s.beginFrame).zones = s.zones := rfl
@[simp] theorem State.beginFrame_request (s : State) : (s.beginFrame).request = s.request := rfl
@[simp] theorem State.beginFrame_windows (s : State) : (s.beginFrame).windows = s.windows := rfl
@[simp] theorem State.beginFrame_probe (s : State) : (s.beginFrame).probe = s.probe := rfl
@[simp] theorem State.beginFrame_pass (s : State) : (s.beginFrame).pass = s.pass := rfl
@[simp] theorem State.beginFrame_timebase (s : State) : (s.beginFrame).timebase = s.timebase.atFrameStart s.now := rfl
@[simp] theorem State.beginFrame_schedule (s : State) : (s.beginFrame).schedule = s.schedule := rfl
@[simp] theorem State.beginFrame_chains (s : State) : (s.beginFrame).chains = s.chains := rfl
@[simp] theorem State.beginFrame_claims (s : State) : (s.beginFrame).claims = s.claims := rfl
@[simp] theorem State.beginFrame_reports (s : State) : (s.beginFrame).reports = s.reports := rfl
@[simp] theorem State.beginFrame_thermal (s : State) : (s.beginFrame).thermal = s.thermal := rfl
@[simp] theorem State.beginFrame_picture (s : State) : (s.beginFrame).picture = s.picture := rfl
@[simp] theorem State.beginFrame_panel (s : State) : (s.beginFrame).panel = s.panel := rfl
@[simp] theorem State.beginFrame_system (s : State) : (s.beginFrame).system = s.system := rfl
@[simp] theorem State.beginFrame_counters (s : State) : (s.beginFrame).counters = s.counters := rfl
@[simp] theorem State.beginFrame_pending (s : State) : (s.beginFrame).pending = s.pending := rfl

@[simp] theorem State.moveClaims_now (s : State) (x : Claims) (b : Bool) : (s.moveClaims x b).now = s.now := rfl
@[simp] theorem State.moveClaims_grid (s : State) (x : Claims) (b : Bool) : (s.moveClaims x b).grid = s.grid := rfl
@[simp] theorem State.moveClaims_zones (s : State) (x : Claims) (b : Bool) : (s.moveClaims x b).zones = s.zones := rfl
@[simp] theorem State.moveClaims_request (s : State) (x : Claims) (b : Bool) : (s.moveClaims x b).request = s.request := rfl
@[simp] theorem State.moveClaims_windows (s : State) (x : Claims) (b : Bool) : (s.moveClaims x b).windows = s.windows := rfl
@[simp] theorem State.moveClaims_probe (s : State) (x : Claims) (b : Bool) : (s.moveClaims x b).probe = s.probe := rfl
@[simp] theorem State.moveClaims_pass (s : State) (x : Claims) (b : Bool) : (s.moveClaims x b).pass = s.pass := rfl
@[simp] theorem State.moveClaims_timebase (s : State) (x : Claims) (b : Bool) : (s.moveClaims x b).timebase = s.timebase := rfl
@[simp] theorem State.moveClaims_schedule (s : State) (x : Claims) (b : Bool) : (s.moveClaims x b).schedule = s.schedule := rfl
@[simp] theorem State.moveClaims_chains (s : State) (x : Claims) (b : Bool) : (s.moveClaims x b).chains = if b then s.chains.map fun ch => { ch with latched := false } else s.chains := rfl
@[simp] theorem State.moveClaims_claims (s : State) (x : Claims) (b : Bool) : (s.moveClaims x b).claims = x := rfl
@[simp] theorem State.moveClaims_reports (s : State) (x : Claims) (b : Bool) : (s.moveClaims x b).reports = s.reports := rfl
@[simp] theorem State.moveClaims_thermal (s : State) (x : Claims) (b : Bool) : (s.moveClaims x b).thermal = s.thermal := rfl
@[simp] theorem State.moveClaims_picture (s : State) (x : Claims) (b : Bool) : (s.moveClaims x b).picture = s.picture := rfl
@[simp] theorem State.moveClaims_panel (s : State) (x : Claims) (b : Bool) : (s.moveClaims x b).panel = s.panel := rfl
@[simp] theorem State.moveClaims_system (s : State) (x : Claims) (b : Bool) : (s.moveClaims x b).system = s.system := rfl
@[simp] theorem State.moveClaims_counters (s : State) (x : Claims) (b : Bool) : (s.moveClaims x b).counters = s.counters := rfl
@[simp] theorem State.moveClaims_pending (s : State) (x : Claims) (b : Bool) : (s.moveClaims x b).pending = s.pending := rfl

@[simp] theorem State.clearCounters_now (s : State) : (s.clearCounters).now = s.now := rfl
@[simp] theorem State.clearCounters_grid (s : State) : (s.clearCounters).grid = s.grid := rfl
@[simp] theorem State.clearCounters_zones (s : State) : (s.clearCounters).zones = s.zones := rfl
@[simp] theorem State.clearCounters_request (s : State) : (s.clearCounters).request = s.request := rfl
@[simp] theorem State.clearCounters_windows (s : State) : (s.clearCounters).windows = s.windows := rfl
@[simp] theorem State.clearCounters_probe (s : State) : (s.clearCounters).probe = s.probe := rfl
@[simp] theorem State.clearCounters_pass (s : State) : (s.clearCounters).pass = s.pass := rfl
@[simp] theorem State.clearCounters_timebase (s : State) : (s.clearCounters).timebase = s.timebase := rfl
@[simp] theorem State.clearCounters_schedule (s : State) : (s.clearCounters).schedule = s.schedule := rfl
@[simp] theorem State.clearCounters_chains (s : State) : (s.clearCounters).chains = s.chains.map Chain.clearCounters := rfl
@[simp] theorem State.clearCounters_claims (s : State) : (s.clearCounters).claims = s.claims := rfl
@[simp] theorem State.clearCounters_reports (s : State) : (s.clearCounters).reports = s.reports := rfl
@[simp] theorem State.clearCounters_thermal (s : State) : (s.clearCounters).thermal = s.thermal := rfl
@[simp] theorem State.clearCounters_picture (s : State) : (s.clearCounters).picture = s.picture := rfl
@[simp] theorem State.clearCounters_panel (s : State) : (s.clearCounters).panel = s.panel := rfl
@[simp] theorem State.clearCounters_system (s : State) : (s.clearCounters).system = s.system := rfl
@[simp] theorem State.clearCounters_counters (s : State) : (s.clearCounters).counters = Counters.zero := rfl
@[simp] theorem State.clearCounters_pending (s : State) : (s.clearCounters).pending = s.pending := rfl

@[simp] theorem State.freeBuffer_now (s : State) (i : Nat) : (s.freeBuffer i).now = s.now := rfl
@[simp] theorem State.freeBuffer_grid (s : State) (i : Nat) : (s.freeBuffer i).grid = s.grid := rfl
@[simp] theorem State.freeBuffer_zones (s : State) (i : Nat) : (s.freeBuffer i).zones = s.zones := rfl
@[simp] theorem State.freeBuffer_request (s : State) (i : Nat) : (s.freeBuffer i).request = s.request := rfl
@[simp] theorem State.freeBuffer_windows (s : State) (i : Nat) : (s.freeBuffer i).windows = s.windows := rfl
@[simp] theorem State.freeBuffer_probe (s : State) (i : Nat) : (s.freeBuffer i).probe = s.probe := rfl
@[simp] theorem State.freeBuffer_pass (s : State) (i : Nat) : (s.freeBuffer i).pass = s.pass := rfl
@[simp] theorem State.freeBuffer_timebase (s : State) (i : Nat) : (s.freeBuffer i).timebase = s.timebase := rfl
@[simp] theorem State.freeBuffer_schedule (s : State) (i : Nat) : (s.freeBuffer i).schedule = s.schedule := rfl
@[simp] theorem State.freeBuffer_chains (s : State) (i : Nat) : (s.freeBuffer i).chains = s.chains := rfl
@[simp] theorem State.freeBuffer_claims (s : State) (i : Nat) : (s.freeBuffer i).claims = s.claims := rfl
@[simp] theorem State.freeBuffer_reports (s : State) (i : Nat) : (s.freeBuffer i).reports = { s.reports with buffers := s.reports.buffers.modify i SnapBuffer.free } := rfl
@[simp] theorem State.freeBuffer_thermal (s : State) (i : Nat) : (s.freeBuffer i).thermal = s.thermal := rfl
@[simp] theorem State.freeBuffer_picture (s : State) (i : Nat) : (s.freeBuffer i).picture = s.picture := rfl
@[simp] theorem State.freeBuffer_panel (s : State) (i : Nat) : (s.freeBuffer i).panel = s.panel := rfl
@[simp] theorem State.freeBuffer_system (s : State) (i : Nat) : (s.freeBuffer i).system = s.system := rfl
@[simp] theorem State.freeBuffer_counters (s : State) (i : Nat) : (s.freeBuffer i).counters = s.counters := rfl
@[simp] theorem State.freeBuffer_pending (s : State) (i : Nat) : (s.freeBuffer i).pending = s.pending := rfl

@[simp] theorem State.serve_now (s : State) (c : Nat) : (s.serve c).now = s.now := rfl
@[simp] theorem State.serve_grid (s : State) (c : Nat) : (s.serve c).grid = s.grid := rfl
@[simp] theorem State.serve_zones (s : State) (c : Nat) : (s.serve c).zones = s.zones := rfl
@[simp] theorem State.serve_request (s : State) (c : Nat) : (s.serve c).request = s.request := rfl
@[simp] theorem State.serve_windows (s : State) (c : Nat) : (s.serve c).windows = s.windows := rfl
@[simp] theorem State.serve_probe (s : State) (c : Nat) : (s.serve c).probe = s.probe := rfl
@[simp] theorem State.serve_pass (s : State) (c : Nat) : (s.serve c).pass = s.pass := rfl
@[simp] theorem State.serve_timebase (s : State) (c : Nat) : (s.serve c).timebase = s.timebase := rfl
@[simp] theorem State.serve_schedule (s : State) (c : Nat) : (s.serve c).schedule = s.schedule := rfl
@[simp] theorem State.serve_chains (s : State) (c : Nat) : (s.serve c).chains = s.chains.modify c fun ch => ch.serve s.now := rfl
@[simp] theorem State.serve_claims (s : State) (c : Nat) : (s.serve c).claims = s.claims := rfl
@[simp] theorem State.serve_reports (s : State) (c : Nat) : (s.serve c).reports = s.reports := rfl
@[simp] theorem State.serve_thermal (s : State) (c : Nat) : (s.serve c).thermal = s.thermal := rfl
@[simp] theorem State.serve_picture (s : State) (c : Nat) : (s.serve c).picture = s.picture := rfl
@[simp] theorem State.serve_panel (s : State) (c : Nat) : (s.serve c).panel = s.panel := rfl
@[simp] theorem State.serve_system (s : State) (c : Nat) : (s.serve c).system = s.system := rfl
@[simp] theorem State.serve_counters (s : State) (c : Nat) : (s.serve c).counters = s.counters := rfl
@[simp] theorem State.serve_pending (s : State) (c : Nat) : (s.serve c).pending = s.pending := rfl

@[simp] theorem State.serveAll_now (s : State) : (s.serveAll).now = s.now := rfl
@[simp] theorem State.serveAll_grid (s : State) : (s.serveAll).grid = s.grid := rfl
@[simp] theorem State.serveAll_zones (s : State) : (s.serveAll).zones = s.zones := rfl
@[simp] theorem State.serveAll_request (s : State) : (s.serveAll).request = s.request := rfl
@[simp] theorem State.serveAll_windows (s : State) : (s.serveAll).windows = s.windows := rfl
@[simp] theorem State.serveAll_probe (s : State) : (s.serveAll).probe = s.probe := rfl
@[simp] theorem State.serveAll_pass (s : State) : (s.serveAll).pass = s.pass := rfl
@[simp] theorem State.serveAll_timebase (s : State) : (s.serveAll).timebase = s.timebase := rfl
@[simp] theorem State.serveAll_schedule (s : State) : (s.serveAll).schedule = s.schedule := rfl
@[simp] theorem State.serveAll_chains (s : State) : (s.serveAll).chains = s.chains.map fun ch => ch.serve s.now := rfl
@[simp] theorem State.serveAll_claims (s : State) : (s.serveAll).claims = s.claims := rfl
@[simp] theorem State.serveAll_reports (s : State) : (s.serveAll).reports = s.reports := rfl
@[simp] theorem State.serveAll_thermal (s : State) : (s.serveAll).thermal = s.thermal := rfl
@[simp] theorem State.serveAll_picture (s : State) : (s.serveAll).picture = s.picture := rfl
@[simp] theorem State.serveAll_panel (s : State) : (s.serveAll).panel = s.panel := rfl
@[simp] theorem State.serveAll_system (s : State) : (s.serveAll).system = s.system := rfl
@[simp] theorem State.serveAll_counters (s : State) : (s.serveAll).counters = s.counters := rfl
@[simp] theorem State.serveAll_pending (s : State) : (s.serveAll).pending = s.pending := rfl

/-! ## Zones that return to service (R120, R137) -/

@[simp] theorem relight_channel (c : Nat) (z : Zone) : (relight c z).channel = z.channel := by
  unfold relight; split <;> [split <;> rfl; rfl]

@[simp] theorem relight_gain (c : Nat) (z : Zone) : (relight c z).gain = z.gain := by
  unfold relight; split <;> [split <;> rfl; rfl]

@[simp] theorem relight_override (c : Nat) (z : Zone) : (relight c z).override = z.override := by
  unfold relight; split <;> [split <;> rfl; rfl]

@[simp] theorem relight_fault (c : Nat) (z : Zone) : (relight c z).fault = z.fault := by
  unfold relight; split <;> [split <;> rfl; rfl]

@[simp] theorem relight_eased (c : Nat) (z : Zone) : (relight c z).eased = z.eased := by
  unfold relight; split <;> [split <;> rfl; rfl]

@[simp] theorem relight_shown (c : Nat) (z : Zone) : (relight c z).shown = z.shown := by
  unfold relight; split <;> [split <;> rfl; rfl]

/-- A zone mapped to the chain is to ease from 0, another as before. -/
theorem relight_relit (c : Nat) (z : Zone) :
    (relight c z).relit = true ↔ z.relit = true ∨ ∃ x, z.channel = some x ∧ x.chain = c := by
  unfold relight
  cases h : z.channel with
  | none => simp
  | some x => by_cases hx : x.chain = c <;> simp [hx]

@[simp] theorem Zone.beginPass_channel (z : Zone) : z.beginPass.channel = z.channel := rfl
@[simp] theorem Zone.beginPass_gain (z : Zone) : z.beginPass.gain = z.gain := rfl
@[simp] theorem Zone.beginPass_override (z : Zone) : z.beginPass.override = z.override := rfl
@[simp] theorem Zone.beginPass_fault (z : Zone) : z.beginPass.fault = z.fault := rfl
@[simp] theorem Zone.beginPass_shown (z : Zone) : z.beginPass.shown = z.shown := rfl
@[simp] theorem Zone.beginPass_eased (z : Zone) : z.beginPass.eased = if z.relit then 0 else z.eased := rfl
@[simp] theorem Zone.beginPass_relit (z : Zone) : z.beginPass.relit = false := rfl
@[simp] theorem Zone.clearFault_channel (z : Zone) : z.clearFault.channel = z.channel := rfl
@[simp] theorem Zone.clearFault_gain (z : Zone) : z.clearFault.gain = z.gain := rfl
@[simp] theorem Zone.clearFault_override (z : Zone) : z.clearFault.override = z.override := rfl
@[simp] theorem Zone.clearFault_eased (z : Zone) : z.clearFault.eased = z.eased := rfl
@[simp] theorem Zone.clearFault_shown (z : Zone) : z.clearFault.shown = z.shown := rfl
@[simp] theorem Zone.clearFault_fault (z : Zone) : z.clearFault.fault = .none := rfl

/-- A pass begins with the zones of a chain that has returned at an eased level of 0. -/
theorem Zone.beginPass_of_relit {z : Zone} (h : z.relit = true) : z.beginPass = { z with eased := 0, relit := false } := by
  simp [Zone.beginPass, h]

/-- Other zones keep their records as a pass begins. -/
theorem Zone.beginPass_of_not_relit {z : Zone} (h : z.relit = false) : z.beginPass = z := by
  cases z; subst h; rfl

end Sys2Proof.Machine
end

