-- ==== Sys2Proof/Laws/Frames.lean ====
section
/-! SUPPORT. For each shared operation, the fields of the state it leaves alone. -/

namespace Sys2Proof.Machine

theorem State.capture_frame (s : State) (c p : Nat) :
    ∃ r, (s.capture c p).1 = { s with reports := r } := by
  unfold State.capture
  split
  · exact ⟨s.reports, rfl⟩
  · exact ⟨_, rfl⟩

@[simp] theorem State.queueReport_frame (s : State) (es : List ReportEntry) :
    (s.queueReport es).now = s.now ∧
    (s.queueReport es).grid = s.grid ∧
    (s.queueReport es).zones = s.zones ∧
    (s.queueReport es).request = s.request ∧
    (s.queueReport es).windows = s.windows ∧
    (s.queueReport es).probe = s.probe ∧
    (s.queueReport es).pass = s.pass ∧
    (s.queueReport es).timebase = s.timebase ∧
    (s.queueReport es).schedule = s.schedule ∧
    (s.queueReport es).chains = s.chains ∧
    (s.queueReport es).claims = s.claims ∧
    (s.queueReport es).thermal = s.thermal ∧
    (s.queueReport es).picture = s.picture ∧
    (s.queueReport es).panel = s.panel ∧
    (s.queueReport es).system = s.system ∧
    (s.queueReport es).pending = s.pending := by
  unfold State.queueReport; split <;> simp

@[simp] theorem State.queueSnapReport_frame (s : State) (c p : Nat) (x : Option (Option SnapTag)) (es : List ReportEntry) :
    (s.queueSnapReport c p x es).1.now = s.now ∧
    (s.queueSnapReport c p x es).1.grid = s.grid ∧
    (s.queueSnapReport c p x es).1.zones = s.zones ∧
    (s.queueSnapReport c p x es).1.request = s.request ∧
    (s.queueSnapReport c p x es).1.windows = s.windows ∧
    (s.queueSnapReport c p x es).1.probe = s.probe ∧
    (s.queueSnapReport c p x es).1.pass = s.pass ∧
    (s.queueSnapReport c p x es).1.timebase = s.timebase ∧
    (s.queueSnapReport c p x es).1.schedule = s.schedule ∧
    (s.queueSnapReport c p x es).1.chains = s.chains ∧
    (s.queueSnapReport c p x es).1.claims = s.claims ∧
    (s.queueSnapReport c p x es).1.thermal = s.thermal ∧
    (s.queueSnapReport c p x es).1.picture = s.picture ∧
    (s.queueSnapReport c p x es).1.panel = s.panel ∧
    (s.queueSnapReport c p x es).1.system = s.system ∧
    (s.queueSnapReport c p x es).1.pending = s.pending := by
  unfold State.queueSnapReport
  split
  · split
    · simp
    · obtain ⟨r, h⟩ := s.capture_frame c p
      simp [h]
  · simp

@[simp] theorem State.fixDirect_frame (s : State) (c : Nat) (r : SysResult) (d : ResponseData) :
    (s.fixDirect c r d).now = s.now ∧
    (s.fixDirect c r d).grid = s.grid ∧
    (s.fixDirect c r d).zones = s.zones ∧
    (s.fixDirect c r d).request = s.request ∧
    (s.fixDirect c r d).windows = s.windows ∧
    (s.fixDirect c r d).probe = s.probe ∧
    (s.fixDirect c r d).pass = s.pass ∧
    (s.fixDirect c r d).timebase = s.timebase ∧
    (s.fixDirect c r d).schedule = s.schedule ∧
    (s.fixDirect c r d).chains = s.chains ∧
    (s.fixDirect c r d).claims = s.claims ∧
    (s.fixDirect c r d).reports = s.reports ∧
    (s.fixDirect c r d).thermal = s.thermal ∧
    (s.fixDirect c r d).picture = s.picture ∧
    (s.fixDirect c r d).panel = s.panel ∧
    (s.fixDirect c r d).counters = s.counters ∧
    (s.fixDirect c r d).pending = s.pending ∧
    (s.fixDirect c r d).system.part = s.system.part ∧
    (s.fixDirect c r d).system.pollInterval = s.system.pollInterval := by
  unfold State.fixDirect; split <;> simp

@[simp] theorem State.queueSection_frame (s : State) (b : LightSection) :
    (s.queueSection b).now = s.now ∧
    (s.queueSection b).grid = s.grid ∧
    (s.queueSection b).zones = s.zones ∧
    (s.queueSection b).request = s.request ∧
    (s.queueSection b).windows = s.windows ∧
    (s.queueSection b).probe = s.probe ∧
    (s.queueSection b).pass = s.pass ∧
    (s.queueSection b).timebase = s.timebase ∧
    (s.queueSection b).schedule = s.schedule ∧
    (s.queueSection b).chains = s.chains ∧
    (s.queueSection b).claims = s.claims ∧
    (s.queueSection b).reports = s.reports ∧
    (s.queueSection b).thermal = s.thermal ∧
    (s.queueSection b).picture = s.picture ∧
    (s.queueSection b).system = s.system ∧
    (s.queueSection b).pending = s.pending := by
  unfold State.queueSection; split <;> simp

@[simp] theorem State.placeNotice_frame (s : State) (n : WindowNotice) :
    (s.placeNotice n).now = s.now ∧
    (s.placeNotice n).grid = s.grid ∧
    (s.placeNotice n).zones = s.zones ∧
    (s.placeNotice n).request = s.request ∧
    (s.placeNotice n).windows = s.windows ∧
    (s.placeNotice n).probe = s.probe ∧
    (s.placeNotice n).pass = s.pass ∧
    (s.placeNotice n).timebase = s.timebase ∧
    (s.placeNotice n).schedule = s.schedule ∧
    (s.placeNotice n).chains = s.chains ∧
    (s.placeNotice n).claims = s.claims ∧
    (s.placeNotice n).reports = s.reports ∧
    (s.placeNotice n).thermal = s.thermal ∧
    (s.placeNotice n).picture = s.picture ∧
    (s.placeNotice n).system = s.system ∧
    (s.placeNotice n).counters = s.counters ∧
    (s.placeNotice n).pending = s.pending := by
  unfold State.placeNotice; split <;> simp

@[simp] theorem State.dropDirect_frame (s : State) (c : Nat) :
    (s.dropDirect c).now = s.now ∧
    (s.dropDirect c).grid = s.grid ∧
    (s.dropDirect c).zones = s.zones ∧
    (s.dropDirect c).request = s.request ∧
    (s.dropDirect c).windows = s.windows ∧
    (s.dropDirect c).probe = s.probe ∧
    (s.dropDirect c).pass = s.pass ∧
    (s.dropDirect c).timebase = s.timebase ∧
    (s.dropDirect c).schedule = s.schedule ∧
    (s.dropDirect c).chains = s.chains ∧
    (s.dropDirect c).claims = s.claims ∧
    (s.dropDirect c).reports = s.reports ∧
    (s.dropDirect c).thermal = s.thermal ∧
    (s.dropDirect c).picture = s.picture ∧
    (s.dropDirect c).panel = s.panel ∧
    (s.dropDirect c).counters = s.counters ∧
    (s.dropDirect c).pending = s.pending ∧
    (s.dropDirect c).system.part = s.system.part ∧
    (s.dropDirect c).system.pollInterval = s.system.pollInterval := by
  unfold State.dropDirect; split <;> simp

@[simp] theorem State.chainReport_frame (s : State) (c n : Nat) (e : ReportEvent) (r : RecoveryState) :
    (s.chainReport c n e r).now = s.now ∧
    (s.chainReport c n e r).grid = s.grid ∧
    (s.chainReport c n e r).zones = s.zones ∧
    (s.chainReport c n e r).request = s.request ∧
    (s.chainReport c n e r).windows = s.windows ∧
    (s.chainReport c n e r).probe = s.probe ∧
    (s.chainReport c n e r).pass = s.pass ∧
    (s.chainReport c n e r).timebase = s.timebase ∧
    (s.chainReport c n e r).schedule = s.schedule ∧
    (s.chainReport c n e r).chains = s.chains ∧
    (s.chainReport c n e r).claims = s.claims ∧
    (s.chainReport c n e r).thermal = s.thermal ∧
    (s.chainReport c n e r).picture = s.picture ∧
    (s.chainReport c n e r).panel = s.panel ∧
    (s.chainReport c n e r).system = s.system ∧
    (s.chainReport c n e r).pending = s.pending := by
  simp [State.chainReport]

@[simp] theorem State.enterFailed_frame (s : State) (c : Nat) (x : Cause) :
    (s.enterFailed c x).now = s.now ∧
    (s.enterFailed c x).grid = s.grid ∧
    (s.enterFailed c x).zones = s.zones ∧
    (s.enterFailed c x).request = s.request ∧
    (s.enterFailed c x).windows = s.windows ∧
    (s.enterFailed c x).probe = s.probe ∧
    (s.enterFailed c x).pass = s.pass ∧
    (s.enterFailed c x).timebase = s.timebase ∧
    (s.enterFailed c x).schedule = s.schedule ∧
    (s.enterFailed c x).claims = s.claims ∧
    (s.enterFailed c x).thermal = s.thermal ∧
    (s.enterFailed c x).picture = s.picture ∧
    (s.enterFailed c x).panel = s.panel ∧
    (s.enterFailed c x).system = s.system ∧
    (s.enterFailed c x).pending = s.pending := by
  simp [State.enterFailed]

@[simp] theorem State.recover_frame (s : State) (c : Nat) (x : Cause) :
    (s.recover c x).now = s.now ∧
    (s.recover c x).grid = s.grid ∧
    (s.recover c x).zones = s.zones ∧
    (s.recover c x).request = s.request ∧
    (s.recover c x).windows = s.windows ∧
    (s.recover c x).probe = s.probe ∧
    (s.recover c x).pass = s.pass ∧
    (s.recover c x).timebase = s.timebase ∧
    (s.recover c x).schedule = s.schedule ∧
    (s.recover c x).claims = s.claims ∧
    (s.recover c x).thermal = s.thermal ∧
    (s.recover c x).picture = s.picture ∧
    (s.recover c x).panel = s.panel ∧
    (s.recover c x).pending = s.pending ∧
    (s.recover c x).system.part = s.system.part ∧
    (s.recover c x).system.pollInterval = s.system.pollInterval := by
  unfold State.recover; dsimp only; split <;> simp

@[simp] theorem State.failAttempt_frame (s : State) (c : Nat) (x : Cause) :
    (s.failAttempt c x).now = s.now ∧
    (s.failAttempt c x).grid = s.grid ∧
    (s.failAttempt c x).zones = s.zones ∧
    (s.failAttempt c x).request = s.request ∧
    (s.failAttempt c x).windows = s.windows ∧
    (s.failAttempt c x).probe = s.probe ∧
    (s.failAttempt c x).pass = s.pass ∧
    (s.failAttempt c x).timebase = s.timebase ∧
    (s.failAttempt c x).schedule = s.schedule ∧
    (s.failAttempt c x).claims = s.claims ∧
    (s.failAttempt c x).thermal = s.thermal ∧
    (s.failAttempt c x).picture = s.picture ∧
    (s.failAttempt c x).panel = s.panel ∧
    (s.failAttempt c x).system = s.system ∧
    (s.failAttempt c x).pending = s.pending := by
  unfold State.failAttempt; dsimp only; split <;> simp

@[simp] theorem State.linkFailure_frame (s : State) (c : Nat) (x : Cause) :
    (s.linkFailure c x).now = s.now ∧
    (s.linkFailure c x).grid = s.grid ∧
    (s.linkFailure c x).zones = s.zones ∧
    (s.linkFailure c x).request = s.request ∧
    (s.linkFailure c x).windows = s.windows ∧
    (s.linkFailure c x).probe = s.probe ∧
    (s.linkFailure c x).pass = s.pass ∧
    (s.linkFailure c x).timebase = s.timebase ∧
    (s.linkFailure c x).schedule = s.schedule ∧
    (s.linkFailure c x).claims = s.claims ∧
    (s.linkFailure c x).thermal = s.thermal ∧
    (s.linkFailure c x).picture = s.picture ∧
    (s.linkFailure c x).panel = s.panel ∧
    (s.linkFailure c x).pending = s.pending ∧
    (s.linkFailure c x).system.part = s.system.part ∧
    (s.linkFailure c x).system.pollInterval = s.system.pollInterval := by
  unfold State.linkFailure; split; · simp
  split <;> simp

@[simp] theorem State.compareDrivers_frame (s : State) (c n : Nat) :
    (s.compareDrivers c n).now = s.now ∧
    (s.compareDrivers c n).grid = s.grid ∧
    (s.compareDrivers c n).request = s.request ∧
    (s.compareDrivers c n).windows = s.windows ∧
    (s.compareDrivers c n).probe = s.probe ∧
    (s.compareDrivers c n).pass = s.pass ∧
    (s.compareDrivers c n).timebase = s.timebase ∧
    (s.compareDrivers c n).schedule = s.schedule ∧
    (s.compareDrivers c n).chains = s.chains ∧
    (s.compareDrivers c n).claims = s.claims ∧
    (s.compareDrivers c n).thermal = s.thermal ∧
    (s.compareDrivers c n).picture = s.picture ∧
    (s.compareDrivers c n).panel = s.panel ∧
    (s.compareDrivers c n).system = s.system ∧
    (s.compareDrivers c n).pending = s.pending := by
  unfold State.compareDrivers; dsimp only; split; · simp
  split <;> simp

@[simp] theorem State.succeed_frame (s : State) (c n : Nat) :
    (s.succeed c n).now = s.now ∧
    (s.succeed c n).grid = s.grid ∧
    (s.succeed c n).request = s.request ∧
    (s.succeed c n).windows = s.windows ∧
    (s.succeed c n).probe = s.probe ∧
    (s.succeed c n).pass = s.pass ∧
    (s.succeed c n).timebase = s.timebase ∧
    (s.succeed c n).schedule = s.schedule ∧
    (s.succeed c n).claims = s.claims ∧
    (s.succeed c n).thermal = s.thermal ∧
    (s.succeed c n).picture = s.picture ∧
    (s.succeed c n).panel = s.panel ∧
    (s.succeed c n).system = s.system ∧
    (s.succeed c n).pending = s.pending := by
  unfold State.succeed; dsimp only; split <;> simp

/-- The zones of a chain that enters RUNNING are to ease from 0 (R120). -/
@[simp] theorem State.succeed_zones (s : State) (c n : Nat) :
    (s.succeed c n).zones = (s.compareDrivers c n).zones.map (relight c) := by
  unfold State.succeed; dsimp only; split <;> simp

@[simp] theorem State.continueAttempt_frame (s : State) (c n a : Nat) :
    (s.continueAttempt c n a).now = s.now ∧
    (s.continueAttempt c n a).grid = s.grid ∧
    (s.continueAttempt c n a).request = s.request ∧
    (s.continueAttempt c n a).windows = s.windows ∧
    (s.continueAttempt c n a).probe = s.probe ∧
    (s.continueAttempt c n a).pass = s.pass ∧
    (s.continueAttempt c n a).timebase = s.timebase ∧
    (s.continueAttempt c n a).schedule = s.schedule ∧
    (s.continueAttempt c n a).claims = s.claims ∧
    (s.continueAttempt c n a).thermal = s.thermal ∧
    (s.continueAttempt c n a).picture = s.picture ∧
    (s.continueAttempt c n a).panel = s.panel ∧
    (s.continueAttempt c n a).system = s.system ∧
    (s.continueAttempt c n a).pending = s.pending := by
  unfold State.continueAttempt; split <;> simp

@[simp] theorem State.reportFaults_frame (s : State) (c p : Nat) (x : Option (Option SnapTag)) (l : List (Nat × ZoneFault)) :
    (s.reportFaults c p x l).now = s.now ∧
    (s.reportFaults c p x l).grid = s.grid ∧
    (s.reportFaults c p x l).zones = s.zones ∧
    (s.reportFaults c p x l).request = s.request ∧
    (s.reportFaults c p x l).windows = s.windows ∧
    (s.reportFaults c p x l).probe = s.probe ∧
    (s.reportFaults c p x l).pass = s.pass ∧
    (s.reportFaults c p x l).timebase = s.timebase ∧
    (s.reportFaults c p x l).schedule = s.schedule ∧
    (s.reportFaults c p x l).chains = s.chains ∧
    (s.reportFaults c p x l).claims = s.claims ∧
    (s.reportFaults c p x l).thermal = s.thermal ∧
    (s.reportFaults c p x l).picture = s.picture ∧
    (s.reportFaults c p x l).panel = s.panel ∧
    (s.reportFaults c p x l).system = s.system ∧
    (s.reportFaults c p x l).pending = s.pending := by
  match l with
  | [] => simp [State.reportFaults]
  | [y] => simp [State.reportFaults]
  | y :: z :: rest =>
    have ih := (s.queueSnapReport c p x [s.entry (.driver c p) .channelFault .active, s.zoneEntry y,
      s.zoneEntry z]).1.reportFaults_frame c p (s.queueSnapReport c p x [s.entry (.driver c p) .channelFault .active,
        s.zoneEntry y, s.zoneEntry z]).2 rest
    simp [State.reportFaults, ih]

@[simp] theorem State.compareHot_frame (s : State) (c p : Nat) (b : Bool) :
    (s.compareHot c p b).now = s.now ∧
    (s.compareHot c p b).grid = s.grid ∧
    (s.compareHot c p b).zones = s.zones ∧
    (s.compareHot c p b).request = s.request ∧
    (s.compareHot c p b).windows = s.windows ∧
    (s.compareHot c p b).probe = s.probe ∧
    (s.compareHot c p b).pass = s.pass ∧
    (s.compareHot c p b).timebase = s.timebase ∧
    (s.compareHot c p b).schedule = s.schedule ∧
    (s.compareHot c p b).claims = s.claims ∧
    (s.compareHot c p b).thermal = s.thermal ∧
    (s.compareHot c p b).picture = s.picture ∧
    (s.compareHot c p b).panel = s.panel ∧
    (s.compareHot c p b).system = s.system ∧
    (s.compareHot c p b).pending = s.pending := by
  unfold State.compareHot; split <;> simp

@[simp] theorem State.compareSupply_frame (s : State) (c p : Nat) (b : Bool) :
    (s.compareSupply c p b).now = s.now ∧
    (s.compareSupply c p b).grid = s.grid ∧
    (s.compareSupply c p b).zones = s.zones ∧
    (s.compareSupply c p b).request = s.request ∧
    (s.compareSupply c p b).windows = s.windows ∧
    (s.compareSupply c p b).probe = s.probe ∧
    (s.compareSupply c p b).pass = s.pass ∧
    (s.compareSupply c p b).timebase = s.timebase ∧
    (s.compareSupply c p b).schedule = s.schedule ∧
    (s.compareSupply c p b).claims = s.claims ∧
    (s.compareSupply c p b).thermal = s.thermal ∧
    (s.compareSupply c p b).picture = s.picture ∧
    (s.compareSupply c p b).panel = s.panel ∧
    (s.compareSupply c p b).system = s.system ∧
    (s.compareSupply c p b).pending = s.pending := by
  unfold State.compareSupply; split <;> simp

@[simp] theorem State.statusCheck_frame (s : State) (c p : Nat) :
    (s.statusCheck c p).now = s.now ∧
    (s.statusCheck c p).grid = s.grid ∧
    (s.statusCheck c p).zones = s.zones ∧
    (s.statusCheck c p).request = s.request ∧
    (s.statusCheck c p).windows = s.windows ∧
    (s.statusCheck c p).probe = s.probe ∧
    (s.statusCheck c p).pass = s.pass ∧
    (s.statusCheck c p).timebase = s.timebase ∧
    (s.statusCheck c p).schedule = s.schedule ∧
    (s.statusCheck c p).claims = s.claims ∧
    (s.statusCheck c p).thermal = s.thermal ∧
    (s.statusCheck c p).picture = s.picture ∧
    (s.statusCheck c p).panel = s.panel ∧
    (s.statusCheck c p).system = s.system ∧
    (s.statusCheck c p).pending = s.pending := by
  simp [State.statusCheck]

@[simp] theorem State.interpret_frame (s : State) (c p : Nat) (r : PollReply) :
    (s.interpret c p r).now = s.now ∧
    (s.interpret c p r).grid = s.grid ∧
    (s.interpret c p r).request = s.request ∧
    (s.interpret c p r).windows = s.windows ∧
    (s.interpret c p r).probe = s.probe ∧
    (s.interpret c p r).pass = s.pass ∧
    (s.interpret c p r).timebase = s.timebase ∧
    (s.interpret c p r).schedule = s.schedule ∧
    (s.interpret c p r).claims = s.claims ∧
    (s.interpret c p r).thermal = s.thermal ∧
    (s.interpret c p r).picture = s.picture ∧
    (s.interpret c p r).panel = s.panel ∧
    (s.interpret c p r).system = s.system ∧
    (s.interpret c p r).pending = s.pending := by
  simp [State.interpret]

@[simp] theorem State.takeReply_frame (s : State) (c p : Nat) (r : PollReply) :
    (s.takeReply c p r).now = s.now ∧
    (s.takeReply c p r).grid = s.grid ∧
    (s.takeReply c p r).request = s.request ∧
    (s.takeReply c p r).windows = s.windows ∧
    (s.takeReply c p r).probe = s.probe ∧
    (s.takeReply c p r).pass = s.pass ∧
    (s.takeReply c p r).timebase = s.timebase ∧
    (s.takeReply c p r).schedule = s.schedule ∧
    (s.takeReply c p r).claims = s.claims ∧
    (s.takeReply c p r).thermal = s.thermal ∧
    (s.takeReply c p r).picture = s.picture ∧
    (s.takeReply c p r).panel = s.panel ∧
    (s.takeReply c p r).system = s.system ∧
    (s.takeReply c p r).pending = s.pending := by
  unfold State.takeReply; dsimp only; split <;> simp

@[simp] theorem State.giveUp_frame (s : State) (c : Nat) (x : Sent) :
    (s.giveUp c x).now = s.now ∧
    (s.giveUp c x).grid = s.grid ∧
    (s.giveUp c x).zones = s.zones ∧
    (s.giveUp c x).request = s.request ∧
    (s.giveUp c x).windows = s.windows ∧
    (s.giveUp c x).probe = s.probe ∧
    (s.giveUp c x).pass = s.pass ∧
    (s.giveUp c x).timebase = s.timebase ∧
    (s.giveUp c x).schedule = s.schedule ∧
    (s.giveUp c x).claims = s.claims ∧
    (s.giveUp c x).thermal = s.thermal ∧
    (s.giveUp c x).picture = s.picture ∧
    (s.giveUp c x).panel = s.panel ∧
    (s.giveUp c x).pending = s.pending ∧
    (s.giveUp c x).system.part = s.system.part ∧
    (s.giveUp c x).system.pollInterval = s.system.pollInterval := by
  cases x <;> simp [State.giveUp]

@[simp] theorem State.echoDamaged_frame (s : State) (c : Nat) (f : InFlight) :
    (s.echoDamaged c f).now = s.now ∧
    (s.echoDamaged c f).grid = s.grid ∧
    (s.echoDamaged c f).zones = s.zones ∧
    (s.echoDamaged c f).request = s.request ∧
    (s.echoDamaged c f).windows = s.windows ∧
    (s.echoDamaged c f).probe = s.probe ∧
    (s.echoDamaged c f).pass = s.pass ∧
    (s.echoDamaged c f).timebase = s.timebase ∧
    (s.echoDamaged c f).schedule = s.schedule ∧
    (s.echoDamaged c f).claims = s.claims ∧
    (s.echoDamaged c f).thermal = s.thermal ∧
    (s.echoDamaged c f).picture = s.picture ∧
    (s.echoDamaged c f).panel = s.panel ∧
    (s.echoDamaged c f).pending = s.pending ∧
    (s.echoDamaged c f).system.part = s.system.part ∧
    (s.echoDamaged c f).system.pollInterval = s.system.pollInterval := by
  unfold State.echoDamaged; dsimp only; split <;> simp

@[simp] theorem State.acceptLatch_frame (s : State) (c : Nat) (m : BitVec 8) (n : Nat) :
    (s.acceptLatch c m n).now = s.now ∧
    (s.acceptLatch c m n).grid = s.grid ∧
    (s.acceptLatch c m n).zones = s.zones ∧
    (s.acceptLatch c m n).request = s.request ∧
    (s.acceptLatch c m n).windows = s.windows ∧
    (s.acceptLatch c m n).probe = s.probe ∧
    (s.acceptLatch c m n).pass = s.pass ∧
    (s.acceptLatch c m n).timebase = s.timebase ∧
    (s.acceptLatch c m n).schedule = s.schedule ∧
    (s.acceptLatch c m n).claims = s.claims ∧
    (s.acceptLatch c m n).thermal = s.thermal ∧
    (s.acceptLatch c m n).picture = s.picture ∧
    (s.acceptLatch c m n).panel = s.panel ∧
    (s.acceptLatch c m n).system = s.system ∧
    (s.acceptLatch c m n).pending = s.pending := by
  unfold State.acceptLatch; dsimp only; split <;> simp

@[simp] theorem State.acceptClear_frame (s : State) (c n : Nat) :
    (s.acceptClear c n).now = s.now ∧
    (s.acceptClear c n).grid = s.grid ∧
    (s.acceptClear c n).request = s.request ∧
    (s.acceptClear c n).windows = s.windows ∧
    (s.acceptClear c n).probe = s.probe ∧
    (s.acceptClear c n).pass = s.pass ∧
    (s.acceptClear c n).timebase = s.timebase ∧
    (s.acceptClear c n).schedule = s.schedule ∧
    (s.acceptClear c n).claims = s.claims ∧
    (s.acceptClear c n).thermal = s.thermal ∧
    (s.acceptClear c n).picture = s.picture ∧
    (s.acceptClear c n).panel = s.panel ∧
    (s.acceptClear c n).system = s.system ∧
    (s.acceptClear c n).pending = s.pending := by
  simp [State.acceptClear]

@[simp] theorem State.acceptAssign_frame (s : State) (c a : Nat) (g : Option Nat) (b : Bool) :
    (s.acceptAssign c a g b).now = s.now ∧
    (s.acceptAssign c a g b).grid = s.grid ∧
    (s.acceptAssign c a g b).request = s.request ∧
    (s.acceptAssign c a g b).windows = s.windows ∧
    (s.acceptAssign c a g b).probe = s.probe ∧
    (s.acceptAssign c a g b).pass = s.pass ∧
    (s.acceptAssign c a g b).timebase = s.timebase ∧
    (s.acceptAssign c a g b).schedule = s.schedule ∧
    (s.acceptAssign c a g b).claims = s.claims ∧
    (s.acceptAssign c a g b).thermal = s.thermal ∧
    (s.acceptAssign c a g b).picture = s.picture ∧
    (s.acceptAssign c a g b).panel = s.panel ∧
    (s.acceptAssign c a g b).system = s.system ∧
    (s.acceptAssign c a g b).pending = s.pending := by
  unfold State.acceptAssign; split; · split <;> simp
  simp

@[simp] theorem State.acceptReply_frame (s : State) (c : Nat) (x : Sent) (r : Reply) :
    (s.acceptReply c x r).now = s.now ∧
    (s.acceptReply c x r).grid = s.grid ∧
    (s.acceptReply c x r).request = s.request ∧
    (s.acceptReply c x r).windows = s.windows ∧
    (s.acceptReply c x r).probe = s.probe ∧
    (s.acceptReply c x r).pass = s.pass ∧
    (s.acceptReply c x r).timebase = s.timebase ∧
    (s.acceptReply c x r).schedule = s.schedule ∧
    (s.acceptReply c x r).claims = s.claims ∧
    (s.acceptReply c x r).thermal = s.thermal ∧
    (s.acceptReply c x r).picture = s.picture ∧
    (s.acceptReply c x r).panel = s.panel ∧
    (s.acceptReply c x r).pending = s.pending ∧
    (s.acceptReply c x r).system.part = s.system.part ∧
    (s.acceptReply c x r).system.pollInterval = s.system.pollInterval := by
  unfold State.acceptReply; split <;> first | simp | (split <;> simp)

@[simp] theorem State.echoAccepted_frame (s : State) (c : Nat) (f : InFlight) (r : Reply) :
    (s.echoAccepted c f r).now = s.now ∧
    (s.echoAccepted c f r).grid = s.grid ∧
    (s.echoAccepted c f r).request = s.request ∧
    (s.echoAccepted c f r).windows = s.windows ∧
    (s.echoAccepted c f r).probe = s.probe ∧
    (s.echoAccepted c f r).pass = s.pass ∧
    (s.echoAccepted c f r).timebase = s.timebase ∧
    (s.echoAccepted c f r).schedule = s.schedule ∧
    (s.echoAccepted c f r).claims = s.claims ∧
    (s.echoAccepted c f r).thermal = s.thermal ∧
    (s.echoAccepted c f r).picture = s.picture ∧
    (s.echoAccepted c f r).panel = s.panel ∧
    (s.echoAccepted c f r).pending = s.pending ∧
    (s.echoAccepted c f r).system.part = s.system.part ∧
    (s.echoAccepted c f r).system.pollInterval = s.system.pollInterval := by
  simp [State.echoAccepted]

@[simp] theorem State.checkEcho_frame (s : State) (c : Nat) (bits : List Bool) :
    (s.checkEcho c bits).now = s.now ∧
    (s.checkEcho c bits).grid = s.grid ∧
    (s.checkEcho c bits).request = s.request ∧
    (s.checkEcho c bits).windows = s.windows ∧
    (s.checkEcho c bits).probe = s.probe ∧
    (s.checkEcho c bits).pass = s.pass ∧
    (s.checkEcho c bits).timebase = s.timebase ∧
    (s.checkEcho c bits).schedule = s.schedule ∧
    (s.checkEcho c bits).claims = s.claims ∧
    (s.checkEcho c bits).thermal = s.thermal ∧
    (s.checkEcho c bits).picture = s.picture ∧
    (s.checkEcho c bits).panel = s.panel ∧
    (s.checkEcho c bits).pending = s.pending ∧
    (s.checkEcho c bits).system.part = s.system.part ∧
    (s.checkEcho c bits).system.pollInterval = s.system.pollInterval := by
  unfold State.checkEcho; split; · simp
  split <;> simp

@[simp] theorem State.commitGroup_frame (s : State) (k : Nat) :
    (s.commitGroup k).now = s.now ∧
    (s.commitGroup k).grid = s.grid ∧
    (s.commitGroup k).request = s.request ∧
    (s.commitGroup k).windows = s.windows ∧
    (s.commitGroup k).probe = s.probe ∧
    (s.commitGroup k).pass = s.pass ∧
    (s.commitGroup k).timebase = s.timebase ∧
    (s.commitGroup k).claims = s.claims ∧
    (s.commitGroup k).reports = s.reports ∧
    (s.commitGroup k).thermal = s.thermal ∧
    (s.commitGroup k).picture = s.picture ∧
    (s.commitGroup k).system = s.system ∧
    (s.commitGroup k).pending = s.pending := by
  simp [State.commitGroup]

@[simp] theorem State.commitGroups_frame (s : State) (ks : List Nat) :
    (s.commitGroups ks).now = s.now ∧
    (s.commitGroups ks).grid = s.grid ∧
    (s.commitGroups ks).request = s.request ∧
    (s.commitGroups ks).windows = s.windows ∧
    (s.commitGroups ks).probe = s.probe ∧
    (s.commitGroups ks).pass = s.pass ∧
    (s.commitGroups ks).timebase = s.timebase ∧
    (s.commitGroups ks).claims = s.claims ∧
    (s.commitGroups ks).reports = s.reports ∧
    (s.commitGroups ks).thermal = s.thermal ∧
    (s.commitGroups ks).picture = s.picture ∧
    (s.commitGroups ks).system = s.system ∧
    (s.commitGroups ks).pending = s.pending := by
  unfold State.commitGroups; induction ks generalizing s with
  | nil => simp
  | cons k ks ih => simp [ih]

@[simp] theorem State.latchAt_frame (s : State) (t : Nat) :
    (s.latchAt t).now = s.now ∧
    (s.latchAt t).grid = s.grid ∧
    (s.latchAt t).zones = s.zones ∧
    (s.latchAt t).request = s.request ∧
    (s.latchAt t).windows = s.windows ∧
    (s.latchAt t).probe = s.probe ∧
    (s.latchAt t).pass = s.pass ∧
    (s.latchAt t).timebase = s.timebase ∧
    (s.latchAt t).claims = s.claims ∧
    (s.latchAt t).reports = s.reports ∧
    (s.latchAt t).thermal = s.thermal ∧
    (s.latchAt t).picture = s.picture ∧
    (s.latchAt t).panel = s.panel ∧
    (s.latchAt t).system = s.system ∧
    (s.latchAt t).counters = s.counters ∧
    (s.latchAt t).pending = s.pending := by
  simp [State.latchAt]

@[simp] theorem State.closeFrame_frame (s : State) :
    (s.closeFrame).now = s.now ∧
    (s.closeFrame).grid = s.grid ∧
    (s.closeFrame).zones = s.zones ∧
    (s.closeFrame).request = s.request ∧
    (s.closeFrame).windows = s.windows ∧
    (s.closeFrame).probe = s.probe ∧
    (s.closeFrame).pass = s.pass ∧
    (s.closeFrame).timebase = s.timebase ∧
    (s.closeFrame).claims = s.claims ∧
    (s.closeFrame).reports = s.reports ∧
    (s.closeFrame).thermal = s.thermal ∧
    (s.closeFrame).picture = s.picture ∧
    (s.closeFrame).panel = s.panel ∧
    (s.closeFrame).system = s.system ∧
    (s.closeFrame).counters = s.counters ∧
    (s.closeFrame).pending = s.pending := by
  simp [State.closeFrame]

@[simp] theorem State.moveHold_frame (s : State) :
    (s.moveHold).now = s.now ∧
    (s.moveHold).grid = s.grid ∧
    (s.moveHold).zones = s.zones ∧
    (s.moveHold).request = s.request ∧
    (s.moveHold).windows = s.windows ∧
    (s.moveHold).probe = s.probe ∧
    (s.moveHold).pass = s.pass ∧
    (s.moveHold).timebase = s.timebase ∧
    (s.moveHold).chains = s.chains ∧
    (s.moveHold).claims = s.claims ∧
    (s.moveHold).thermal = s.thermal ∧
    (s.moveHold).picture = s.picture ∧
    (s.moveHold).system = s.system ∧
    (s.moveHold).pending = s.pending := by
  unfold State.moveHold; dsimp only; split <;> simp

@[simp] theorem State.slewAll_frame (s : State) :
    (s.slewAll).now = s.now ∧
    (s.slewAll).grid = s.grid ∧
    (s.slewAll).zones = s.zones ∧
    (s.slewAll).request = s.request ∧
    (s.slewAll).windows = s.windows ∧
    (s.slewAll).probe = s.probe ∧
    (s.slewAll).pass = s.pass ∧
    (s.slewAll).timebase = s.timebase ∧
    (s.slewAll).schedule = s.schedule ∧
    (s.slewAll).claims = s.claims ∧
    (s.slewAll).reports = s.reports ∧
    (s.slewAll).thermal = s.thermal ∧
    (s.slewAll).picture = s.picture ∧
    (s.slewAll).panel = s.panel ∧
    (s.slewAll).system = s.system ∧
    (s.slewAll).counters = s.counters ∧
    (s.slewAll).pending = s.pending := by
  unfold State.slewAll; split <;> simp

@[simp] theorem State.overrun_frame (s : State) :
    (s.overrun).now = s.now ∧
    (s.overrun).grid = s.grid ∧
    (s.overrun).zones = s.zones ∧
    (s.overrun).request = s.request ∧
    (s.overrun).windows = s.windows ∧
    (s.overrun).probe = s.probe ∧
    (s.overrun).timebase = s.timebase ∧
    (s.overrun).schedule = s.schedule ∧
    (s.overrun).chains = s.chains ∧
    (s.overrun).claims = s.claims ∧
    (s.overrun).thermal = s.thermal ∧
    (s.overrun).picture = s.picture ∧
    (s.overrun).panel = s.panel ∧
    (s.overrun).system = s.system ∧
    (s.overrun).pending = s.pending := by
  unfold State.overrun; split <;> simp

@[simp] theorem State.clearFrame_frame (s : State) :
    (s.clearFrame).now = s.now ∧
    (s.clearFrame).grid = s.grid ∧
    (s.clearFrame).zones = s.zones ∧
    (s.clearFrame).request = s.request ∧
    (s.clearFrame).windows = s.windows ∧
    (s.clearFrame).probe = s.probe ∧
    (s.clearFrame).timebase = s.timebase ∧
    (s.clearFrame).schedule = s.schedule ∧
    (s.clearFrame).claims = s.claims ∧
    (s.clearFrame).reports = s.reports ∧
    (s.clearFrame).thermal = s.thermal ∧
    (s.clearFrame).picture = s.picture ∧
    (s.clearFrame).panel = s.panel ∧
    (s.clearFrame).system = s.system ∧
    (s.clearFrame).counters = s.counters ∧
    (s.clearFrame).pending = s.pending := by
  simp [State.clearFrame]

@[simp] theorem State.endPeriod_frame (s : State) (c : Nat) :
    (s.endPeriod c).now = s.now ∧
    (s.endPeriod c).grid = s.grid ∧
    (s.endPeriod c).zones = s.zones ∧
    (s.endPeriod c).request = s.request ∧
    (s.endPeriod c).windows = s.windows ∧
    (s.endPeriod c).probe = s.probe ∧
    (s.endPeriod c).pass = s.pass ∧
    (s.endPeriod c).timebase = s.timebase ∧
    (s.endPeriod c).schedule = s.schedule ∧
    (s.endPeriod c).claims = s.claims ∧
    (s.endPeriod c).thermal = s.thermal ∧
    (s.endPeriod c).picture = s.picture ∧
    (s.endPeriod c).panel = s.panel ∧
    (s.endPeriod c).pending = s.pending ∧
    (s.endPeriod c).system.part = s.system.part ∧
    (s.endPeriod c).system.pollInterval = s.system.pollInterval := by
  unfold State.endPeriod; dsimp only; split; · simp
  split <;> simp

@[simp] theorem State.endPeriods_frame (s : State) :
    (s.endPeriods).now = s.now ∧
    (s.endPeriods).grid = s.grid ∧
    (s.endPeriods).zones = s.zones ∧
    (s.endPeriods).request = s.request ∧
    (s.endPeriods).windows = s.windows ∧
    (s.endPeriods).probe = s.probe ∧
    (s.endPeriods).pass = s.pass ∧
    (s.endPeriods).timebase = s.timebase ∧
    (s.endPeriods).schedule = s.schedule ∧
    (s.endPeriods).claims = s.claims ∧
    (s.endPeriods).thermal = s.thermal ∧
    (s.endPeriods).picture = s.picture ∧
    (s.endPeriods).panel = s.panel ∧
    (s.endPeriods).pending = s.pending ∧
    (s.endPeriods).system.part = s.system.part ∧
    (s.endPeriods).system.pollInterval = s.system.pollInterval := by
  simp [State.endPeriods, List.range_succ]

@[simp] theorem State.enterService_frame (s : State) :
    (s.enterService).now = s.now ∧
    (s.enterService).grid = s.grid ∧
    (s.enterService).zones = s.zones ∧
    (s.enterService).request = s.request ∧
    (s.enterService).windows = s.windows ∧
    (s.enterService).probe = s.probe ∧
    (s.enterService).timebase = s.timebase ∧
    (s.enterService).schedule = s.schedule ∧
    (s.enterService).chains = s.chains ∧
    (s.enterService).claims = s.claims ∧
    (s.enterService).reports = s.reports ∧
    (s.enterService).thermal = s.thermal ∧
    (s.enterService).picture = s.picture ∧
    (s.enterService).panel = s.panel ∧
    (s.enterService).counters = s.counters ∧
    (s.enterService).pending = s.pending := by
  unfold State.enterService; split <;> simp

@[simp] theorem State.takeSlot_frame (s : State) :
    (s.takeSlot).now = s.now ∧
    (s.takeSlot).grid = s.grid ∧
    (s.takeSlot).zones = s.zones ∧
    (s.takeSlot).windows = s.windows ∧
    (s.takeSlot).probe = s.probe ∧
    (s.takeSlot).pass = s.pass ∧
    (s.takeSlot).timebase = s.timebase ∧
    (s.takeSlot).schedule = s.schedule ∧
    (s.takeSlot).chains = s.chains ∧
    (s.takeSlot).claims = s.claims ∧
    (s.takeSlot).reports = s.reports ∧
    (s.takeSlot).thermal = s.thermal ∧
    (s.takeSlot).picture = s.picture ∧
    (s.takeSlot).panel = s.panel ∧
    (s.takeSlot).system = s.system ∧
    (s.takeSlot).pending = s.pending := by
  unfold State.takeSlot; split <;> simp

@[simp] theorem State.beginPass_frame (s : State) :
    (s.beginPass).now = s.now ∧
    (s.beginPass).grid = s.grid ∧
    (s.beginPass).probe = s.probe ∧
    (s.beginPass).timebase = s.timebase ∧
    (s.beginPass).claims = s.claims ∧
    (s.beginPass).reports = s.reports ∧
    (s.beginPass).thermal = s.thermal ∧
    (s.beginPass).picture = s.picture ∧
    (s.beginPass).system = s.system ∧
    (s.beginPass).pending = s.pending := by
  simp [State.beginPass]

@[simp] theorem State.maybePass_frame (s : State) :
    (s.maybePass).now = s.now ∧
    (s.maybePass).grid = s.grid ∧
    (s.maybePass).probe = s.probe ∧
    (s.maybePass).timebase = s.timebase ∧
    (s.maybePass).claims = s.claims ∧
    (s.maybePass).reports = s.reports ∧
    (s.maybePass).thermal = s.thermal ∧
    (s.maybePass).picture = s.picture ∧
    (s.maybePass).system = s.system ∧
    (s.maybePass).pending = s.pending := by
  unfold State.maybePass; split <;> simp

@[simp] theorem State.deliverFrame_frame (s : State) :
    (s.deliverFrame).now = s.now ∧
    (s.deliverFrame).grid = s.grid ∧
    (s.deliverFrame).probe = s.probe ∧
    (s.deliverFrame).timebase = s.timebase ∧
    (s.deliverFrame).claims = s.claims ∧
    (s.deliverFrame).thermal = s.thermal ∧
    (s.deliverFrame).picture = s.picture ∧
    (s.deliverFrame).pending = s.pending := by
  simp [State.deliverFrame]

@[simp] theorem State.frameStart_frame (s : State) :
    (s.frameStart).now = s.now ∧
    (s.frameStart).grid = s.grid ∧
    (s.frameStart).probe = s.probe ∧
    (s.frameStart).claims = s.claims ∧
    (s.frameStart).thermal = s.thermal ∧
    (s.frameStart).picture = s.picture ∧
    (s.frameStart).pending = s.pending := by
  simp [State.frameStart]

@[simp] theorem State.edgeFrame_frame (s : State) :
    (s.edgeFrame).now = s.now ∧
    (s.edgeFrame).grid = s.grid ∧
    (s.edgeFrame).probe = s.probe ∧
    (s.edgeFrame).claims = s.claims ∧
    (s.edgeFrame).thermal = s.thermal ∧
    (s.edgeFrame).picture = s.picture ∧
    (s.edgeFrame).pending = s.pending := by
  unfold State.edgeFrame; split <;> simp

@[simp] theorem State.timebaseReport_frame (s : State) (e : ReportEvent) (r : RecoveryState) :
    (s.timebaseReport e r).now = s.now ∧
    (s.timebaseReport e r).grid = s.grid ∧
    (s.timebaseReport e r).zones = s.zones ∧
    (s.timebaseReport e r).request = s.request ∧
    (s.timebaseReport e r).windows = s.windows ∧
    (s.timebaseReport e r).probe = s.probe ∧
    (s.timebaseReport e r).pass = s.pass ∧
    (s.timebaseReport e r).timebase = s.timebase ∧
    (s.timebaseReport e r).schedule = s.schedule ∧
    (s.timebaseReport e r).chains = s.chains ∧
    (s.timebaseReport e r).claims = s.claims ∧
    (s.timebaseReport e r).thermal = s.thermal ∧
    (s.timebaseReport e r).picture = s.picture ∧
    (s.timebaseReport e r).panel = s.panel ∧
    (s.timebaseReport e r).system = s.system ∧
    (s.timebaseReport e r).pending = s.pending := by
  simp [State.timebaseReport]

@[simp] theorem State.acquireEdge_frame (s : State) :
    (s.acquireEdge).now = s.now ∧
    (s.acquireEdge).grid = s.grid ∧
    (s.acquireEdge).probe = s.probe ∧
    (s.acquireEdge).claims = s.claims ∧
    (s.acquireEdge).thermal = s.thermal ∧
    (s.acquireEdge).picture = s.picture ∧
    (s.acquireEdge).pending = s.pending := by
  unfold State.acquireEdge; split; · simp
  split <;> simp

@[simp] theorem State.lockedEdge_frame (s : State) :
    (s.lockedEdge).now = s.now ∧
    (s.lockedEdge).grid = s.grid ∧
    (s.lockedEdge).probe = s.probe ∧
    (s.lockedEdge).claims = s.claims ∧
    (s.lockedEdge).thermal = s.thermal ∧
    (s.lockedEdge).picture = s.picture ∧
    (s.lockedEdge).pending = s.pending := by
  unfold State.lockedEdge; split <;> simp

@[simp] theorem State.holdoverEdge_frame (s : State) :
    (s.holdoverEdge).now = s.now ∧
    (s.holdoverEdge).grid = s.grid ∧
    (s.holdoverEdge).probe = s.probe ∧
    (s.holdoverEdge).claims = s.claims ∧
    (s.holdoverEdge).thermal = s.thermal ∧
    (s.holdoverEdge).picture = s.picture ∧
    (s.holdoverEdge).pending = s.pending := by
  unfold State.holdoverEdge; dsimp only; split <;> simp

@[simp] theorem State.emitZone_frame (s : State) (i : Nat) :
    (s.emitZone i).now = s.now ∧
    (s.emitZone i).grid = s.grid ∧
    (s.emitZone i).request = s.request ∧
    (s.emitZone i).windows = s.windows ∧
    (s.emitZone i).timebase = s.timebase ∧
    (s.emitZone i).schedule = s.schedule ∧
    (s.emitZone i).chains = s.chains ∧
    (s.emitZone i).claims = s.claims ∧
    (s.emitZone i).reports = s.reports ∧
    (s.emitZone i).thermal = s.thermal ∧
    (s.emitZone i).picture = s.picture ∧
    (s.emitZone i).panel = s.panel ∧
    (s.emitZone i).system = s.system ∧
    (s.emitZone i).counters = s.counters ∧
    (s.emitZone i).pending = s.pending := by
  simp [State.emitZone]

@[simp] theorem State.emitGroup_frame (s : State) (k : Nat) :
    (s.emitGroup k).now = s.now ∧
    (s.emitGroup k).grid = s.grid ∧
    (s.emitGroup k).zones = s.zones ∧
    (s.emitGroup k).request = s.request ∧
    (s.emitGroup k).windows = s.windows ∧
    (s.emitGroup k).probe = s.probe ∧
    (s.emitGroup k).timebase = s.timebase ∧
    (s.emitGroup k).schedule = s.schedule ∧
    (s.emitGroup k).claims = s.claims ∧
    (s.emitGroup k).reports = s.reports ∧
    (s.emitGroup k).thermal = s.thermal ∧
    (s.emitGroup k).picture = s.picture ∧
    (s.emitGroup k).panel = s.panel ∧
    (s.emitGroup k).system = s.system ∧
    (s.emitGroup k).counters = s.counters ∧
    (s.emitGroup k).pending = s.pending := by
  simp [State.emitGroup]

@[simp] theorem State.takeDirect_frame (s : State) (cmd : SysCommand) (c a : Nat) (k : DirectKind) :
    (s.takeDirect cmd c a k).now = s.now ∧
    (s.takeDirect cmd c a k).grid = s.grid ∧
    (s.takeDirect cmd c a k).zones = s.zones ∧
    (s.takeDirect cmd c a k).request = s.request ∧
    (s.takeDirect cmd c a k).windows = s.windows ∧
    (s.takeDirect cmd c a k).probe = s.probe ∧
    (s.takeDirect cmd c a k).pass = s.pass ∧
    (s.takeDirect cmd c a k).timebase = s.timebase ∧
    (s.takeDirect cmd c a k).schedule = s.schedule ∧
    (s.takeDirect cmd c a k).claims = s.claims ∧
    (s.takeDirect cmd c a k).reports = s.reports ∧
    (s.takeDirect cmd c a k).thermal = s.thermal ∧
    (s.takeDirect cmd c a k).picture = s.picture ∧
    (s.takeDirect cmd c a k).panel = s.panel ∧
    (s.takeDirect cmd c a k).counters = s.counters ∧
    (s.takeDirect cmd c a k).pending = s.pending ∧
    (s.takeDirect cmd c a k).system.part = s.system.part ∧
    (s.takeDirect cmd c a k).system.pollInterval = s.system.pollInterval := by
  unfold State.takeDirect; split <;> simp

@[simp] theorem State.reportSensor_frame (s : State) (i : Nat) (a b : Bool) :
    (s.reportSensor i a b).now = s.now ∧
    (s.reportSensor i a b).grid = s.grid ∧
    (s.reportSensor i a b).zones = s.zones ∧
    (s.reportSensor i a b).request = s.request ∧
    (s.reportSensor i a b).windows = s.windows ∧
    (s.reportSensor i a b).probe = s.probe ∧
    (s.reportSensor i a b).pass = s.pass ∧
    (s.reportSensor i a b).timebase = s.timebase ∧
    (s.reportSensor i a b).schedule = s.schedule ∧
    (s.reportSensor i a b).chains = s.chains ∧
    (s.reportSensor i a b).claims = s.claims ∧
    (s.reportSensor i a b).thermal = s.thermal ∧
    (s.reportSensor i a b).picture = s.picture ∧
    (s.reportSensor i a b).panel = s.panel ∧
    (s.reportSensor i a b).system = s.system ∧
    (s.reportSensor i a b).pending = s.pending := by
  unfold State.reportSensor; split <;> simp

@[simp] theorem State.pictureResult_frame (s : State) (r : PictureResult) :
    (s.pictureResult r).now = s.now ∧
    (s.pictureResult r).grid = s.grid ∧
    (s.pictureResult r).zones = s.zones ∧
    (s.pictureResult r).request = s.request ∧
    (s.pictureResult r).windows = s.windows ∧
    (s.pictureResult r).probe = s.probe ∧
    (s.pictureResult r).pass = s.pass ∧
    (s.pictureResult r).timebase = s.timebase ∧
    (s.pictureResult r).schedule = s.schedule ∧
    (s.pictureResult r).chains = s.chains ∧
    (s.pictureResult r).claims = s.claims ∧
    (s.pictureResult r).thermal = s.thermal ∧
    (s.pictureResult r).panel = s.panel ∧
    (s.pictureResult r).system = s.system ∧
    (s.pictureResult r).pending = s.pending := by
  unfold State.pictureResult; split; · simp
  dsimp only; split <;> simp

@[simp] theorem State.takeRun_frame (s : State) (b : Bool) (n : Nat) (w : List (Nat → Nat)) :
    (s.takeRun b n w).now = s.now ∧
    (s.takeRun b n w).grid = s.grid ∧
    (s.takeRun b n w).zones = s.zones ∧
    (s.takeRun b n w).windows = s.windows ∧
    (s.takeRun b n w).probe = s.probe ∧
    (s.takeRun b n w).pass = s.pass ∧
    (s.takeRun b n w).timebase = s.timebase ∧
    (s.takeRun b n w).schedule = s.schedule ∧
    (s.takeRun b n w).chains = s.chains ∧
    (s.takeRun b n w).claims = s.claims ∧
    (s.takeRun b n w).thermal = s.thermal ∧
    (s.takeRun b n w).panel = s.panel ∧
    (s.takeRun b n w).system = s.system ∧
    (s.takeRun b n w).pending = s.pending := by
  unfold State.takeRun; split <;> simp

@[simp] theorem State.closeSet_frame (s : State) (n : Nat) (b : Bool) :
    (s.closeSet n b).now = s.now ∧
    (s.closeSet n b).grid = s.grid ∧
    (s.closeSet n b).zones = s.zones ∧
    (s.closeSet n b).windows = s.windows ∧
    (s.closeSet n b).probe = s.probe ∧
    (s.closeSet n b).pass = s.pass ∧
    (s.closeSet n b).timebase = s.timebase ∧
    (s.closeSet n b).schedule = s.schedule ∧
    (s.closeSet n b).chains = s.chains ∧
    (s.closeSet n b).claims = s.claims ∧
    (s.closeSet n b).reports = s.reports ∧
    (s.closeSet n b).thermal = s.thermal ∧
    (s.closeSet n b).picture = s.picture ∧
    (s.closeSet n b).panel = s.panel ∧
    (s.closeSet n b).system = s.system ∧
    (s.closeSet n b).pending = s.pending := by
  simp [State.closeSet]

@[simp] theorem State.discardMessage_frame (s : State) :
    (s.discardMessage).now = s.now ∧
    (s.discardMessage).grid = s.grid ∧
    (s.discardMessage).zones = s.zones ∧
    (s.discardMessage).request = s.request ∧
    (s.discardMessage).windows = s.windows ∧
    (s.discardMessage).probe = s.probe ∧
    (s.discardMessage).pass = s.pass ∧
    (s.discardMessage).timebase = s.timebase ∧
    (s.discardMessage).schedule = s.schedule ∧
    (s.discardMessage).chains = s.chains ∧
    (s.discardMessage).claims = s.claims ∧
    (s.discardMessage).thermal = s.thermal ∧
    (s.discardMessage).picture = s.picture ∧
    (s.discardMessage).panel = s.panel ∧
    (s.discardMessage).system = s.system ∧
    (s.discardMessage).pending = s.pending := by
  simp [State.discardMessage]

@[simp] theorem State.changeGrid_frame (s : State) (g : Grid) :
    (s.changeGrid g).now = s.now ∧
    (s.changeGrid g).timebase = s.timebase ∧
    (s.changeGrid g).schedule = s.schedule ∧
    (s.changeGrid g).chains = s.chains ∧
    (s.changeGrid g).claims = s.claims ∧
    (s.changeGrid g).reports = s.reports ∧
    (s.changeGrid g).thermal = s.thermal ∧
    (s.changeGrid g).panel = s.panel ∧
    (s.changeGrid g).system = s.system ∧
    (s.changeGrid g).counters = s.counters ∧
    (s.changeGrid g).pending = s.pending := by
  simp [State.changeGrid]

@[simp] theorem State.restart_frame (s : State) :
    (s.restart).now = s.now ∧
    (s.restart).grid = s.grid ∧
    (s.restart).claims = s.claims ∧
    (s.restart).panel = s.panel ∧
    (s.restart).pending = s.pending := by
  simp [State.restart]

end Sys2Proof.Machine
end

