-- ==== Sys2Proof/Laws/Loop.lean ====
section
/-! SUPPORT. Bits of a field read back, and what a driver sends on of a frame it received. -/

namespace Sys2Proof.Machine

/-! ## Fields (R191) -/

@[simp] theorem toBits_length (w n : Nat) : (toBits w n).length = w := by
  induction w with
  | zero => rfl
  | succ w ih => simp [toBits, ih]

/-- A bit more significant than the rest of a number. -/
theorem mod_two_pow_succ (n w : Nat) : n % 2 ^ (w + 1) = (n.testBit w).toNat * 2 ^ w + n % 2 ^ w := by
  rw [Nat.pow_succ, Nat.mod_mul, Nat.testBit_eq_decide_div_mod_eq]
  rcases Nat.mod_two_eq_zero_or_one (n / 2 ^ w) with h | h <;> (simp [h]; try omega)

/-- A field of `w` bits reads back as its value. -/
theorem ofBits_toBits (w n : Nat) : ofBits (toBits w n) = n % 2 ^ w := by
  have key : ∀ w a, (toBits w n).foldl (fun m b => 2 * m + b.toNat) a = a * 2 ^ w + n % 2 ^ w := by
    intro w
    induction w with
    | zero => intro a; simp [toBits, Nat.mod_one]
    | succ w ih =>
      intro a
      simp only [toBits, List.foldl_cons, ih]
      rw [mod_two_pow_succ n w, Nat.pow_succ]
      ring
  have := key w 0
  rw [Nat.zero_mul, Nat.zero_add] at this
  exact this

/-- Bits followed by a sixteen-bit number have a right CRC exactly when the number is their CRC. -/
theorem crcRight_append (covered : List Bool) (v : BitVec 16) :
    crcRight (covered ++ toBits 16 v.toNat) = decide (v = crc16 covered) := by
  have hv : v.toNat % 2 ^ 16 = v.toNat := Nat.mod_eq_of_lt v.isLt
  simp only [crcRight, List.length_append, toBits_length, Nat.add_sub_cancel, List.drop_left, List.take_left,
    ofBits_toBits, hv, BitVec.toNat_inj]

@[simp] theorem crcRight_withCrc (bits : List Bool) : crcRight (withCrc bits) = true := by
  simp [withCrc, crcRight_append]

/-- The CRC that marks a damaged frame is wrong by construction (R76). -/
@[simp] theorem crcRight_withWrongCrc (bits : List Bool) : crcRight (withWrongCrc bits) = false := by
  simp only [withWrongCrc, crcRight_append, decide_eq_false_iff_not]
  intro h
  have := congrArg (fun v : BitVec 16 => v.getLsbD 0) h
  simp at this

/-! ## A driver and a frame (R76) -/

/-- A frame of a known kind that arrives whole with a wrong CRC is counted, acted on in no way, and leaves with a wrong
CRC, so it reaches the part with one. -/
theorem Driver.receive_damaged (d : Driver) (bits : List Bool) (x : Sent) (hx : readSent bits = some x)
    (hl : x.bits - 8 ≤ bits.length) (hc : crcRight (bits.take (x.bits - 8)) = false) :
    (d.receive bits).1 = d.takeDamaged ∧ crcRight (d.receive bits).2 = false := by
  have h : ¬ (bits.take (x.bits - 8)).length < x.bits - 8 := by simp [hl]
  simp only [Driver.receive, hx, if_neg h, hc, Bool.false_eq_true, if_false, true_and]
  split <;> simp [hc]

/-- Idle and silence go round the loop as they are, and every driver keeps its state (R72, R84). -/
theorem roundLoop_idle (ds : List Driver) (k n : Nat) :
    roundLoop (fun _ i => i) k ds (.idle n) = (ds, .idle n) ∧
    roundLoop (fun _ i => i) k ds (.silence n) = (ds, .silence n) := by
  induction ds generalizing k with
  | nil => exact ⟨rfl, rfl⟩
  | cons d rest ih => simp [roundLoop, Driver.forward, ih]

end Sys2Proof.Machine
end

