-- ==== Sys2Proof/Laws/Ops.lean ====
section
/-! SUPPORT. For each shared operation, one lemma that says what it answers, so that no later proof unfolds it. -/

namespace Sys2Proof.Machine

/-! ## Records by number -/

/-- A change of one entry of a list is the entry changed and put back. -/
theorem modify_eq_set {α : Type} (l : List α) (k : Nat) (f : α → α) (d : α) :
    l.modify k f = l.set k (f (l.getD k d)) := by
  apply List.ext_getElem?
  intro i
  rw [List.getElem?_modify, List.getElem?_set]
  by_cases h : k = i
  · subst h
    by_cases hk : k < l.length
    · simp [hk, List.getD_eq_getElem?_getD]
    · simp [hk]
  · simp [h]

theorem getD_modify_self {α : Type} (l : List α) (k : Nat) (f : α → α) (d : α) (h : k < l.length) :
    (l.modify k f).getD k d = f (l.getD k d) := by
  simp [List.getD_eq_getElem?_getD, h]

theorem getD_modify_ne {α : Type} (l : List α) (k j : Nat) (f : α → α) (d : α) (h : k ≠ j) :
    (l.modify k f).getD j d = l.getD j d := by
  simp [List.getD_eq_getElem?_getD, h]

theorem getD_set_self {α : Type} (l : List α) (k : Nat) (a d : α) (h : k < l.length) :
    (l.set k a).getD k d = a := by
  simp [List.getD_eq_getElem?_getD, h]

theorem getD_set_ne {α : Type} (l : List α) (k j : Nat) (a d : α) (h : k ≠ j) :
    (l.set k a).getD j d = l.getD j d := by
  simp [List.getD_eq_getElem?_getD, List.getElem?_set_ne h]

@[simp] theorem getD_replicate_same {α : Type} (n k : Nat) (a : α) : (List.replicate n a).getD k a = a := by
  simp [List.getD_eq_getElem?_getD, List.getElem?_replicate]
  split <;> simp

/-- An entry within a list is one of its members. -/
theorem getD_mem {α : Type} (l : List α) (k : Nat) (d : α) (h : k < l.length) : l.getD k d ∈ l := by
  simp [List.getD_eq_getElem?_getD, h]

/-- A property of every member and of the value past the end holds of every entry read. -/
theorem getD_all {α : Type} {p : α → Prop} (l : List α) (k : Nat) (d : α) (h : ∀ x ∈ l, p x) (hd : p d) :
    p (l.getD k d) := by
  by_cases hk : k < l.length
  · exact h _ (getD_mem l k d hk)
  · simpa [List.getD_eq_getElem?_getD, List.getElem?_eq_none (Nat.le_of_not_lt hk)] using hd

/-- A change of one entry keeps a property that the changed entry has. -/
theorem modify_all {α : Type} {p : α → Prop} (l : List α) (k : Nat) (f : α → α) (h : ∀ x ∈ l, p x)
    (hf : ∀ x ∈ l, p (f x)) : ∀ x ∈ l.modify k f, p x := by
  intro x hx
  rw [List.mem_iff_getElem?] at hx
  obtain ⟨i, hi⟩ := hx
  rw [List.getElem?_modify] at hi
  obtain ⟨y, hy, rfl⟩ : ∃ y, l[i]? = some y ∧ (if k = i then f y else y) = x := by
    simpa [Option.map_eq_some_iff] using hi
  have hm : y ∈ l := List.mem_of_getElem? hy
  split
  · exact hf y hm
  · exact h y hm

/-- A change of chain `c` puts the changed engine in its place. -/
theorem State.updChain_eq (s : State) (c : Nat) (f : Chain → Chain) :
    s.updChain c f = { s with chains := s.chains.set c (f (s.chain c)) } := by
  simp [State.updChain, modify_eq_set _ _ _ Chain.powerOn, State.chain]

theorem State.chain_updChain_same (s : State) (c : Nat) (f : Chain → Chain) (h : c < s.chains.length) :
    (s.updChain c f).chain c = f (s.chain c) := getD_modify_self _ _ _ _ h

theorem State.chain_updChain_other (s : State) (c k : Nat) (f : Chain → Chain) (h : c ≠ k) :
    (s.updChain c f).chain k = s.chain k := getD_modify_ne _ _ _ _ _ h

/-- A change of one zone's record puts the changed record in its place. -/
theorem State.updZone_eq (s : State) (i : Nat) (f : Zone → Zone) :
    s.updZone i f = { s with zones := s.zones.set i (f (s.zone i)) } := by
  simp [State.updZone, modify_eq_set _ _ _ Zone.fresh, State.zone]

/-! ## Reports (R142, R144) -/

/-- A report with room: its entries join the queue, and an armed ALERT is asserted. -/
theorem State.queueReport_room (s : State) (es : List ReportEntry) (h : s.reports.queue.length + es.length ≤ 32) :
    s.queueReport es = { s with reports := { s.reports with
      queue := s.reports.queue ++ linkEntries es, alert := s.reports.alert || s.reports.armed, armed := false } } := by
  simp [State.queueReport, ReportUnit.hasRoom, h, ReportUnit.accept]

/-- A report without room is lost, and counted; the newest entry takes the overflow flag. -/
theorem State.queueReport_full (s : State) (es : List ReportEntry) (h : 32 < s.reports.queue.length + es.length) :
    s.queueReport es = { s with
      reports := { s.reports with
        queue := s.reports.queue.modify (s.reports.queue.length - 1) fun e => { e with overflow := true } }
      counters := { s.counters with reportsLost := sat16 s.counters.reportsLost } } := by
  simp [State.queueReport, ReportUnit.hasRoom, Nat.not_le.mpr h, ReportUnit.lose]

@[simp] theorem linkEntries_length (es : List ReportEntry) : (linkEntries es).length = es.length := by
  induction es using linkEntries.induct with
  | case1 => rfl
  | case2 => rfl
  | case3 e f rest ih => simp [linkEntries, ih]

/-- A report's last entry is not chained. -/
theorem linkEntries_whole (es : List ReportEntry) (e : ReportEntry) (h : (linkEntries es).getLast? = some e) :
    e.chained = false := by
  induction es using linkEntries.induct with
  | case1 => simp [linkEntries] at h
  | case2 x => simp [linkEntries] at h; subst h; rfl
  | case3 x f rest ih =>
    rw [linkEntries, List.getLast?_cons] at h
    cases hl : (linkEntries (f :: rest)).getLast? with
    | none =>
      have := linkEntries_length (f :: rest)
      rw [List.getLast?_eq_none_iff] at hl
      simp [hl] at this
    | some y => simp [hl] at h; exact ih (h ▸ hl)

/-- A capture fills the lowest-numbered free buffer, or makes none (R146). -/
theorem State.capture_cases (s : State) (c p : Nat) :
    (s.capture c p = (s, none) ∧ ∀ b ∈ s.reports.buffers, b.expires ≠ none) ∨
    ∃ i b, s.reports.buffers[i]? = some b ∧ b.expires = none ∧
      (∀ j x, j < i → s.reports.buffers[j]? = some x → x.expires ≠ none) ∧
      s.capture c p =
        ({ s with reports := { s.reports with
            buffers := s.reports.buffers.set i
              ⟨some (s.now + ms s.reports.holdTime), (b.generation + 1) % 16, some (s.snapshotOf c p)⟩ } },
          some ⟨i, (b.generation + 1) % 16⟩) := by
  unfold State.capture
  split
  · rename_i h
    rw [List.findIdx?_eq_none_iff] at h
    exact .inl ⟨rfl, fun b hb hn => by simpa [hn] using h b hb⟩
  · rename_i i h
    rw [List.findIdx?_eq_some_iff_getElem] at h
    obtain ⟨hi, hb, hj⟩ := h
    refine .inr ⟨i, s.reports.buffers[i], by simp [hi], by simpa using hb, ?_, ?_⟩
    · intro j x hji hx hn
      have hl : j < s.reports.buffers.length := by omega
      have := hj j hji
      simp [hl] at hx
      simp [hx, hn] at this
    · simp [List.getD_eq_getElem?_getD, hi, SnapBuffer.fill]

/-! ## The response of a DIRECT command (R112, R180) -/

theorem State.fixDirect_eq (s : State) (c : Nat) (r : SysResult) (d : ResponseData) :
    s.fixDirect c r d = { s with system := s.directAnswered c r d } := by
  unfold State.fixDirect State.directAnswered
  split <;> rfl

theorem Chain.directOutstanding_iff (s : State) (c : Nat) :
    (s.chain c).directOutstanding = true ↔ s.directWaits c := by
  simp only [Chain.directOutstanding, State.directWaits, Bool.or_eq_true, List.any_eq_true, Option.isSome_iff_ne_none]
  refine or_congr Iff.rfl (exists_congr fun f => and_congr Iff.rfl ?_)
  cases f.sent <;> simp

/-! ## The outgoing panel line (R173, R177 to R179) -/

/-- While a message is being sent nothing is begun. -/
theorem PanelPort.serve_busy (p : PanelPort) (now : Nat) (x : PanelSending) (h : p.sending = some x) : p.serve now = p := by
  simp [PanelPort.serve, h]

/-- On an idle line, the order of R179. -/
theorem PanelPort.serve_idle (p : PanelPort) (now : Nat) (h : p.sending = none) :
    (p.holdEnded = true →
      p.serve now = { p with holdEnded := false, sending := some ⟨.holdEnded, now + 64⟩ }) ∧
    (p.holdEnded = false →
      (∀ n rest, p.notices = n :: rest →
        p.serve now = { p with notices := rest, sending := some ⟨.refused n, now + 64⟩ }) ∧
      (p.notices = [] →
        (∀ b rest, p.sections = b :: rest →
          p.serve now = { p with sections := rest, sending := some ⟨.lightSection b, now + (PanelMessage.lightSection b).duration⟩ }) ∧
        (p.sections = [] → p.serve now = p))) := by
  refine ⟨fun hh => ?_, fun hh => ⟨fun n rest hn => ?_, fun hn => ⟨fun b rest hb => ?_, fun hb => ?_⟩⟩⟩ <;>
    simp [PanelPort.serve, PanelPort.next, *, PanelMessage.duration, PanelMessage.byteCount]

/-! ## Counters, gains, factors -/

theorem sat16_le (n : Nat) : sat16 n ≤ 65535 := by unfold sat16; omega

theorem clampGain_range (x : Nat) : 512 ≤ clampGain x ∧ clampGain x ≤ 1535 := by unfold clampGain; omega

/-- A factor moves by at most 8 and never past its target (R158). -/
theorem slew_range (a t lo hi : Nat) (ha : lo ≤ a ∧ a ≤ hi) (ht : lo ≤ t ∧ t ≤ hi) :
    lo ≤ slew a t ∧ slew a t ≤ hi := by
  unfold slew; split <;> omega

/-- The derate curve lies between H_min and 256 (R156). -/
theorem derateCurve_range (p : ThermalParams) (t : Int) (h : p.hMin ≤ 256) (ho : p.tStart < p.tStop) :
    p.hMin ≤ derateCurve p t ∧ derateCurve p t ≤ 256 := by
  unfold derateCurve
  split
  · omega
  · split
    · omega
    · rename_i h1 h2
      have hd : ((256 - p.hMin) * (t - p.tStart).toNat) / (p.tStop - p.tStart).toNat ≤ 256 - p.hMin := by
        apply Nat.div_le_of_le_mul
        rw [Nat.mul_comm]
        exact Nat.mul_le_mul_right _ (by omega)
      generalize ((256 - p.hMin) * (t - p.tStart).toNat) / (p.tStop - p.tStart).toNat = x at hd ⊢
      omega

/-! ## Runs of levels and gains (R7, R165) -/

@[simp] theorem writeRun_length (l : List Nat) (start : Nat) (fs : List (Nat → Nat)) :
    (writeRun l start fs).length = l.length := by
  induction fs generalizing l start with
  | nil => rfl
  | cons f rest ih => simp [writeRun, ih]

/-- A run changes the levels from its start on, each by its own value, and no other. -/
theorem writeRun_getD (l : List Nat) (start : Nat) (fs : List (Nat → Nat)) (i : Nat) (h : i < l.length) :
    (writeRun l start fs).getD i 0 =
      if start ≤ i ∧ i < start + fs.length then (fs.getD (i - start) id) (l.getD i 0) else l.getD i 0 := by
  induction fs generalizing l start with
  | nil => simp [writeRun]
  | cons f rest ih =>
    rw [writeRun, ih _ _ (by simpa using h)]
    by_cases he : start = i
    · subst he
      rw [getD_modify_self _ _ _ _ h]
      simp
    · rw [getD_modify_ne _ _ _ _ _ he]
      by_cases hc : start + 1 ≤ i ∧ i < start + 1 + rest.length
      · have : i - start = (i - (start + 1)) + 1 := by omega
        rw [if_pos hc, if_pos (by simp; omega), this]
        simp
      · rw [if_neg hc, if_neg (by simp; omega)]

@[simp] theorem storeGains_length (zs : List Zone) (start : Nat) (gs : List Nat) :
    (storeGains zs start gs).length = zs.length := by
  induction gs generalizing zs start with
  | nil => rfl
  | cons f rest ih => simp [storeGains, ih]

/-- Gains are stored in the zones from the start on, held to their range; no other field and no other zone changes. -/
theorem storeGains_getD (zs : List Zone) (start : Nat) (gs : List Nat) (i : Nat) (h : i < zs.length) :
    (storeGains zs start gs).getD i Zone.fresh =
      if start ≤ i ∧ i < start + gs.length then
        { zs.getD i Zone.fresh with gain := clampGain (gs.getD (i - start) 0) }
      else zs.getD i Zone.fresh := by
  induction gs generalizing zs start with
  | nil => simp [storeGains]
  | cons f rest ih =>
    rw [storeGains, ih _ _ (by simpa using h)]
    by_cases he : start = i
    · subst he
      rw [getD_modify_self _ _ _ _ h]
      simp
    · rw [getD_modify_ne _ _ _ _ _ he]
      by_cases hc : start + 1 ≤ i ∧ i < start + 1 + rest.length
      · have : i - start = (i - (start + 1)) + 1 := by omega
        rw [if_pos hc, if_pos (by simp; omega), this]
        simp
      · rw [if_neg hc, if_neg (by simp; omega)]

/-! ## Windows (R18) -/

/-- What R18 answers for a window: a refusal, a record replaced in place, or one more at the end. -/
theorem placeWindow_cases (g : Grid) (owner : WindowOwner) (w : WindowFields) (ws : List Window) :
    ((g.count = 0 ∨ 7 < w.number ∨ 4095 < w.level ∨ 4095 < w.lifetime ∨ w.rect.col1 < w.rect.col0 ∨
        w.rect.row1 < w.rect.row0) ∧ placeWindow g owner w ws = .error .range) ∨
    (g.count ≠ 0 ∧ w.number ≤ 7 ∧ w.level ≤ 4095 ∧ w.lifetime ≤ 4095 ∧ w.rect.col0 ≤ w.rect.col1 ∧
      w.rect.row0 ≤ w.rect.row1 ∧
      (((∃ x ∈ ws, windowKey owner w.number x = true) ∧ placeWindow g owner w ws = .ok (ws.map fun x =>
          if windowKey owner w.number x then
            ⟨owner, w.number, w.kind, clampRect g w.rect, w.level, w.lifetime, false⟩ else x)) ∨
       ((∀ x ∈ ws, windowKey owner w.number x = false) ∧ ws.length < 16 ∧ placeWindow g owner w ws =
          .ok (ws ++ [⟨owner, w.number, w.kind, clampRect g w.rect, w.level, w.lifetime, false⟩])) ∨
       ((∀ x ∈ ws, windowKey owner w.number x = false) ∧ 16 ≤ ws.length ∧
          placeWindow g owner w ws = .error .full))) := by
  unfold placeWindow
  by_cases h0 : g.count = 0
  · simp [h0]
  by_cases h1 : 7 < w.number ∨ 4095 < w.level ∨ 4095 < w.lifetime
  · left; simp only [h0, h1, if_true, if_false]; exact ⟨by omega, trivial⟩
  by_cases h2 : rectOrdered w.rect = true
  · right
    have ho : w.rect.col0 ≤ w.rect.col1 ∧ w.rect.row0 ≤ w.rect.row1 := by simpa [rectOrdered] using h2
    refine ⟨h0, by omega, by omega, by omega, ho.1, ho.2, ?_⟩
    simp only [h0, h1, h2, if_false, Bool.not_true, Bool.false_eq_true]
    by_cases h3 : ws.any (windowKey owner w.number) = true
    · left; simp only [h3, if_true]; exact ⟨by simpa using h3, trivial⟩
    · have h3' : ∀ x ∈ ws, windowKey owner w.number x = false := by simpa using h3
      right
      by_cases h4 : ws.length < 16
      · left; simp only [h3, h4, if_true]; exact ⟨h3', trivial, by simp⟩
      · right; simp only [h3, h4, if_false]; exact ⟨h3', by omega, by simp⟩
  · have ho : w.rect.col1 < w.rect.col0 ∨ w.rect.row1 < w.rect.row0 := by
      simp [rectOrdered] at h2; omega
    left; simp only [h0, h1, h2, if_false]; exact ⟨by omega, by simp⟩

/-! ## The arbiter (R100 to R105) -/

theorem Chain.stageInFlight_iff (ch : Chain) (a : Nat) : ch.stageInFlight a = true ↔ ch.holds a := by
  simp only [Chain.stageInFlight, Chain.holds, List.any_eq_true]
  refine exists_congr fun f => and_congr Iff.rfl ?_
  cases f.sent <;> simp

theorem Chain.send_eq (rest : Chain) (now : Nat) (x : Sent) (retry : Bool) :
    rest.send now x retry = rest.granted now x retry := rfl

/-- What a chain sends at a frame boundary: nothing, or one frame of an engine that may send. -/
theorem Chain.serve_cases (ch : Chain) (now : Nat) :
    ch.serve now = ch ∨
    ∃ x retry rest, ch.lineFree ≤ now ∧ ch.inflight.length < 4 ∧ ch.serve now = rest.granted now x retry ∧
      ((ch.state = .running ∧ ch.pick = some (x, retry, rest)) ∨
        (ch.state ≠ .running ∧ ch.resend = some x ∧ retry = true ∧ rest = { ch with resend := none })) := by
  by_cases h : ch.lineFree ≤ now ∧ ch.inflight.length < 4
  · by_cases hr : ch.state = .running
    · cases hp : ch.pick with
      | none => exact .inl (by simp [Chain.serve, Chain.pickNext, hr, hp])
      | some y =>
        refine .inr ⟨y.1, y.2.1, y.2.2, h.1, h.2, ?_, .inl ⟨hr, rfl⟩⟩
        simp [Chain.serve, Chain.pickNext, h, hr, hp, Chain.send_eq]
    · cases hp : ch.resend with
      | none => exact .inl (by simp [Chain.serve, Chain.pickNext, hr, hp])
      | some x =>
        refine .inr ⟨x, true, _, h.1, h.2, ?_, .inr ⟨hr, rfl, rfl, rfl⟩⟩
        simp [Chain.serve, Chain.pickNext, h, hr, hp, Chain.send_eq]
  · exact .inl (by simp only [Chain.serve, h, if_false])

/-- Outside RUNNING a chain with nothing to send again sends nothing. -/
theorem Chain.serve_idle (ch : Chain) (now : Nat) (h : ch.state ≠ .running) (hr : ch.resend = none) :
    ch.serve now = ch := by
  simp [Chain.serve, Chain.pickNext, h, hr]

/-- The entry a held queue gives up: the first that is not held. -/
theorem takeStage_cases (held : Nat → Bool) (l : List StageEntry) :
    (takeStage held l = none ∧ ∀ e ∈ l, held e.address = true) ∨
    ∃ before e after, l = before ++ e :: after ∧ (∀ y ∈ before, held y.address = true) ∧ held e.address = false ∧
      takeStage held l = some (e, before ++ after) := by
  induction l with
  | nil => exact .inl ⟨rfl, by simp⟩
  | cons x rest ih =>
    by_cases hx : held x.address = true
    · rcases ih with ⟨h1, h2⟩ | ⟨b, e, a, hl, hb, he, ht⟩
      · left; simp [takeStage, hx, h1]; exact h2
      · right
        refine ⟨x :: b, e, a, by simp [hl], ?_, he, by simp [takeStage, hx, ht]⟩
        intro y hy
        rcases List.mem_cons.mp hy with rfl | hy
        · exact hx
        · exact hb y hy
    · right; exact ⟨[], x, rest, rfl, by simp, by simpa using hx, by simp [takeStage, hx]⟩

/-- What the arbiter may pick. -/
theorem Chain.pick_cases (ch : Chain) (x : Sent) (retry : Bool) (rest : Chain) (h : ch.pick = some (x, retry, rest)) :
    (∃ l ls, ch.latchSource = l :: ls ∧ x = .latch l.mask ∧ retry = l.retry ∧ rest = { ch with latchSource := ls }) ∨
    (∃ d, ch.direct = some d ∧ x = .direct d.address d.kind ∧ retry = d.retry ∧ rest = { ch with direct := none }) ∨
    (∃ p, ch.poll = some p ∧ x = .poll p.address ∧ retry = p.retry ∧ rest = { ch with poll := none }) ∨
    (∃ before e after, ch.staging = before ++ e :: after ∧ ch.stageInFlight e.address = false ∧ x = .stage e ∧
      retry = e.retry ∧ rest = { ch with staging := before ++ after }.ageWaiting) := by
  have aged : ch.takeAged = some (x, retry, rest) →
      (∃ d, ch.direct = some d ∧ x = .direct d.address d.kind ∧ retry = d.retry ∧ rest = { ch with direct := none }) ∨
      (∃ p, ch.poll = some p ∧ x = .poll p.address ∧ retry = p.retry ∧ rest = { ch with poll := none }) := by
    intro ha
    unfold Chain.takeAged at ha
    cases hd : ch.direct <;> cases hp : ch.poll <;> simp only [hd, hp] at ha
    · simp at ha
    · simp at ha; obtain ⟨rfl, rfl, rfl⟩ := ha; exact .inr ⟨_, rfl, rfl, rfl, by simp⟩
    · simp at ha; obtain ⟨rfl, rfl, rfl⟩ := ha; exact .inl ⟨_, rfl, rfl, rfl, by simp⟩
    · split at ha
      · simp at ha; obtain ⟨rfl, rfl, rfl⟩ := ha; exact .inl ⟨_, rfl, rfl, rfl, by simp⟩
      · simp at ha; obtain ⟨rfl, rfl, rfl⟩ := ha; exact .inr ⟨_, rfl, rfl, rfl, by simp⟩
  unfold Chain.pick at h
  split at h
  · rename_i l ls hl
    simp at h
    obtain ⟨rfl, rfl, rfl⟩ := h
    exact .inl ⟨l, ls, hl, rfl, rfl, by simp⟩
  · split at h
    · rcases aged h with h | h
      · exact .inr (.inl h)
      · exact .inr (.inr (.inl h))
    · rcases takeStage_cases ch.stageInFlight ch.staging with ⟨h1, -⟩ | ⟨b, e, a, hl, -, he, ht⟩
      · rw [h1] at h
        rcases aged h with h | h
        · exact .inr (.inl h)
        · exact .inr (.inr (.inl h))
      · rw [ht] at h
        simp at h
        obtain ⟨rfl, rfl, rfl⟩ := h
        exact .inr (.inr (.inr ⟨b, e, a, hl, he, rfl, rfl, rfl⟩))

/-! ## Judging an echo (R85 to R91) -/

/-- What arrived is another frame's whole echo: its bits spell a frame of just that length, with a right CRC and another
header (R89). -/
theorem echoOfAnother_iff (f : InFlight) (bits : List Bool) :
    echoOfAnother f bits = true ↔
      ∃ x, readSent bits = some x ∧ bits.length = x.bits - 8 ∧ crcRight bits = true ∧ headerMatches f bits = false := by
  unfold echoOfAnother
  cases readSent bits <;> simp [and_assoc]

/-- The echo of the frame in flight itself is that of no other. -/
@[simp] theorem echoOfAnother_of_header {f : InFlight} {bits : List Bool} (h : headerMatches f bits = true) :
    echoOfAnother f bits = false := by
  unfold echoOfAnother
  cases readSent bits <;> simp [h]

/-- All an echo can be found to be, tried in this order. -/
theorem Chain.judge_cases (ch : Chain) (f : InFlight) (bits body : List Bool) (hb : body = bits.take (f.sent.bits - 8)) :
    (echoOfAnother f bits = true ∧ ch.judge f bits = .mismatch) ∨
    (echoOfAnother f bits = false ∧ (body.length < f.sent.bits - 8 ∨ crcRight body = false) ∧
      ch.judge f bits = .damaged) ∨
    (echoOfAnother f bits = false ∧ body.length = f.sent.bits - 8 ∧ crcRight body = true ∧
      ((headerMatches f body = false ∧ ch.judge f bits = .mismatch) ∨
       (headerMatches f body = true ∧ (readReply f.sent body).unacknowledged = true ∧ ch.judge f bits = .damaged) ∨
       (headerMatches f body = true ∧ (readReply f.sent body).unacknowledged = false ∧
         ch.judge f bits = if ch.tooManyLatches f.sent (readReply f.sent body) = true then .mismatch
           else .accepted (readReply f.sent body)))) := by
  subst hb
  have hle : (bits.take (f.sent.bits - 8)).length ≤ f.sent.bits - 8 := by simp
  unfold Chain.judge
  cases h1 : echoOfAnother f bits
  · by_cases h2 : (bits.take (f.sent.bits - 8)).length < f.sent.bits - 8
    · exact .inr (.inl ⟨rfl, .inl h2, by simp only [Bool.false_eq_true, if_false, if_pos h2]⟩)
    · simp only [Bool.false_eq_true, if_false, if_neg h2]
      cases h3 : crcRight (bits.take (f.sent.bits - 8))
      · exact .inr (.inl ⟨trivial, .inr rfl, rfl⟩)
      · refine .inr (.inr ⟨trivial, Nat.le_antisymm hle (Nat.not_lt.mp h2), rfl, ?_⟩)
        cases h4 : headerMatches f (bits.take (f.sent.bits - 8))
        · exact .inl ⟨rfl, rfl⟩
        · cases h5 : (readReply f.sent (bits.take (f.sent.bits - 8))).unacknowledged
          · exact .inr (.inr ⟨rfl, rfl, rfl⟩)
          · exact .inr (.inl ⟨rfl, rfl, rfl⟩)
  · exact .inl ⟨rfl, rfl⟩

end Sys2Proof.Machine
end

