-- ==== Sys2Proof/Laws/PanelLine.lean ====
section
/-! SUPPORT. What the receiver of the incoming panel line makes of a whole message and of idle (R173). -/

namespace Sys2Proof.Machine

/-- Fewer data bits than idle takes are no idle. -/
theorem endsIdle_short {limit : Nat} {bits : List Bool} (h : bits.length < limit) : endsIdle limit bits = false := by
  simp [endsIdle, Nat.not_le.mpr h]

/-- Within a message of fewer than `limit` data bits, the data bits and the end symbol that follow are received whole. -/
theorem receiveLine_data (limit fuel : Nat) (rest : List Bool) :
    ∀ (bits acc : List Bool) (pos : Nat), acc.length + bits.length < limit →
      receiveLine limit (fuel + bits.length + 1) (some acc) pos (bits.flatMap lineBit ++ (endSymbol ++ rest)) =
        (pos + 2 * bits.length + 16, .whole (acc ++ bits)) ::
          receiveLine limit fuel none (pos + 2 * bits.length + 16) rest
  | [], acc, pos, _ => by simp [receiveLine, endSymbol]
  | b :: bits, acc, pos, h => by
    have hlen : ¬ ((b :: bits).flatMap lineBit ++ (endSymbol ++ rest)).length < 16 := by
      simp [endSymbol]; omega
    have hne : ∀ x y l, (!b) :: b :: l ≠ x :: x :: y := by
      intro x y l e
      injection e with h1 h2
      injection h2 with h2 _
      exact absurd (h1.trans h2.symm) (by cases b <;> decide)
    have h' : (acc ++ [b]).length + bits.length < limit := by simp at h ⊢; omega
    have hi : endsIdle limit (acc ++ [b]) = false := endsIdle_short (by omega)
    have ih := receiveLine_data limit fuel rest bits (acc ++ [b]) (pos + 2) h'
    rw [show fuel + (b :: bits).length + 1 = (fuel + bits.length + 1) + 1 by simp; omega]
    rw [receiveLine, if_neg hlen]
    have he : ((b :: bits).flatMap lineBit ++ (endSymbol ++ rest)).take 16 ≠ endSymbol := hne _ _ _
    have hs : ((b :: bits).flatMap lineBit ++ (endSymbol ++ rest)).take 16 ≠ startSymbol := hne _ _ _
    have h0 : ((b :: bits).flatMap lineBit ++ (endSymbol ++ rest)).getD 0 false ≠
        ((b :: bits).flatMap lineBit ++ (endSymbol ++ rest)).getD 1 false := by
      show (!b) ≠ b
      cases b <;> decide
    simp only [if_neg he, if_neg hs, if_neg h0]
    show (if endsIdle limit (acc ++ [b]) = true then _ else
      receiveLine limit (fuel + bits.length + 1) (some (acc ++ [b])) (pos + 2)
        (bits.flatMap lineBit ++ (endSymbol ++ rest))) = _
    rw [if_neg (by simp [hi]), ih]
    simp only [List.length_cons, List.append_assoc, List.cons_append, List.nil_append]
    rw [show pos + 2 + 2 * bits.length + 16 = pos + 2 * (bits.length + 1) + 16 by omega]

/-- A whole message between idle and what follows is received as its data bits, by the end of its end symbol. -/
theorem receiveLine_message (limit fuel pos : Nat) (bits rest : List Bool) (h : bits.length < limit) :
    receiveLine limit (fuel + bits.length + 1 + 1) none pos
        (startSymbol ++ (bits.flatMap lineBit ++ (endSymbol ++ rest))) =
      (pos + 16 + 2 * bits.length + 16, .whole bits) ::
        receiveLine limit fuel none (pos + 16 + 2 * bits.length + 16) rest := by
  have key := receiveLine_data limit fuel rest bits [] (pos + 16) (by simpa using h)
  have hlen : ¬ (startSymbol ++ (bits.flatMap lineBit ++ (endSymbol ++ rest))).length < 16 := by
    simp [startSymbol]
  rw [receiveLine, if_neg hlen]
  exact key

end Sys2Proof.Machine
end

