-- ==== Sys2Proof/Tests/Slice0.lean ====
section
/-! SUPPORT. Tests: ill-formed commands refused, the spec's worked examples, and for each statement with hypotheses a
concrete state and operands that meet them, clause by clause. -/

namespace Sys2Proof.Tests

open Sys2Proof Sys2Proof.Machine

/-! ## Ill-formed commands (one for each check of WellFormed) -/

theorem test_wf_refuses_system_fields :
    (Instr.setGrid 0 256 1).wf = false ∧ (Instr.setGrid 0 1 256).wf = false ∧
    (Instr.setChain 0 256 0 0 none).wf = false ∧ (Instr.setChain 0 0 256 0 none).wf = false ∧
    (Instr.setChain 0 0 0 65536 none).wf = false ∧ (Instr.setChain 0 0 0 0 (some 255)).wf = false ∧
    (Instr.mapZone 0 65536 0 0 0).wf = false ∧ (Instr.mapZone 0 0 256 0 0).wf = false ∧
    (Instr.mapZone 0 0 0 256 0).wf = false ∧ (Instr.mapZone 0 0 0 0 256).wf = false ∧
    (Instr.unmapZone 0 65536).wf = false := by decide

theorem test_wf_refuses_settings :
    (Instr.setGroups 0 256 [0, 0, 0, 0, 0, 0, 0, 0] 0).wf = false ∧ (Instr.setGroups 0 1 [0] 0).wf = false ∧
    (Instr.setGroups 0 1 [0, 0, 0, 0, 0, 0, 0, 65536] 0).wf = false ∧
    (Instr.setGroups 0 1 [0, 0, 0, 0, 0, 0, 0, 0] 65536).wf = false ∧
    (Instr.setService 0 65536 0).wf = false ∧ (Instr.setService 0 0 65536).wf = false ∧
    (Instr.setThermal 0 ⟨128, 0, 0, 0, 0⟩).wf = false ∧ (Instr.setThermal 0 ⟨0, 32768, 0, 0, 0⟩).wf = false ∧
    (Instr.setThermal 0 ⟨0, 0, -129, 0, 0⟩).wf = false ∧ (Instr.setThermal 0 ⟨0, 0, 0, 128, 0⟩).wf = false ∧
    (Instr.setThermal 0 ⟨0, 0, 0, 0, 65536⟩).wf = false ∧ (Instr.setTimebase 0 65536).wf = false := by decide

set_option maxRecDepth 8000 in
theorem test_wf_refuses_service_fields :
    (Instr.loadGains 0 65536 []).wf = false ∧ (Instr.loadGains 0 0 [65536]).wf = false ∧
    (Instr.loadGains 0 0 (List.replicate 256 0)).wf = false ∧
    (Instr.setOverride 0 65536 0).wf = false ∧ (Instr.setOverride 0 0 65536).wf = false ∧
    (Instr.clearOverride 0 65536).wf = false ∧ (Instr.clearFault 0 65536).wf = false ∧
    (Instr.readZone 0 65536).wf = false ∧ (Instr.probe 0 65536 .once).wf = false ∧
    (Instr.restartChain 0 256).wf = false ∧ (Instr.driverTrim 0 256 0 0).wf = false ∧
    (Instr.driverTrim 0 0 256 0).wf = false ∧ (Instr.driverTrim 0 0 0 256).wf = false ∧
    (Instr.driverIdent 0 256 0).wf = false ∧ (Instr.driverIdent 0 0 256).wf = false ∧
    (Instr.readSnapshot 0 256 0).wf = false ∧ (Instr.readSnapshot 0 0 256).wf = false ∧
    (Instr.unknownCommandWrite 0 []).wf = false ∧
    (Instr.unknownCommandWrite 0 ((encodeWrite (.stop 0)).getD [])).wf = false := by decide

set_option maxRecDepth 8000 in
theorem test_wf_refuses_messages :
    (Instr.run12 0 65536 [0]).wf = false ∧ (Instr.run12 0 0 []).wf = false ∧
    (Instr.run8 0 0 (List.replicate 257 0)).wf = false ∧ (Instr.fine4 0 65536 [0]).wf = false ∧
    (Instr.nudge 0 ⟨256, 0, 0, 0⟩ 0).wf = false ∧ (Instr.nudge 0 ⟨0, 256, 0, 0⟩ 0).wf = false ∧
    (Instr.nudge 0 ⟨0, 0, 256, 0⟩ 0).wf = false ∧ (Instr.nudge 0 ⟨0, 0, 0, 256⟩ 0).wf = false ∧
    (Instr.pictureWindow 0 ⟨256, .floor, ⟨0, 0, 0, 0⟩, 0, 0⟩).wf = false ∧
    (Instr.panelWindow 0 ⟨0, .floor, ⟨0, 0, 0, 0⟩, 65536, 0⟩).wf = false ∧
    (Instr.panelWindow 0 ⟨0, .floor, ⟨0, 0, 0, 0⟩, 0, 65536⟩).wf = false ∧
    (Instr.pictureUnwindow 0 256).wf = false ∧ (Instr.panelUnwindow 0 256).wf = false ∧
    (Instr.malformedMessage 0 [9, 0, 0, 0, 0] 0).wf = false ∧ (Instr.malformedMessage 0 [9] 8).wf = false ∧
    (Instr.hold 0 0).wf = false := by decide

theorem test_wf_refuses_numbers :
    (Instr.problemFrames 8).wf = false ∧ (Instr.frameBoundary 8).wf = false ∧ (Instr.echoOverdue 8).wf = false ∧
    (Instr.attemptBegin 8).wf = false ∧ (Instr.runningTimerExpiry 8).wf = false ∧ (Instr.pollTick 8).wf = false ∧
    (Instr.echoEnd 0 8 []).wf = false ∧ (Instr.loopLost 0 8).wf = false ∧ (Instr.echoBegin 0 8).wf = false ∧
    (Instr.commitPoint 8).wf = false ∧ (Instr.latchPoint 8).wf = false ∧ (Instr.snapshotHoldExpiry 4).wf = false := by
  decide

/-! ## Worked examples of the spec -/

/-- Table 1-6: rows of the full grid in eight groups. -/
theorem test_groups_of_full_grid :
    rowGroup 8 54 6 = 0 ∧ rowGroup 8 54 7 = 1 ∧ rowGroup 8 54 20 = 2 ∧ rowGroup 8 54 21 = 3 ∧ rowGroup 8 54 26 = 3 ∧
    rowGroup 8 54 27 = 4 ∧ rowGroup 8 54 53 = 7 := by decide

/-- R32: request 400 under a FLOOR of 800, a FLOOR of 1200 and a CEILING of 1000. -/
theorem test_bounded_level :
    boundedLevel
      [⟨.picture, 0, .floor, ⟨0, 0, 0, 0⟩, 800, 0, true⟩, ⟨.panel, 0, .floor, ⟨0, 0, 0, 0⟩, 1200, 0, true⟩,
        ⟨.panel, 1, .ceiling, ⟨0, 0, 0, 0⟩, 1000, 0, true⟩] none 0 0 400 = 1000 := by decide

/-- 2.3.1: easing across frames, rise 300, fall 500. -/
theorem test_easing :
    easedLevel false 2000 1000 300 500 = 1300 ∧ easedLevel false 200 1600 300 500 = 1100 ∧
    easedLevel true 3500 200 300 500 = 3500 := by decide

/-- 2.6.1: two zones under a tight budget. -/
theorem test_two_zones_under_budget :
    calibratedDrive 2920 1100 = 3137 ∧ calibratedDrive 1000 980 = 957 ∧ deratedDrive 957 192 = 717 ∧
    budgetScale 4 770800 = 44576 ∧ limitedDrive 3137 44576 = 2133 ∧ limitedDrive 717 44576 = 487 ∧
    emittedLevel 2133 1100 = 1985 ∧ emittedLevel 487 980 = 508 := by decide

/-- 8.5: averages 300, 520 and 645 at the power-on parameters, and one move of a factor. -/
theorem test_thermal :
    temperatureOf ⟨100, -160, 70, 95, 128⟩ 520 = 79 ∧ derateCurve ⟨100, -160, 70, 95, 128⟩ 79 = 210 ∧
    temperatureOf ⟨100, -160, 70, 95, 128⟩ 300 = 88 ∧ derateCurve ⟨100, -160, 70, 95, 128⟩ 88 = 164 ∧
    temperatureOf ⟨100, -160, 70, 95, 128⟩ 645 = 74 ∧ slew 170 164 = 164 ∧ slew 210 164 = 202 := by decide

/-- 5.2: the smallest range that covers channels 4 and 9. -/
theorem test_smallest_range :
    differing (List.replicate 16 100) [100, 100, 100, 100, 250, 100, 100, 100, 100, 90, 100, 100, 100, 100, 100, 100]
      = [4, 9] := by decide

/-- 9.3.1: widths on one zone. -/
theorem test_widths :
    run8Level 167 1000 = 2672 ∧ fine4Level 9 2672 = 2681 ∧ nudgeLevel (-20) 2681 = 2661 ∧
    nudgeLevel 100 4090 = 4095 := by decide

/-! ## Small states -/

/-- A record of an assigned driver of group 0. -/
def record0 : Mirror := { Mirror.powerOn with assigned := true, group := some 0, known := true }

/-- A RUNNING chain with one driver. -/
def chain0 : Chain :=
  { Chain.powerOn with
    state := .running, drivers := 1, count := 1, attempts := 1
    mirror := record0 :: List.replicate 47 Mirror.powerOn
    pollDue := some (us 2000), runDue := some (ms 10000) }

/-- A timebase LOCKED with a period of 16,667 µs. -/
def locked : Timebase := ⟨.locked, 16667, 16667, some 16667, 0, some 0, false, none, 1⟩

/-- A part in CONFIG with a grid of one column and two rows, zone 0 mapped to a chain of one driver. -/
def configured : State :=
  { State.reset with
    grid := ⟨1, 2⟩
    zones := [⟨some ⟨0, 0, 0⟩, 1024, none, .none, 0, 0, false⟩, Zone.fresh]
    request := RequestStore.fresh 2
    pass := { State.reset.pass with buffer := [0, 0] }
    chains := { Chain.powerOn with state := .stopped, drivers := 1 } :: List.replicate 7 Chain.powerOn }

/-- The same part RUNNING on chain 0, following sync, with one window, one report and one snapshot. -/
def serving : State :=
  { configured with
    windows := [⟨.panel, 7, .ceiling, ⟨0, 0, 0, 1⟩, 4095, 4095, false⟩]
    timebase := locked
    chains := chain0 :: List.replicate 7 Chain.powerOn
    thermal := { State.reset.thermal with converting := true }
    reports := ⟨[⟨.chain 0 0, .chainRestored, .recovered, false, false, none, 1⟩], true, false,
      ⟨some (ms 2000), 15, some ⟨0, 0, 1, record0, 0, 0, 0⟩⟩ :: List.replicate 3 SnapBuffer.fresh, 2000⟩
    system := { State.reset.system with part := .running } }

/-- The same part with chain 0 changed. -/
def servingWith (f : Chain → Chain) : State := { serving with chains := f chain0 :: List.replicate 7 Chain.powerOn }

/-- The same part with a pass in a stage, zone 0 LIT in its sample. -/
def passing (phase : PassPhase) : State :=
  { serving with
    request := ⟨[0, 0], none, ⟨[4095, 0], 7, false⟩⟩
    pass := { serving.pass with
      phase := phase, work := [⟨4095, 4095, 4095, 4095⟩, ⟨0, 0, 0, 0⟩], power := 524160
      sample := { Sample.none with
        taken := true
        zones := [⟨.lit, some ⟨0, 0, 0⟩, 1024, none⟩, ⟨.unmapped, none, 1024, none⟩]
        rise := 4095, fall := 4095, budget := 4
        chains := ⟨true, 128, 256, 1⟩ :: List.replicate 7 ⟨false, 128, 256, 0⟩ } }
    schedule := { serving.schedule with
      points := some ⟨0, us 800, false, false, List.replicate 8 .notCarried⟩ :: List.replicate 7 none } }

/-! ## The line round the loop -/

/-- Two drivers as they power up. -/
def twoDrivers : List Driver := List.replicate 2 (Driver.powerUp 1 false false)

set_option maxRecDepth 10000 in
/-- R80, R74: an ASSIGN on an undamaged line is taken by the first driver alone, and comes back as `echoBits` says. -/
theorem test_assign_goes_round :
    (roundLoop (fun _ i => i) 0 twoDrivers (.frame (frameBits (.assign 0 none) 0 (.taken false)))).1.map Driver.address
        = [some 0, none] ∧
    (roundLoop (fun _ i => i) 0 twoDrivers (.frame (frameBits (.assign 0 none) 0 (.taken false)))).2
        = .frame (echoBits twoDrivers (.assign 0 none) 0) := by decide

set_option maxRecDepth 10000 in
/-- R76: a CLEAR damaged ahead of the first driver is counted by it, not acted on, and sent on with a wrong CRC. -/
theorem test_damage_stays_damage :
    let d : Driver := { Driver.powerUp 1 false false with address := some 3 }
    let y := d.receive ((frameBits .clear 0 (.cleared 0)).set 30 true)
    y.1 = { d with damagedFrames := 1 } ∧ crcRight y.2 = false := by decide

/-- R72: a frame whose start is destroyed ahead of a driver goes on as idle, and silence as silence. -/
theorem test_destroyed_start_vanishes :
    (roundLoop (fun k i => if k = 1 then .broken 64 else i) 0 twoDrivers (.frame (frameBits .clear 0 (.cleared 0)))).2
        = .idle 64 ∧
    (roundLoop (fun _ i => i) 0 twoDrivers (.silence 64)).2 = .silence 64 := by decide

/-- R72, R74: the outgoing line at rest on an UNUSED chain, else the frame being sent and idle behind it. -/
theorem test_outgoing_line :
    (serving.chain 7).outLine 0 = .rest ∧ (serving.chain 0).outLine 0 = .idle ∧
    (chain0.granted 100 (.poll 0) false).outLine 291 = .frame ⟨.poll 0, 0⟩ ∧
    (chain0.granted 100 (.poll 0) false).outLine 292 = .idle := by decide

/-! ## The incoming panel line -/

set_option maxRecDepth 20000 in
/-- R173: a RESUME between idle is received when its end symbol has come, and one cut short by a second start symbol, by
silence or by idle is discarded, what follows it being received. -/
theorem test_incoming_line :
    let resume := messageOnLine (panelFrame [4])
    let begun := startSymbol ++ (byteBits [4]).flatMap lineBit
    panelCommands 30 100 (idlePattern 3 ++ resume ++ idlePattern 8) = [.resume 143] ∧
    panelCommands 30 0 (begun ++ resume) = [.messageDiscarded 24 .cutShort, .resume 56] ∧
    panelCommands 30 0 (begun ++ silentLine false 16) = [.messageDiscarded 17 .cutShort] ∧
    panelCommands 30 0 (begun ++ idlePattern 40) = [.messageDiscarded 44 .cutShort] ∧
    panelCommands 30 0 (messageOnLine [4, 0, 0]) = [.messageDiscarded 40 .wrongCrc] := by decide

/-! ## Witnesses: the machine and its invariants -/

/-- The commands that wait: one that a step takes. -/
def busy : State := { serving with pending := [.clearWindows 0] }

theorem witness_StepTakesFrontCommand : State.reset.pending = [] := rfl

theorem witness_step_answers : ∃ u, step busy = .next u := ⟨_, rfl⟩

theorem witness_WindowListStaysSound : WindowsSound busy :=
  ⟨by decide, by decide, by decide, by decide⟩

theorem witness_ChannelMapStaysSound : MapSound busy := by
  refine ⟨rfl, ?_, by decide, by decide⟩
  have only : ∀ i x, (busy.zone i).channel = some x → i = 0 := by
    intro i x h
    match i with
    | 0 => rfl
    | 1 => cases h
    | n + 2 => cases h
  intro i j x hi hj
  rw [only i x hi, only j x hj]

theorem levelsOk_zeros (n : Nat) : levelsOk (List.replicate n 0) := by
  intro x h
  rw [(List.mem_replicate.mp h).2]
  exact Nat.zero_le _

theorem powerOn_levels : Chain.powerOn.LevelsOk := by
  refine ⟨?_, fun _ h => (by cases h), fun _ h => (by cases h), fun _ h => (by cases h)⟩
  intro m h
  rw [(List.mem_replicate.mp h).2]
  exact levelsOk_zeros 16

theorem chain0_levels : chain0.LevelsOk := by
  refine ⟨?_, fun _ h => (by cases h), fun _ h => (by cases h), fun _ h => (by cases h)⟩
  intro m h
  have h' : m = record0 ∨ m = Mirror.powerOn := by simpa [chain0] using h
  rcases h' with rfl | rfl <;> exact levelsOk_zeros 16

theorem witness_LevelsStayInRange : LevelsSound busy where
  openSet := levelsOk_zeros 2
  slot := fun _ h => (nomatch h)
  current := levelsOk_zeros 2
  windows := by decide
  zones := by decide
  overrides := by decide
  sampledWindows := by decide
  sampledOverrides := by decide
  work := fun _ h => (nomatch h)
  buffer := levelsOk_zeros 2
  chains := by
    intro ch h
    have h' : ch = chain0 ∨ ch = Chain.powerOn := by simpa [busy, serving] using h
    rcases h' with rfl | rfl
    · exact chain0_levels
    · exact powerOn_levels
  sections := fun _ h => (by cases h)
  sending := fun _ h => (nomatch h)
  probe := fun _ h => (nomatch h)
  scale := by decide
  factors := by decide
  applied := by decide
  floor := by decide

theorem witness_FactorsAndCountersStayInRange : DerateSound busy ∧ CountersSound busy ∧ SizesSound busy := by
  refine ⟨⟨by decide, ?_⟩, ⟨by decide, ?_⟩, by decide, by decide, ?_, by decide, by decide, by decide, by decide, by decide⟩
  · decide
  · decide
  · intro x h; cases h

theorem witness_ReportUnitStaysSound : ReportsSound busy := by
  refine ⟨by decide, by decide, ?_, rfl, by decide⟩
  intro e h
  cases h
  rfl

theorem witness_PanelPortStaysSound : PanelSound busy := ⟨by decide, by decide, fun _ => ⟨rfl, rfl, rfl⟩⟩

/-- An engine as it stands at power-on is sound. -/
theorem powerOn_sound : Chain.powerOn.Sound := by
  refine ⟨rfl, by decide, ?_, ?_, ?_, ?_, ?_, ?_, ?_, ?_⟩
  · intro i f h; cases i <;> cases h
  · intro h; cases h
  · intro h; exact absurd rfl h
  · intro h; exact absurd rfl h
  · intro h; exact absurd rfl h
  · intro _ _; rfl
  · intro _; exact ⟨rfl, rfl, rfl, rfl, rfl, rfl, rfl, rfl⟩
  · exact ⟨fun _ => rfl, fun _ => rfl⟩

/-- A STOPPED engine with one driver is sound. -/
theorem stopped_sound : ({ Chain.powerOn with state := .stopped, drivers := 1 } : Chain).Sound := by
  refine ⟨rfl, by decide, ?_, ?_, ?_, ?_, ?_, ?_, ?_, ?_⟩
  · intro i f h; cases i <;> cases h
  · intro h; cases h
  · intro h; exact absurd rfl h
  · intro h; exact absurd rfl h
  · intro h; exact absurd rfl h
  · intro _ _; rfl
  · intro _; exact ⟨rfl, rfl, rfl, rfl, rfl, rfl, rfl, rfl⟩
  · exact ⟨fun h => (nomatch h), fun h => (nomatch h)⟩

/-- Chain 0, its problem mark set or not, is sound. -/
theorem chain0_sound (problem : Bool) (count : Nat) :
    ({ chain0 with problem := problem, problemCount := count } : Chain).Sound := by
  refine ⟨rfl, Nat.zero_le 4, ?_, ?_, ?_, ?_, ?_, ?_, ?_, ?_⟩
  · intro i f h; cases i <;> cases h
  · intro _; exact ⟨rfl, rfl, fun _ h => (by cases h)⟩
  · intro h; exact absurd rfl h
  · intro h; exact absurd rfl h
  · intro h; exact absurd rfl h
  · intro h; exact absurd rfl h
  · intro h; exact absurd rfl h
  · exact ⟨fun h => (nomatch h), fun h => (nomatch h)⟩

/-- A part whose chain 0 is sound, the others as at power-on. -/
theorem chainsSound_of (s : State) (ch : Chain) (hs : s.chains = ch :: List.replicate 7 Chain.powerOn) (h : ch.Sound)
    (hc : s.system.part = .config → ch.state = .unused ∨ ch.state = .stopped) : ChainsSound s := by
  have only : ∀ x ∈ s.chains, x = ch ∨ x = Chain.powerOn := by
    intro x hx
    simpa [hs] using hx
  refine ⟨by rw [hs]; rfl, ?_, ?_⟩
  · intro x hx
    rcases only x hx with rfl | rfl
    · exact h
    · exact powerOn_sound
  · intro hp x hx
    rcases only x hx with rfl | rfl
    · exact hc hp
    · exact .inl rfl

theorem witness_ChainEnginesStaySound : ChainsSound busy :=
  chainsSound_of busy chain0 rfl (chain0_sound false 0) fun h => (nomatch h)

/-- A timebase in FREE whose pending frame start lies `d` µs after the last one. -/
def freeAt (d : Nat) : State :=
  { State.reset with timebase := { State.reset.timebase with pendingStart := some (us d) } }

theorem freeAt_sound (d : Nat) (h1 : 4100 ≤ d) (h2 : d ≤ 42000) :
    (freeAt d).timebase.Sound (freeAt d).now ∧ (freeAt d).inTime .generatedFrameStart := by
  refine ⟨⟨Nat.le_refl 0, fun _ h => (nomatch h), ⟨?_, ?_⟩, ⟨?_, ?_⟩, fun _ h => (nomatch h), ?_, fun h => (nomatch h),
    fun h => (nomatch h), fun h => (nomatch h), fun h => (nomatch h), fun _ h => (nomatch h), Nat.zero_le _⟩,
    ⟨?_, ?_⟩, ?_⟩
  · show 4100 ≤ 16667; decide
  · show 16667 ≤ 42000; decide
  · show 4100 ≤ 16667; decide
  · show 16667 ≤ 42000; decide
  · intro x h
    cases h
    exact ⟨by show 0 + 48 * 4100 ≤ 48 * d; omega, by show 48 * d ≤ 0 + 48 * 42000; omega⟩
  · intro x _; exact Nat.zero_le x
  · intro x h; cases h
  · intro t h; cases h

/-- The shortest and the longest frame of a timebase that generates its own frame starts, and the frame start itself. -/
theorem witness_TimebaseStaysSound :
    ((freeAt 4100).timebase.Sound (freeAt 4100).now ∧ (freeAt 4100).inTime .generatedFrameStart ∧
      ∃ u, exec .generatedFrameStart (freeAt 4100) = .next u ∧
        u.timebase.counter ≠ (freeAt 4100).timebase.counter) ∧
    ((freeAt 42000).timebase.Sound (freeAt 42000).now ∧ (freeAt 42000).inTime .generatedFrameStart ∧
      ∃ u, exec .generatedFrameStart (freeAt 42000) = .next u ∧
        u.timebase.counter ≠ (freeAt 42000).timebase.counter) :=
  ⟨⟨(freeAt_sound 4100 (by decide) (by decide)).1, (freeAt_sound 4100 (by decide) (by decide)).2, _, rfl, by decide⟩,
    ⟨(freeAt_sound 42000 (by decide) (by decide)).1, (freeAt_sound 42000 (by decide) (by decide)).2, _, rfl, by decide⟩⟩

/-- Chain 0 with a LATCH in flight, its latched mark clear. -/
def latching : State :=
  servingWith fun ch => { ch with inflight := [⟨.latch 1, 0, 128, false, true⟩], sentCount := 1 }

/-- The echo of that LATCH, with one driver's count. -/
def latchEcho : List Bool := frameBits (.latch 1) 0 (.latches 1)

set_option maxRecDepth 10000 in
theorem witness_BlankReleasedOnlyByEcho :
    ∃ u, exec (.echoEnd 0 0 latchEcho) latching = .next u ∧ latching.blankAsserted 0 = true ∧
      u.blankAsserted 0 = false := ⟨_, rfl, by decide, by decide⟩

/-- A pass in each stage meets the invariant, and a step leads from one stage to the next. -/
theorem witness_LimitedDrivesMeetTheBudget :
    BudgetSound { passing .composing with pending := [.compositionEnd] } ∧ BudgetSound (passing .limiting) ∧
    BudgetSound (passing .emitting) ∧
    ∃ u, step { passing .composing with pending := [.compositionEnd] } = .next u ∧ u.pass.phase = .limiting ∧
      u.pass.power = 524160 :=
  ⟨⟨by decide, by decide, by decide⟩, ⟨by decide, by decide, by decide⟩, ⟨by decide, by decide, by decide⟩, _, rfl, rfl,
    by decide⟩

/-! ## Witnesses: starting points and settings -/

theorem startAllowed_configured : StartAllowed configured where
  grid := by decide
  mapped := ⟨_, List.mem_cons_self, by decide⟩
  served := by
    intro z hz x hx
    have h : z = ⟨some ⟨0, 0, 0⟩, 1024, none, .none, 0, 0, false⟩ ∨ z = Zone.fresh := by simpa [configured] using hz
    rcases h with rfl | rfl
    · cases hx; decide
    · cases hx
  groups := by
    intro i j x y hi hj _ _
    have only : ∀ n x, (configured.zone n).channel = some x → n = 0 := by
      intro n x h
      match n with
      | 0 => rfl
      | 1 => cases h
      | m + 2 => cases h
    rw [only i x hi, only j y hj]

theorem witness_StartBeginsService :
    serving.system.part ≠ .config ∧
    (State.reset.system.part = .config ∧ ¬ StartAllowed State.reset) ∧
    (configured.system.part = .config ∧ StartAllowed configured ∧
      (0 < configured.chains.length ∧ (configured.chain 0).drivers ≠ 0) ∧
      (7 < configured.chains.length ∧ (configured.chain 7).drivers = 0)) :=
  ⟨by decide, ⟨rfl, fun h => absurd h.grid (by decide)⟩, rfl, startAllowed_configured, by decide, by decide⟩

/-- Of STOP: a chain with drivers in RUNNING, one that was not RUNNING, and the last chain, without; a pass in progress
and none. -/
theorem witness_StopLeavesService :
    (0 < serving.chains.length ∧ (serving.chain 0).drivers ≠ 0 ∧ (serving.chain 0).state = .running) ∧
    (0 < configured.chains.length ∧ (configured.chain 0).drivers ≠ 0 ∧ (configured.chain 0).state ≠ .running) ∧
    (7 < serving.chains.length ∧ (serving.chain 7).drivers = 0) ∧ serving.pass.phase = .idle ∧
    (passing .emitting).pass.phase ≠ .idle := by decide

theorem witness_SoftRestartSetsAfresh :
    (0 < serving.chains.length ∧ (serving.chain 0).drivers ≠ 0) ∧
    (7 < serving.chains.length ∧ (serving.chain 7).drivers = 0) := by decide

theorem witness_SetGridStartsAfresh :
    serving.system.part ≠ .config ∧ configured.system.part = .config ∧
    ¬ (1 ≤ 0 ∧ 0 ≤ 96 ∧ 1 ≤ 1 ∧ 1 ≤ 54) ∧ ¬ (1 ≤ 97 ∧ 97 ≤ 96 ∧ 1 ≤ 54 ∧ 54 ≤ 54) ∧
    ¬ (1 ≤ 96 ∧ 96 ≤ 96 ∧ 1 ≤ 55 ∧ 55 ≤ 54) ∧ configured.grid = ⟨1, 2⟩ ∧ configured.grid ≠ ⟨96, 54⟩ ∧
    configured.grid ≠ ⟨1, 1⟩ := by decide

theorem witness_SetChainStoresItsSettings :
    (7 < 8 ∧ 48 < 49 ∧ 7 ≤ 7 ∧ 48 ≤ 48) ∧
    (serving.system.part ≠ .config ∧ 48 ≠ (serving.chain 0).drivers) ∧
    (serving.system.part ≠ .config ∧ 1 = (serving.chain 0).drivers) ∧
    (configured.system.part = .config ∧ 0 ≠ (configured.chain 0).drivers ∧ 48 ≠ (configured.chain 7).drivers) ∧
    (∃ i, some 8 = some i ∧ 7 < i) ∧ (∀ i, some 7 = some i → i ≤ 7) ∧ (∀ i, (none : Option Nat) = some i → i ≤ 7) :=
  ⟨by decide, by decide, by decide, by decide, ⟨8, rfl, by decide⟩, fun i h => (by cases h; decide),
    fun i h => (by cases h)⟩

theorem witness_MapAndUnmapChangeOneRecord :
    serving.system.part ≠ .config ∧
    (configured.system.part = .config ∧ configured.zones.length = configured.grid.count ∧ configured.grid.count ≤ 2 ∧
      1 < configured.grid.count) ∧
    (∃ j, j ≠ 1 ∧ (configured.zone j).channel = some ⟨0, 0, 0⟩) ∧
    (∀ j, j ≠ 0 → (configured.zone j).channel ≠ some ⟨0, 0, 0⟩) ∧
    (∀ j, j ≠ 1 → (configured.zone j).channel ≠ some ⟨7, 47, 15⟩) := by
  refine ⟨by decide, by decide, ⟨0, by decide, rfl⟩, ?_, ?_⟩
  · intro j hj h
    match j with
    | 0 => exact hj rfl
    | 1 => cases h
    | n + 2 => cases h
  · intro j hj h
    match j with
    | 0 => cases h
    | 1 => exact hj rfl
    | n + 2 => cases h

theorem witness_SetGroupsAndProfile :
    [1023, 0, 0, 0, 0, 0, 0, 0].length = 8 ∧ (∀ x ∈ [1023, 0, 0, 0, 0, 0, 0, 0], x ≤ 1023) ∧
    [1024, 0, 0, 0, 0, 0, 0, 0].length = 8 ∧ ¬ (∀ x ∈ [1024, 0, 0, 0, 0, 0, 0, 0], x ≤ 1023) ∧
    (serving.system.part ≠ .config ∧ 8 ≠ serving.schedule.groups) ∧
    (serving.system.part ≠ .config ∧ 1 = serving.schedule.groups) ∧ configured.system.part = .config := by decide

theorem witness_SetPowerEasingAndService :
    (0 : BitVec 16).toNat % 4096 = 0 ∧ (4096 : BitVec 16).toNat % 4096 = 0 ∧ (1 : BitVec 16).toNat % 4096 ≠ 0 ∧
    (65535 : BitVec 16).toNat % 4096 ≠ 0 ∧
    ¬ (500 ≤ 750 ∧ 750 ≤ 16000 ∧ 750 % 500 = 0 ∧ 250 ≤ 250 ∧ 250 ≤ 8000 ∧ 250 % 250 = 0) ∧
    (500 ≤ 500 ∧ 500 % 500 = 0 ∧ 250 ≤ 250 ∧ 250 % 250 = 0) ∧
    (16000 ≤ 16000 ∧ 16000 % 500 = 0 ∧ 8000 ≤ 8000 ∧ 8000 % 250 = 0) := by decide

theorem witness_SetThermalAndTimebase :
    ((⟨-128, -4096, -128, -127, 64⟩ : ThermalParams).tStart < (⟨-128, -4096, -128, -127, 64⟩ : ThermalParams).tStop) ∧
    ((⟨127, 4095, 126, 127, 256⟩ : ThermalParams).tStart < (⟨127, 4095, 126, 127, 256⟩ : ThermalParams).tStop) ∧
    ¬ ((⟨0, 0, 70, 70, 64⟩ : ThermalParams).tStart < (⟨0, 0, 70, 70, 64⟩ : ThermalParams).tStop) ∧
    4099 < 4100 ∧ 42000 < 42001 := by decide

theorem witness_FollowSyncAndFreeRun :
    State.reset.timebase.state = .free ∧
    (serving.timebase.state ≠ .free ∧ serving.timebase.freeRun = false) ∧
    ∃ s : State, s.timebase.state ≠ .free ∧ s.timebase.freeRun = true :=
  ⟨rfl, by decide, { serving with timebase := { locked with freeRun := true } }, by decide⟩

theorem witness_LoadGainsStoresClampedGains :
    configured.zones.length = configured.grid.count ∧ configured.grid.count < 1 + [512, 1535].length ∧
    ([511, 1536] ≠ [] ∧ [511, 1536].length ≤ 32 ∧ 0 + [511, 1536].length ≤ configured.grid.count ∧
      ¬ ∀ g ∈ [511, 1536], 512 ≤ g ∧ g ≤ 1535) ∧
    (0 + [512, 1535].length ≤ configured.grid.count ∧ ∀ g ∈ [512, 1535], 512 ≤ g ∧ g ≤ 1535) := by decide

/-- Of SET OVERRIDE, CLEAR OVERRIDE, PROBE and CLEAR FAULT: the last zone, mapped or not, and the index above it. -/
theorem witness_OverridesAndProbeAreSet :
    serving.zones.length = serving.grid.count ∧ serving.grid.count ≤ 2 ∧ 1 < serving.grid.count ∧ 4095 < 4096 := by
  decide

theorem witness_ClearFaultReturnsZoneToService :
    (serving.zone 1).channel = none ∧ (serving.zone 0).channel = some ⟨0, 0, 0⟩ ∧ serving.grid.count ≤ 2 ∧
    0 < serving.grid.count := by decide

theorem witness_ReadsChangeOnlyTheResponse :
    serving.grid.count ≤ 2 ∧ 1 < serving.grid.count ∧ 7 < serving.chains.length ∧ DerateSound serving :=
  ⟨by decide, by decide, by decide, by decide, by decide⟩

theorem witness_UnknownWriteIsRefused :
    sysCommandOf (255 : Byte).toNat = none ∧
    ∃ b : Byte, ∃ cmd, sysCommandOf b.toNat = some cmd ∧ cmd.length [b] ≠ 0 + 1 :=
  ⟨by decide, (((encodeWrite (.setGrid 0 1 1)).getD []).headD 0), .setGrid, by decide⟩

/-! ## Witnesses: chain service, blank and reports -/

theorem witness_RestartChainEnumeratesAfresh :
    (configured.system.part = .config ∨ (configured.chain 7).state = .unused) ∧ (serving.chain 7).state = .unused ∧
    (serving.system.part ≠ .config ∧ (serving.chain 0).state ≠ .unused ∧ (serving.chain 0).state = .running) := by
  decide

theorem witness_ChainTimersAct :
    ((serving.chain 0).wait = none ∧ (serving.chain 7).runDue = none ∧ (serving.chain 7).pollDue = none) ∧
    ((servingWith fun ch => { ch with state := .recovering, wait := some (ms 1) }).chain 0).wait = some (ms 1) ∧
    (serving.chain 0).runDue = some (ms 10000) ∧
    ((serving.chain 0).pollDue = some (us 2000) ∧ (serving.chain 0).poll = none ∧
      (∃ m ∈ (serving.chain 0).mirror, m.assigned = true) ∧
      (∀ a, a < 48 → (serving.chain 0).pollPointer < a → ((serving.chain 0).record a).assigned = false)) ∧
    ((servingWith fun ch => { ch with poll := some ⟨0, 0, false⟩ }).chain 0).poll ≠ none ∧
    (((servingWith fun ch => { ch with mirror := List.replicate 48 Mirror.powerOn }).chain 0).pollDue = some (us 2000) ∧
      ∀ m ∈ ((servingWith fun ch => { ch with mirror := List.replicate 48 Mirror.powerOn }).chain 0).mirror,
        m.assigned = false) ∧
    ∃ a, a < 48 ∧ ((servingWith fun ch => { ch with mirror := ch.mirror.set 47 record0 }).chain 0).pollPointer < a ∧
      (((servingWith fun ch => { ch with mirror := ch.mirror.set 47 record0 }).chain 0).record a).assigned = true :=
  ⟨by decide, rfl, rfl, ⟨rfl, rfl, ⟨_, List.mem_cons_self, rfl⟩, by decide⟩, by decide, by decide, 47, by decide⟩

theorem witness_DirectCommandsAreChecked :
    (∀ code, DirectKind.trim 255 = .trim code → code ≤ 255) ∧
    (∃ code, DirectKind.trim 256 = .trim code ∧ 255 < code) ∧
    (serving.chain 7).state ≠ .running ∧
    ((serving.chain 0).state = .running ∧ ((serving.chain 0).record 47).assigned = false ∧
      ((serving.chain 0).record 0).assigned = true ∧ ¬ serving.directWaits 0) ∧
    (servingWith fun ch => { ch with direct := some ⟨0, .ident, 0, false⟩ }).directWaits 0 := by
  refine ⟨fun code h => (by cases h; decide), ⟨256, rfl, by decide⟩, by decide, ⟨rfl, rfl, rfl, ?_⟩, ?_⟩
  · rintro (h | ⟨f, h, _⟩)
    · exact h rfl
    · cases h
  · exact .inl (by decide)

theorem witness_BlankClaimsMoveTheLines :
    ∃ s : State, s.claims.picture = true ∨ s.claims.panel = true ∨ s.claims.system = true :=
  ⟨{ serving with claims := ⟨true, false, false⟩ }, .inl rfl⟩

theorem witness_ReportsSnapshotsAndCountersAreRead :
    configured.reports.queue = [] ∧ (∃ e rest, serving.reports.queue = e :: rest) ∧
    (∃ x c, serving.reports.buffers[0]? = some x ∧ x.generation = 15 ∧ x.content = some c ∧
      x.expires = some (ms 2000)) ∧
    (∃ x, serving.reports.buffers[3]? = some x ∧ x.generation ≠ 15 ∧ x.content = none ∧ x.expires = none) :=
  ⟨rfl, ⟨_, _, rfl⟩, ⟨_, _, rfl, rfl, rfl, rfl⟩, _, rfl, by decide⟩

/-! ## Witnesses: ports -/

/-- The same part in the DENSE profile with the sequence pointer at `p`. -/
def dense (p : Nat) : State :=
  { serving with picture := { serving.picture with profile := .dense, pointer := p } }

theorem witness_CaptureStatusAndMalformed :
    ([9, 0, 0, 0, 0] ≠ ([] : List Byte) ∧ 0 < 7) ∧
    ([9, 0, 0, 0] ≠ ([] : List Byte) ∧ pictureLength [9, 0, 0, 0] ≠ some [9, 0, 0, 0].length) ∧
    (pictureLength [9, 0, 0, 0, 0] = some [9, 0, 0, 0, 0].length) := by decide

theorem witness_SparseRunsWriteLevels :
    serving.picture.profile = .sparse ∧ serving.request.openSet.length = serving.grid.count ∧
    serving.grid.count ≤ 2 ∧ 1 < serving.grid.count := by decide

theorem witness_DenseRunsFollowTheSequence :
    ((dense 2).picture.profile = .dense ∧ (dense 2).request.openSet.length = (dense 2).grid.count ∧
      (2 = (dense 2).picture.pointer ∧ (dense 2).grid.count ≤ 2)) ∧
    ((dense 1).picture.profile = .dense ∧ (dense 1).request.openSet.length = (dense 1).grid.count ∧
      (dense 1).grid.count ≠ 0 ∧ 0 ≠ (dense 1).picture.pointer ∧ 2 ≠ (dense 1).picture.pointer ∧
      (1 = (dense 1).picture.pointer ∧ 1 < (dense 1).grid.count)) := by decide

theorem witness_NudgeAndClose :
    (serving.request.openSet.length = serving.grid.count ∧ serving.picture.profile = .sparse ∧
      serving.grid.count ≠ 0 ∧ 0 ≤ 255 ∧ 1 ≤ 1) ∧
    (State.reset.request.openSet.length = State.reset.grid.count ∧ State.reset.picture.profile = .sparse ∧
      State.reset.grid.count = 0) ∧
    ((dense 1).request.openSet.length = (dense 1).grid.count ∧ (dense 1).picture.profile = .dense ∧
      (dense 1).picture.pointer < (dense 1).grid.count) ∧
    (dense 2).grid.count ≤ (dense 2).picture.pointer := by decide

/-- The same part with `n` windows, none of the PICTURE port. -/
def withWindows (n : Nat) : State :=
  { serving with windows := List.replicate n ⟨.panel, 0, .floor, ⟨0, 0, 0, 0⟩, 0, 0, false⟩ }

theorem witness_WindowsAreKeptByKey :
    7 < 8 ∧ State.reset.grid.count = 0 ∧ serving.grid.count ≠ 0 ∧
    (∃ x ∈ serving.windows, x.key = (.panel, 7)) ∧
    ((∀ x ∈ (withWindows 15).windows, x.key ≠ (.picture, 0)) ∧ (withWindows 15).windows.length < 16) ∧
    ((∀ x ∈ (withWindows 16).windows, x.key ≠ (.picture, 0)) ∧ 16 ≤ (withWindows 16).windows.length) := by
  refine ⟨by decide, by decide, by decide, ⟨_, List.mem_cons_self, rfl⟩, by decide, by decide⟩

/-- The same part with HOLD in force, `count` frames of a maximum of 3 counted. -/
def holding (count : Nat) : State :=
  { serving with schedule := { serving.schedule with hold := .inForce, holdCount := count, holdMax := 3 } }

theorem witness_HoldAndResumeFollowTheTable :
    (255 : BitVec 8) ≠ 0 ∧ (1 : BitVec 8) ≠ 0 ∧ serving.schedule.hold ≠ .inForce ∧
    (holding 1).schedule.holdCount + 1 < (holding 1).schedule.holdMax ∧
    ((holding 2).schedule.hold = .inForce ∧ (holding 2).schedule.resumeMark = false ∧
      (holding 2).schedule.holdMax ≤ (holding 2).schedule.holdCount + 1) := by decide

/-- The same part with `n` entries in its report queue. -/
def reporting (n : Nat) : State :=
  { serving with reports := { serving.reports with
      queue := List.replicate n ⟨.pass, .overrun, .active, false, false, none, 1⟩ } }

theorem witness_DiscardedMessagesAreReported :
    (reporting 31).reports.queue.length ≤ 31 ∧
    (∃ older newest, (reporting 32).reports.queue = older ++ [newest] ∧ 32 ≤ (reporting 32).reports.queue.length) :=
  ⟨by decide, List.replicate 31 _, _, rfl, by decide⟩

/-- The same part while a notice is being sent, with what waits behind it. -/
def sendingWith (held : Bool) (notices : List WindowNotice) (sections : List LightSection) : State :=
  { serving with panel := { serving.panel with
      sending := some ⟨.holdEnded, 64⟩, holdEnded := held, notices := notices, sections := sections } }

/-- A light section of no values. -/
def emptySection : LightSection := ⟨0, 1, 7, 0, 0, 2, 1, [0, 4095]⟩

theorem witness_OutgoingLineServesInOrder :
    serving.panel.sending = none ∧ (∃ x, (sendingWith true [] []).panel.sending = some x) ∧
    (sendingWith true [] []).panel.holdEnded = true ∧
    ((sendingWith false [⟨7, .full⟩] [emptySection]).panel.holdEnded = false ∧
      (sendingWith false [⟨7, .full⟩] [emptySection]).panel.notices = [⟨7, .full⟩]) ∧
    ((sendingWith false [] [emptySection]).panel.notices = [] ∧
      (sendingWith false [] [emptySection]).panel.sections = [emptySection]) ∧
    ((sendingWith false [] []).panel.notices = [] ∧ (sendingWith false [] []).panel.sections = []) ∧
    (sendingWith false [] []).panel.sending ≠ none ∧
    (List.replicate 7 (⟨7, .full⟩ : WindowNotice)).length < 8 ∧ 8 ≤ (List.replicate 8 (⟨7, .full⟩ : WindowNotice)).length ∧
    (List.replicate 7 emptySection).length < 8 ∧ 8 ≤ (List.replicate 8 emptySection).length ∧
    PanelSound serving :=
  ⟨rfl, ⟨_, rfl⟩, rfl, ⟨rfl, rfl⟩, ⟨rfl, rfl⟩, ⟨rfl, rfl⟩, by decide, by decide, by decide, by decide, by decide,
    ⟨by decide, by decide, fun _ => ⟨rfl, rfl, rfl⟩⟩⟩

/-! ## Witnesses: timebase and frame starts -/

/-- The same part with another timebase. -/
def withTimebase (tb : Timebase) : State := { serving with timebase := tb }

/-- An edge 4,100 µs after the last one and one unit before that; the bounds of a lock; the return from HOLDOVER. -/
theorem witness_EdgesMoveTheTimebase :
    State.reset.timebase.state = .free ∧
    ((withTimebase locked).timebase.state ≠ .free ∧ (withTimebase locked).timebase.freeRun = false ∧
      locked.lastEdge = some 0 ∧ (max (withTimebase locked).now (us 4100 - 1) < 0 + us 4100) ∧
      0 + us 4100 ≤ max (withTimebase locked).now (us 4100) ∧
      locked.lastStart + us 4100 ≤ max (withTimebase locked).now (us 4100)) ∧
    (∃ tb : Timebase, tb.state = .acquire ∧ tb.freeRun = false ∧ tb.lastEdge = none) ∧
    (∃ tb : Timebase, tb.state = .acquire ∧ tb.freeRun = false ∧ tb.lastEdge = some 0 ∧
      max (withTimebase tb).now (us 42000) ≤ 0 + us 42000 ∧ 0 + us 42000 < max (withTimebase tb).now (us 42000 + 1) ∧
      max (withTimebase tb).now (us 42000) < tb.lastStart + us 4100) ∧
    (∃ tb : Timebase, tb.state = .holdover ∧ tb.freeRun = false ∧ tb.lastEdge = some 0 ∧
      max (withTimebase tb).now (us 4100) < tb.lastStart + us 4100 ∧
      tb.lastStart + us 4100 ≤ max (withTimebase tb).now (us 4101)) :=
  ⟨rfl, by decide, ⟨{ locked with state := .acquire, lastEdge := none }, rfl, rfl, rfl⟩,
    ⟨{ locked with state := .acquire, lastStart := us 38000 }, rfl, rfl, rfl, by decide⟩,
    ⟨{ locked with state := .holdover, lastStart := us 1 }, rfl, rfl, rfl, by decide⟩⟩

theorem witness_PartGeneratesFrameStarts :
    (withTimebase locked).timebase.pendingStart = none ∧ State.reset.timebase.pendingStart = some (us 16667) ∧
    State.reset.timebase.state ≠ .locked ∧
    ((withTimebase locked).timebase.state = .locked ∧ (withTimebase locked).timebase.freeRun = false ∧
      (withTimebase locked).timebase.lastEdge = some 0 ∧ (withTimebase locked).timebase.period = some 16667) := by
  decide

/-- The same part at the frame start that finds chain 0's third problem frame. -/
def troubled : State := servingWith fun ch => { ch with problem := true, problemCount := 2 }

/-- Chain 0 at that frame start, with a DIRECT request waiting. -/
def askingChain : Chain := { chain0 with problem := true, problemCount := 2, direct := some ⟨0, .ident, 0, false⟩ }

/-- That part with the response buffer waiting for the request's result. -/
def asking : State :=
  { servingWith fun _ => askingChain with
    system := { serving.system with response := ⟨false, some .driverIdent, none, .none, some 0⟩ } }

theorem asking_sound : askingChain.Sound := by
  refine ⟨rfl, Nat.zero_le 4, ?_, ?_, ?_, ?_, ?_, ?_, ?_, ?_⟩
  · intro i f h; cases i <;> cases h
  · intro _; exact ⟨rfl, rfl, fun _ h => (by cases h)⟩
  · intro h; exact absurd rfl h
  · intro h; exact absurd rfl h
  · intro h; exact absurd rfl h
  · intro h; exact absurd rfl h
  · intro h; exact absurd rfl h
  · exact ⟨fun h => (nomatch h), fun h => (nomatch h)⟩

/-- Frame starts in CONFIG, in service with and without HOLD, and with a third problem frame, of a LOCKED and a FREE
timebase, for a group with rows and one without. -/
theorem witness_FrameStartsAreDelivered :
    (ChainsSound configured ∧ DerateSound configured ∧ configured.deliverFrame.system.part ≠ .running ∧
      configured.timebase.state = .free) ∧
    (ChainsSound serving ∧ DerateSound serving ∧ serving.deliverFrame.system.part = .running ∧
      serving.deliverFrame.schedule.hold ≠ .inForce ∧ serving.timebase.state = .locked ∧
      serving.timebase.period = some 16667 ∧ 0 < serving.schedule.groups ∧ serving.grid.rowsOf serving.schedule.groups 0 ≠ [] ∧
      ¬ (7 < serving.schedule.groups ∧ serving.grid.rowsOf serving.schedule.groups 7 ≠ [])) ∧
    (ChainsSound (holding 1) ∧ DerateSound (holding 1) ∧ (holding 1).deliverFrame.schedule.hold = .inForce) ∧
    (ChainsSound troubled ∧ DerateSound troubled ∧ (troubled.chain 0).problem = true ∧
      2 ≤ (troubled.chain 0).problemCount) ∧
    (ChainsSound asking ∧ DerateSound asking ∧ (asking.chain 0).problem = true ∧ 2 ≤ (asking.chain 0).problemCount ∧
      asking.directWaits 0 ∧ asking.system.response.waitsFor = some 0) ∧
    (ChainsSound (holding 2) ∧ DerateSound (holding 2) ∧ (holding 2).schedule.hold = .inForce ∧
      (holding 2).schedule.resumeMark = false ∧ (holding 2).schedule.holdMax ≤ (holding 2).schedule.holdCount + 1) :=
  ⟨⟨chainsSound_of _ { Chain.powerOn with state := .stopped, drivers := 1 } rfl stopped_sound fun _ => .inr rfl,
      ⟨by decide, by decide⟩, by decide, rfl⟩,
    ⟨chainsSound_of _ chain0 rfl (chain0_sound false 0) fun h => (nomatch h), ⟨by decide, by decide⟩, by decide⟩,
    ⟨chainsSound_of _ chain0 rfl (chain0_sound false 0) fun h => (nomatch h), ⟨by decide, by decide⟩, by decide⟩,
    ⟨chainsSound_of _ _ rfl (chain0_sound true 2) fun h => (nomatch h), ⟨by decide, by decide⟩, by decide⟩,
    ⟨chainsSound_of _ _ rfl asking_sound fun h => (nomatch h), ⟨by decide, by decide⟩, rfl, by decide,
      .inl fun h => (nomatch h), rfl⟩,
    chainsSound_of _ chain0 rfl (chain0_sound false 0) fun h => (nomatch h), ⟨by decide, by decide⟩, by decide⟩

/-- A chain in service whose zone last eased to 3000, and whose enumeration attempt has just assigned its one driver. -/
def returned : State :=
  ({ serving with zones := serving.zones.map fun z => { z with eased := 3000 } } : State).succeed 0 1

set_option maxRecDepth 10000 in
/-- R120, 6.3.1: a chain that has returned, though no pass found it away, eases its zones from 0 from the next pass on; its
record keeps the stored level until that pass begins. -/
theorem test_returned_zone_eases_from_zero :
    (returned.zone 0).eased = 3000 ∧ (returned.zone 0).relit = true ∧ (returned.zone 1).relit = false ∧
    (returned.deliverFrame.zone 0).eased = 0 ∧ (returned.deliverFrame.zone 0).relit = false ∧
    (returned.deliverFrame.zone 1).eased = 3000 := by decide

/-! ## Witnesses: the frame pass and the schedule -/

theorem witness_CompositionAndLimitingFollowTheFormulas :
    (passing .limiting).pass.phase ≠ .composing ∧ (passing .composing).pass.phase ≠ .limiting ∧
    ((passing .composing).pass.phase = .composing ∧ 1 < (passing .composing).grid.count ∧
      ((passing .composing).sampledZone 0).state = .lit ∧ ((passing .composing).sampledZone 1).state ≠ .lit ∧
      (passing .composing).pass.sample.entryMark = false ∧
      ((passing .composing).pass.sample.taken = false ∨ (passing .composing).pass.sample.sceneCut = false)) ∧
    (∃ s : State, s.pass.phase = .composing ∧ s.pass.sample.entryMark = true) ∧
    (passing .limiting).pass.phase = .limiting :=
  ⟨by decide, by decide, by decide, ⟨{ passing .composing with
    pass := { (passing .composing).pass with sample := { (passing .composing).pass.sample with entryMark := true } } },
    rfl, rfl⟩, rfl⟩

/-- The same pass in emission, the probe armed on zone 0. -/
def emitting : State := { passing .emitting with probe := ⟨0, .every, true, none⟩ }

theorem witness_EmissionStoresItsBlock :
    (passing .idle).pass.phase ≠ .emitting ∧
    (emitting.pass.phase = .emitting ∧ emitting.zones.length = emitting.grid.count ∧
      emitting.pass.buffer.length = emitting.grid.count ∧ emitting.pass.emitted.length = 8 ∧
      emitting.schedule.groups ≤ 8 ∧ 0 < emitting.grid.count ∧ 0 / 16 = emitting.pass.blocks ∧
      emitting.probe.zone = 0 ∧ emitting.probe.armed = true) ∧
    (passing .emitting).probe.armed = false := by decide

/-- Drivers to be staged whole, not at all and in part. -/
theorem witness_StagesBringTheMirrorUpToDate :
    (List.replicate 16 4095).length = 16 ∧ (chain0.record 0).shadow.length = 16 ∧
    ((Chain.powerOn.record 47).shadow.length = 16 ∧ (Chain.powerOn.record 47).known = false) ∧
    ¬ ((∃ e ∈ chain0.staging, e.address = 0) ∨ chain0.holds 0 ∨ (chain0.record 0).known = false) ∧
    (chain0.record 0).shadow = List.replicate 16 0 ∧ (chain0.record 0).shadow ≠ List.replicate 16 4095 ∧
    chain0.stageFor 0 1 0 (List.replicate 16 0) = none ∧
    (∃ e, chain0.stageFor 0 1 0 (List.replicate 16 4095) = some e ∧ e.duties.length = 16) := by
  refine ⟨by decide, by decide, by decide, ?_, by decide, by decide, by decide, ⟨_, rfl, by decide⟩⟩
  rintro (⟨e, h, _⟩ | ⟨f, h, _⟩ | h)
  · cases h
  · cases h
  · cases h

/-- A frame with the points of group 0 and, at another moment, those of group 7. -/
def twoPoints (reached latched : Bool) : State :=
  { passing .idle with
    schedule := { serving.schedule with
      groups := 8
      points := some ⟨0, us 800, reached, latched, .committed :: List.replicate 7 .notCarried⟩ :: List.replicate 6 none
        ++ [some ⟨us 100, us 900, false, false, List.replicate 8 .notCarried⟩] } }

theorem witness_CommitPointsDecideEachChain :
    (twoPoints false false).point 1 = none ∧
    (∃ p, (twoPoints true false).point 0 = some p ∧ p.reached = true) ∧
    (∃ p, (twoPoints false false).point 0 = some p ∧ p.reached = false) ∧
    (∃ p, (twoPoints false false).point 7 = some p ∧ p.reached = false) ∧ (twoPoints false false).chains.length = 8 :=
  ⟨rfl, ⟨_, rfl, rfl⟩, ⟨_, rfl, rfl⟩, ⟨_, rfl, rfl⟩, rfl⟩

theorem witness_LatchPointsQueueOneLatch :
    (twoPoints true false).point 1 = none ∧
    (∃ p, (twoPoints true true).point 0 = some p ∧ p.latched = true) ∧
    (∃ p, (twoPoints true false).point 7 = some p ∧ p.reached = false) ∧
    (∃ p, (twoPoints true false).point 0 = some p ∧ p.reached = true ∧ p.latched = false ∧
      (twoPoints true false).schedule.points.length = 8) :=
  ⟨rfl, ⟨_, rfl, rfl⟩, ⟨_, rfl, rfl⟩, _, rfl, rfl, rfl, rfl⟩

/-! ## Witnesses: the chain link -/

/-- A STAGE of one duty to an address. -/
def stageTo (a : Nat) : StageEntry := ⟨a, 15, [4095], 0, 1, false⟩

/-- A STAGE of all channels to driver 6. -/
def stage6 : StageEntry := ⟨6, 0, List.replicate 16 4095, 0, 0, false⟩

/-- A frame in flight, sent with tag 0. -/
def flying (x : Sent) (retry : Bool) : InFlight := ⟨x, 0, 128, retry, true⟩

theorem not_holds (ch : Chain) (h : ch.inflight = []) (a : Nat) : ¬ ch.holds a := by
  rintro ⟨f, hf, _⟩
  rw [h] at hf
  cases hf

theorem witness_ArbiterGrantsInOrder :
    (serving.chain 7).state = .unused ∧ ((configured.chain 0).state ≠ .unused ∧ (configured.chain 0).state ≠ .running ∧
      (configured.chain 0).resend = none) ∧
    (∃ ch : Chain, ch.state = .enumerating ∧ ch.inflight = [] ∧ ch.resend = some .clear) ∧
    ((serving.chain 0).state = .running ∧ (serving.chain 0).inflight.length < 4 ∧ (serving.chain 0).latchSource = [] ∧
      (serving.chain 0).direct = none ∧ (serving.chain 0).poll = none ∧ (serving.chain 0).staging = []) ∧
    (4 ≤ (List.replicate 4 (flying (.latch 1) false)).length) ∧
    (∃ ch : Chain, ch.state = .running ∧ ch.inflight = [] ∧ ch.latchSource = [⟨1, false⟩]) ∧
    (∃ (ch : Chain) (d : DirectRequest) (p : PollRequest), ch.state = .running ∧ ch.inflight = [] ∧
      ch.latchSource = [] ∧ ch.direct = some d ∧ ch.poll = some p ∧ p.age ≤ d.age ∧ 16 ≤ d.age) ∧
    (∃ (ch : Chain) (d : DirectRequest) (p : PollRequest), ch.state = .running ∧ ch.inflight = [] ∧
      ch.latchSource = [] ∧ ch.direct = some d ∧ ch.poll = some p ∧ d.age < p.age ∧ 16 ≤ p.age) ∧
    (∃ (ch : Chain) (d : DirectRequest) (p : PollRequest), ch.state = .running ∧ ch.inflight = [] ∧
      ch.latchSource = [] ∧ ch.staging = [] ++ stageTo 47 :: [] ∧ ¬ ch.holds (stageTo 47).address ∧
      ch.direct = some d ∧ ch.poll = some p ∧ d.age < 16 ∧ p.age < 16) :=
  ⟨by decide, by decide, ⟨{ chain0 with state := .enumerating, resend := some .clear }, rfl, rfl, rfl⟩, by decide, by decide,
    ⟨{ chain0 with latchSource := [⟨1, false⟩] }, rfl, rfl, rfl⟩,
    ⟨{ chain0 with direct := some ⟨0, .ident, 16, false⟩, poll := some ⟨0, 16, false⟩ }, _, _, rfl, rfl, rfl, rfl, rfl,
      by decide, by decide⟩,
    ⟨{ chain0 with direct := some ⟨0, .ident, 15, false⟩, poll := some ⟨0, 16, true⟩ }, _, _, rfl, rfl, rfl, rfl, rfl,
      by decide, by decide⟩,
    ⟨{ chain0 with staging := [stageTo 47], direct := some ⟨0, .ident, 15, false⟩, poll := some ⟨0, 0, false⟩ }, _, _,
      rfl, rfl, rfl, rfl, not_holds _ rfl _, rfl, rfl, by decide, by decide⟩⟩

/-- Chain 0 with one frame in flight. -/
def inFlight (f : InFlight) : State := servingWith fun ch => { ch with inflight := [f], sentCount := 1 }

/-- Chain 0 in the midst of an enumeration attempt, its attempt count `n`. -/
def attempting (n : Nat) (phase : Attempt) (x : Sent) : State :=
  servingWith fun ch => { ch with
    state := .enumerating, attempts := n, attempt := some phase, inflight := [flying x false], sentCount := 1
    pollDue := none, runDue := none }

/-- Chain 0 in an attempt whose CLEAR the line still carries until moment 200. -/
def clearing : State :=
  servingWith fun ch => { ch with
    state := .enumerating, attempt := some .clearing, inflight := [flying .clear false], sentCount := 1, lineFree := 200
    pollDue := none, runDue := none }

set_option maxRecDepth 10000 in
/-- R100: the echo of a CLEAR cut short while the line is still sending leaves nothing in flight until the next frame
boundary, where the CLEAR goes out again. -/
theorem test_retry_waits_for_the_boundary :
    ∃ u v, exec (.echoEnd 150 0 []) clearing = .next u ∧ (u.chain 0).inflight = [] ∧ (u.chain 0).resend = some .clear ∧
      exec (.frameBoundary 0) u = .next v ∧ (v.chain 0).inflight = [⟨.clear, 1, 328, true, false⟩] ∧
      (v.chain 0).resend = none := ⟨_, _, rfl, by decide, by decide, rfl, by decide, by decide⟩

theorem witness_LinkFailuresEndService :
    ((serving.chain 7).state ≠ .running ∧ (serving.chain 7).attempt = none) ∧
    ((serving.chain 0).state = .running ∧ (serving.chain 0).inflight = [] ∧ ¬ serving.directWaits 0 ∧
      (serving.chain 0).attempts < 3) ∧
    ((attempting 3 .clearing .clear).chain 0).attempt ≠ none ∧
    (∃ f rest, ((inFlight (flying (.direct 0 .ident) false)).chain 0).inflight = f :: rest ∧ f.begun = true ∧
      (inFlight (flying (.direct 0 .ident) false)).directWaits 0) ∧
    (∃ f rest, ((inFlight ⟨.clear, 0, 128, false, false⟩).chain 0).inflight = f :: rest ∧ f.begun = false) ∧
    (max serving.now (us 20 - 1) < (serving.chain 0).watchFrom + us 20 ∧
      (serving.chain 0).watchFrom + us 20 ≤ max serving.now (us 20)) ∧
    (∃ s : State, (s.chain 0).state = .running ∧ (s.chain 0).problem = true ∧ 2 ≤ (s.chain 0).problemCount) := by
  refine ⟨by decide, ⟨rfl, rfl, ?_, by decide⟩, by decide, ⟨_, _, rfl, rfl, ?_⟩, ⟨_, _, rfl, rfl⟩, by decide,
    ⟨servingWith fun ch => { ch with problem := true, problemCount := 2 }, by decide⟩⟩
  · rintro (h | ⟨f, h, _⟩)
    · exact h rfl
    · cases h
  · exact .inr ⟨_, List.mem_cons_self, _, _, rfl⟩

set_option maxRecDepth 10000 in
/-- An attempt whose CLEAR comes back short, sent first and again; one with no frame in flight; a foreign tag; a whole IDENT
in place of the CLEAR; and a LATCH that more drivers took than the mirror allows. -/
theorem witness_AttemptEchoesAreDamaged :
    (((attempting 1 .clearing .clear).chain 0).state ≠ .running ∧ ((attempting 1 .clearing .clear).chain 0).attempt ≠ none ∧
      ((attempting 1 .clearing .clear).chain 0).inflight = [flying .clear false] ∧ Sent.clear.ofAttempt = true ∧
      (([] : List Bool).take (Sent.clear.bits - 8)).length < Sent.clear.bits - 8) ∧
    (∃ ch : Chain, ch.state ≠ .running ∧ ch.attempt ≠ none ∧ ch.inflight = [flying .clear true]) ∧
    (∃ ch : Chain, ch.state ≠ .running ∧ ch.attempt ≠ none ∧ ch.inflight = []) ∧
    echoOfAnother (flying .clear false) [] = false ∧ echoOfAnother (flying .clear true) [] = false ∧
    (∃ bits : List Bool, (bits.take 56).length = 56 ∧ crcRight (bits.take 56) = true ∧ bitField (bits.take 56) 4 2 ≠ 0) ∧
    (∃ bits x, readSent bits = some x ∧ bits.length = x.bits - 8 ∧ bits.length = 72 ∧ crcRight bits = true ∧
      bitField bits 0 4 ≠ Sent.clear.kindCode) ∧
    (∃ bits : List Bool, (bits.take ((Sent.latch 1).bits - 8)).length = (Sent.latch 1).bits - 8 ∧
      crcRight (bits.take ((Sent.latch 1).bits - 8)) = true ∧
      (latching.chain 0).expectedLatches 1 < bitField (bits.take ((Sent.latch 1).bits - 8)) 20 6) :=
  ⟨by decide, ⟨{ chain0 with state := .enumerating, attempt := some .clearing, inflight := [flying .clear true] }, by decide⟩,
    ⟨{ chain0 with state := .enumerating, attempt := some .clearing }, by decide⟩, by decide, by decide,
    ⟨frameBits .clear 1 (.cleared 0), by decide⟩,
    ⟨frameBits (.direct 0 .ident) 0 (.ident true 77 255 16), .direct 0 .ident, by decide⟩, ⟨frameBits (.latch 1) 0 (.latches 2), by decide⟩⟩

set_option maxRecDepth 10000 in
/-- A short echo, a wrong CRC, a shorter and a longer frame's whole echo, a foreign header and a missing acknowledgement of a
POLL, sent first and again. -/
theorem witness_DamagedEchoesAreSentAgainOnce :
    ((serving.chain 0).state = .running ∧ (serving.chain 0).inflight = []) ∧
    (((inFlight (flying (.poll 47) false)).chain 0).inflight = [flying (.poll 47) false] ∧
      (flying (.poll 47) false).sent.ofAttempt = false ∧ ((flying (.poll 47) false).sent.bits - 8 = 88)) ∧
    (∃ bits : List Bool, echoOfAnother (flying (.poll 47) false) bits = false ∧ (bits.take 88).length < 88) ∧
    (∃ bits : List Bool, echoOfAnother (flying (.poll 47) false) bits = false ∧ (bits.take 88).length = 88 ∧
      crcRight (bits.take 88) = false) ∧
    (∃ bits x, readSent bits = some x ∧ bits.length = x.bits - 8 ∧ bits.length < 88 ∧ crcRight bits = true ∧
      bitField bits 0 4 ≠ (Sent.poll 47).kindCode) ∧
    (∃ bits x, readSent bits = some x ∧ bits.length = x.bits - 8 ∧ 88 < bits.length ∧ crcRight bits = true ∧
      bitField bits 0 4 ≠ (Sent.poll 47).kindCode) ∧
    (∃ bits : List Bool, (bits.take 88).length = 88 ∧ crcRight (bits.take 88) = true ∧
      ¬ (bitField (bits.take 88) 0 4 = (Sent.poll 47).kindCode ∧ bitField (bits.take 88) 4 2 = 0 ∧
        bitField (bits.take 88) 6 6 = 47)) ∧
    (∃ bits : List Bool, echoOfAnother (flying (.poll 47) false) bits = false ∧
        bitField (bits.take 88) 0 4 = (Sent.poll 47).kindCode ∧ bitField (bits.take 88) 4 2 = 0 ∧
        bitField (bits.take 88) 6 6 = 47 ∧ (readReply (.poll 47) (bits.take 88)).unacknowledged = true) :=
  ⟨by decide, by decide, ⟨[], by decide⟩, ⟨List.replicate 88 false, by decide⟩,
    ⟨frameBits (.latch 1) 1 (.latches 1), .latch 1, by decide⟩,
    ⟨frameBits (.stage stage6) 1 (.ack true), .stage stage6, by decide⟩,
    ⟨frameBits (.poll 46) 0 (.poll true ⟨0, 0, false, false, 0⟩), by decide⟩,
    ⟨frameBits (.poll 47) 0 (Sent.poll 47).blankReply, by decide⟩⟩

set_option maxRecDepth 10000 in
/-- 4.4: the LATCH of group 1 is lost, and the whole echo of the STAGE sent after it to driver 6 is matched to it: a mismatch. -/
theorem test_lost_latch_is_mismatch :
    chain0.judge (flying (.latch 2) false) (frameBits (.stage stage6) 1 (.ack true)) = .mismatch := by decide

set_option maxRecDepth 10000 in
/-- 4.4: had only part of the LATCH been cut, its echo would have been damaged. R89: a lost STAGE, and the next LATCH. -/
theorem test_cut_latch_is_damaged :
    chain0.judge (flying (.latch 2) false) ((frameBits (.latch 2) 0 (.latches 2)).take 40) = .damaged ∧
    chain0.judge (flying (.stage stage6) false) (frameBits (.latch 2) 1 (.latches 6)) = .mismatch := by decide

set_option maxRecDepth 10000 in
theorem witness_AcceptedEchoesAreHandedOn :
    (∃ bits r, ((inFlight (flying (.stage (stageTo 0)) false)).chain 0).state = .running ∧
      ((inFlight (flying (.stage (stageTo 0)) false)).chain 0).inflight = [flying (.stage (stageTo 0)) false] ∧
      ((inFlight (flying (.stage (stageTo 0)) false)).chain 0).judge (flying (.stage (stageTo 0)) false) bits
        = .accepted r) ∧
    (∃ bits, (latching.chain 0).judge (flying (.latch 1) false) bits = .accepted (.latches 1) ∧
      1 = (latching.chain 0).expectedLatches 1) ∧
    (∃ bits, (latching.chain 0).judge (flying (.latch 1) false) bits = .accepted (.latches 0) ∧
      0 < (latching.chain 0).expectedLatches 1) ∧
    (∃ bits r, ((inFlight (flying (.direct 0 (.trim 255)) false)).chain 0).judge
      (flying (.direct 0 (.trim 255)) false) bits = .accepted r) ∧
    (∃ bits, ((inFlight (flying (.direct 0 .ident) false)).chain 0).judge (flying (.direct 0 .ident) false) bits
      = .accepted (.ident true 77 255 16)) :=
  ⟨⟨frameBits (.stage (stageTo 0)) 0 (.ack true), .ack true, rfl, rfl, by decide⟩,
    ⟨frameBits (.latch 1) 0 (.latches 1), by decide⟩, ⟨frameBits (.latch 1) 0 (.latches 0), by decide⟩,
    ⟨frameBits (.direct 0 (.trim 255)) 0 (.ack true), .ack true, by decide⟩,
    ⟨frameBits (.direct 0 .ident) 0 (.ident true 77 255 16), by decide⟩⟩

theorem map_serving (f : Chain → Chain) : MapSound (servingWith f) := by
  refine ⟨rfl, ?_, by show ∀ z ∈ serving.zones, _; decide, by show ∀ z ∈ serving.zones, _; decide⟩
  have only : ∀ i x, ((servingWith f).zone i).channel = some x → i = 0 := by
    intro i x h
    match i with
    | 0 => rfl
    | 1 => cases h
    | n + 2 => cases h
  intro i j x hi hj
  rw [only i x hi, only j x hj]

/-- The report queue under a POLL reply: room for its reports, for some of them, and none; every snapshot buffer held, and
one free. -/
theorem witness_PollReportsAreQueued :
    (inFlight (flying (.poll 0) false)).reports.queue.length + 2 ≤ 31 ∧
    (∃ s : State, MapSound s ∧ (s.chain 0).state = .running ∧ (s.chain 0).inflight = [flying (.poll 0) false] ∧
      32 ≤ s.reports.queue.length ∧ ∃ older newest, s.reports.queue = older ++ [newest]) ∧
    (∃ r : ReportUnit, ∀ b ∈ r.buffers, b.expires ≠ none) ∧
    (∃ b, serving.reports.buffers[1]? = some b ∧ b.expires = none ∧
      ∀ j y, j < 1 → serving.reports.buffers[j]? = some y → y.expires ≠ none) := by
  refine ⟨by decide, ⟨{ inFlight (flying (.poll 0) false) with reports := (reporting 32).reports }, ?_, rfl, rfl, by decide,
    List.replicate 31 _, _, rfl⟩, ⟨⟨[], true, false, [⟨some 1, 0, none⟩], 2000⟩, by decide⟩, ⟨_, rfl, rfl, ?_⟩⟩
  · have h := map_serving fun ch => { ch with inflight := [flying (.poll 0) false], sentCount := 1 }
    exact ⟨h.size, h.unique, h.channels, h.gains⟩
  · intro j y hj h
    match j with
    | 0 => cases h; decide
    | n + 1 => omega

set_option maxRecDepth 10000 in
/-- A reply that shows channel 0 OPEN, one that shows channels 0 and 15 SHORT with a mark held, and a status check. -/
theorem witness_PollRepliesFollowTheCandidateTable :
    MapSound (inFlight (flying (.poll 0) false)) ∧ (∃ s : State, MapSound s ∧ (s.chain 0).state = .running ∧
      (s.chain 0).inflight = [flying (.poll 0) false] ∧ ((s.chain 0).record 0).openCand.getLsbD 0 = true ∧
      (∃ bits, (s.chain 0).judge (flying (.poll 0) false) bits = .accepted (.poll true ⟨0, 32769, true, true, 255⟩)) ∧
      (∃ bits, (s.chain 0).judge (flying (.poll 0) false) bits = .accepted (.poll true ⟨1, 1, false, false, 0⟩))) ∧
    ((inFlight (flying (.poll 0) false)).chain 0).state = .running ∧
    ((inFlight (flying (.poll 0) false)).chain 0).inflight = [flying (.poll 0) false] ∧
    0 < ((inFlight (flying (.poll 0) false)).chain 0).mirror.length ∧
    (∃ bits, ((inFlight (flying (.poll 0) false)).chain 0).judge (flying (.poll 0) false) bits
      = .accepted (.poll true ⟨1, 0, false, false, 0⟩)) ∧
    ((1 : BitVec 16) &&& 0 = 0 ∧ (1 : BitVec 16) &&& 1 ≠ 0) ∧ (serving.zone 0).fault = .none :=
  ⟨map_serving _, ⟨servingWith fun ch => { ch with
      inflight := [flying (.poll 0) false], sentCount := 1
      mirror := ch.mirror.set 0 { record0 with openCand := 1 } }, map_serving _, rfl, rfl, by decide,
      ⟨frameBits (.poll 0) 0 (.poll true ⟨0, 32769, true, true, 255⟩), by decide⟩,
      ⟨frameBits (.poll 0) 0 (.poll true ⟨1, 1, false, false, 0⟩), by decide⟩⟩, rfl, rfl, by decide,
    ⟨frameBits (.poll 0) 0 (.poll true ⟨1, 0, false, false, 0⟩), by decide⟩, by decide, rfl⟩

set_option maxRecDepth 10000 in
theorem witness_AttemptsAssignInOrder :
    (((attempting 1 .clearing .clear).chain 0).state = .enumerating ∧
      ((attempting 1 .clearing .clear).chain 0).inflight = [flying .clear false] ∧
      ((attempting 1 .clearing .clear).chain 0).attempt = some .clearing ∧
      ∃ bits, ((attempting 1 .clearing .clear).chain 0).judge (flying .clear false) bits = .accepted (.cleared 63)) ∧
    (((attempting 3 (.assigning 48 47) (.assign 47 none)).chain 0).attempt = some (.assigning 48 47) ∧
      (∃ bits, ((attempting 3 (.assigning 48 47) (.assign 47 none)).chain 0).judge
        (flying (.assign 47 none) false) bits = .accepted (.taken true)) ∧
      (∃ bits, ((attempting 3 (.assigning 48 47) (.assign 47 none)).chain 0).judge
        (flying (.assign 47 none) false) bits = .accepted (.taken false))) ∧
    ((serving.chain 0).state ≠ .unused ∧ 47 < 48 ∧ min 63 48 ≤ 48 ∧ min 0 48 ≤ 0) :=
  ⟨⟨rfl, rfl, rfl, frameBits .clear 0 (.cleared 63), by decide⟩,
    ⟨rfl, ⟨frameBits (.assign 47 none) 0 (.taken true), by decide⟩,
      frameBits (.assign 47 none) 0 (.taken false), by decide⟩, by decide⟩

/-! ## Witnesses: thermal unit and formats -/

theorem witness_ConversionsFormTheAverage :
    configured.thermal.converting = false ∧
    (serving.thermal.converting = true ∧ 0 = serving.thermal.done % 8 ∧
      serving.thermal.sensors[0]? = some Sensor.fresh ∧ Sensor.fresh.discard = false) ∧
    (∃ x : Sensor, x.discard = true) ∧
    ((true = true ↔ 8 ≤ 8 ∨ 1015 ≤ 8) ∧ (true = true ↔ 1015 ≤ 8 ∨ 1015 ≤ 1015) ∧
      (false = true ↔ 9 ≤ 8 ∨ 1015 ≤ 9) ∧ (false = true ↔ 1014 ≤ 8 ∨ 1015 ≤ 1014)) :=
  ⟨rfl, ⟨rfl, rfl, rfl, rfl⟩, ⟨⟨true, [], false, none⟩, rfl⟩, by decide⟩

set_option maxRecDepth 10000 in
/-- A command of each of the three ports, with fields at their limits. -/
theorem witness_MessagesReadBack :
    ((Instr.setThermal 5 ⟨-128, 32767, 127, -1, 65535⟩).wf = true ∧
      (Instr.setThermal 5 ⟨-128, 32767, 127, -1, 65535⟩).arrival = some 5 ∧
      (Instr.setThermal 5 ⟨-128, 32767, 127, -1, 65535⟩).port = some .system ∧
      ∃ bytes, encodeWrite (.setThermal 5 ⟨-128, 32767, 127, -1, 65535⟩) = some bytes) ∧
    ((Instr.run12 5 65535 [4095, 0, 1]).wf = true ∧ (Instr.run12 5 65535 [4095, 0, 1]).port = some .picture ∧ ∃ bytes, encodePicture (.run12 5 65535 [4095, 0, 1]) = some bytes) ∧
    ((Instr.hold 5 255).wf = true ∧ (Instr.hold 48 255).port = some .panel ∧ (Instr.hold 48 255).wf = true ∧
      ∃ bytes, encodePanel (.hold 48 255) = some bytes ∧ 48 = 0 + 16 + 8 * bytes.length) :=
  ⟨⟨by decide, rfl, rfl, _, rfl⟩, ⟨by decide, rfl, _, rfl⟩, by decide, rfl, by decide, _, rfl, by decide⟩

theorem witness_UndamagedEchoesAreRead :
    (Sent.stage (stageTo 47)).wf = true ∧ (flying (.stage (stageTo 47)) false).tag < 4 ∧ (3 : Nat) < 4 ∧
    (∀ d ∈ [{ Driver.powerUp 255 true true with damagedFrames := 255 }], d.damagedFrames ≤ 255 ∧ d.revision ≤ 255) := by
  decide

end Sys2Proof.Tests
end

namespace Sys2Proof.Machine

/-! # Zone table and probe commands (chapter 1)

Each command goes through its checks in order: a refusal is the branch of the first check that fails, and an accepted
command changes the one record it names. -/

/-! ## SET GRID (R1, R2) -/

/-- Settles O19. -/
theorem setGridStartsAfresh : Obligations.SetGridStartsAfresh := by
  intro t cols rows s
  refine ⟨fun hp => if_pos hp, fun hp hout => ?_, fun hp _ _ _ _ hg => ?_, fun hp _ _ _ _ hg => ?_⟩
  · have hr : cols = 0 ∨ 96 < cols ∨ rows = 0 ∨ 54 < rows := by omega
    exact (if_neg (not_not.2 hp)).trans (if_pos hr)
  · have hr : ¬ (cols = 0 ∨ 96 < cols ∨ rows = 0 ∨ 54 < rows) := by omega
    exact (if_neg (not_not.2 hp)).trans ((if_neg hr).trans (if_pos hg))
  · have hr : ¬ (cols = 0 ∨ 96 < cols ∨ rows = 0 ∨ 54 < rows) := by omega
    exact (if_neg (not_not.2 hp)).trans ((if_neg hr).trans (if_neg hg))

/-! ## MAP ZONE and UNMAP ZONE (R5, R6) -/

/-- A zone index names a channel exactly when the table has a record there that holds it. -/
theorem State.zone_channel_eq_some_iff (s : State) (i : Nat) (x : Channel) :
    (s.zone i).channel = some x ↔ ∃ z, s.zones[i]? = some z ∧ z.channel = some x := by
  by_cases hi : i < s.zones.length <;> simp [State.zone, Zone.fresh, hi]

/-- A channel is held elsewhere exactly when the record of another zone names it (R5). -/
theorem State.heldElsewhere_iff (s : State) (z : Nat) (x : Channel) :
    heldElsewhere s.zones z x = true ↔ ∃ j, j ≠ z ∧ (s.zone j).channel = some x := by
  simp only [heldElsewhere, List.any_eq_true, Bool.and_eq_true, decide_eq_true_eq, s.zone_channel_eq_some_iff,
    Prod.exists, List.mem_zipIdx_iff_getElem?]
  exact ⟨fun ⟨y, j, hy, hj, hx⟩ => ⟨j, hj, y, hy, hx⟩, fun ⟨j, hj, y, hy, hx⟩ => ⟨y, j, hy, hj, hx⟩⟩

theorem Zone.mapTo_eq (z : Zone) (x : Channel) :
    z.mapTo x = { z with channel := some x, fault := if z.channel = some x then z.fault else .none } := by
  unfold Zone.mapTo
  split
  next h => rw [← h]
  next => rfl

theorem Zone.unmap_eq (z : Zone) :
    z.unmap = { z with channel := none, fault := if z.channel = none then z.fault else .none } := by
  unfold Zone.unmap
  cases h : z.channel
  · simp [← h]
  · simp

/-- Settles O21. -/
theorem mapAndUnmapChangeOneRecord : Obligations.MapAndUnmapChangeOneRecord := by
  intro t z c p k s
  refine ⟨fun hp => ⟨if_pos hp, if_pos hp⟩, fun hp _ => ⟨fun hout => ?_, fun hz => ?_,
    fun hz hc hpos hk => ⟨fun hheld => ?_, fun hfree => ?_⟩, fun hz => ?_⟩⟩
  · have hr : s.grid.count ≤ z ∨ 7 < c ∨ 47 < p ∨ 15 < k := by omega
    exact (if_neg (not_not.2 hp)).trans (if_pos hr)
  · exact (if_neg (not_not.2 hp)).trans (if_pos hz)
  · have hr : ¬ (s.grid.count ≤ z ∨ 7 < c ∨ 47 < p ∨ 15 < k) := by omega
    exact (if_neg (not_not.2 hp)).trans ((if_neg hr).trans (if_pos ((s.heldElsewhere_iff z _).2 hheld)))
  · have hr : ¬ (s.grid.count ≤ z ∨ 7 < c ∨ 47 < p ∨ 15 < k) := by omega
    have hnot : ¬ heldElsewhere s.zones z ⟨c, p, k⟩ = true := by
      rw [s.heldElsewhere_iff]
      exact fun ⟨j, hj, hx⟩ => hfree j hj hx
    rw [← Zone.mapTo_eq]
    refine (if_neg (not_not.2 hp)).trans ((if_neg hr).trans ((if_neg hnot).trans ?_))
    rw [State.updZone_eq]
    rfl
  · rw [← Zone.unmap_eq]
    refine (if_neg (not_not.2 hp)).trans ((if_neg (not_le.2 hz)).trans ?_)
    rw [State.updZone_eq]
    rfl

/-! ## LOAD GAINS (R7) -/

theorem clampGain_eq_self_iff (g : Nat) : clampGain g = g ↔ 512 ≤ g ∧ g ≤ 1535 := by
  unfold clampGain
  omega

/-- Settles O26. -/
theorem loadGainsStoresClampedGains : Obligations.LoadGainsStoresClampedGains := by
  intro t first gains s _
  constructor
  · intro hout
    have hr : gains.length = 0 ∨ 32 < gains.length ∨ s.grid.count ≤ first ∨ s.grid.count < first + gains.length := by
      rw [List.length_eq_zero_iff]
      tauto
    exact if_pos hr
  · intro hne _ _
    have hpos : 0 < gains.length := List.length_pos_iff.2 hne
    have hr : ¬ (gains.length = 0 ∨ 32 < gains.length ∨ s.grid.count ≤ first ∨
        s.grid.count < first + gains.length) := by omega
    have hall : (gains.all fun x => decide (clampGain x = x)) = true ↔ ∀ g ∈ gains, 512 ≤ g ∧ g ≤ 1535 := by
      simp [clampGain_eq_self_iff]
    refine ⟨storeGains s.zones first gains, ?_, storeGains_length _ _ _, storeGains_getD s.zones first gains⟩
    rw [← if_congr hall rfl rfl]
    exact if_neg hr

/-! ## SET OVERRIDE, CLEAR OVERRIDE and PROBE (R8, R23) -/

/-- Settles O27. -/
theorem overridesAndProbeAreSet : Obligations.OverridesAndProbeAreSet := by
  intro t z l mode s _
  refine ⟨fun hout => if_pos hout, fun hz => ⟨if_pos hz, if_pos hz⟩,
    fun hz => ⟨fun hl => ?_, ?_, if_neg (not_le.2 hz)⟩⟩
  · have hr : ¬ (s.grid.count ≤ z ∨ 4095 < l) := by omega
    refine (if_neg hr).trans ?_
    rw [State.updZone_eq]
    rfl
  · refine (if_neg (not_le.2 hz)).trans ?_
    rw [State.updZone_eq]
    rfl

end Sys2Proof.Machine

namespace Sys2Proof.Machine

/-! # What the reads return (R11, R24, R160, R189)

The derived zone state is Table 1-8's, and the target factor that READ STATE shows is the one R156 and R157 define. -/

/-! ## Zone states (R11) -/

theorem Claims.any_iff (c : Claims) : c.any = true ↔ c.picture = true ∨ c.panel = true ∨ c.system = true := by
  simp [Claims.any, or_assoc]

/-- The state of a zone record by Table 1-8. -/
theorem State.zoneState_eq (s : State) (z : Zone) :
    s.zoneState z = match z.channel with
      | none => .unmapped
      | some x =>
        if z.fault ≠ .none then .faulted
        else if (s.chain x.chain).state ≠ .running then .dark .chain
        else if s.claims.picture ∨ s.claims.panel ∨ s.claims.system then .dark .blank
        else .lit := by
  cases h : z.channel with
  | none => simp [State.zoneState, deriveState, h]
  | some x => simp [State.zoneState, deriveState, h, State.running, ← Claims.any_iff]

/-! ## Derate targets (R153, R156, R157) -/

theorem Chain.hotMark_iff (ch : Chain) :
    ch.hotMark = true ↔ ∃ m ∈ ch.mirror, m.assigned = true ∧ m.hot = true := by
  simp [Chain.hotMark]

theorem thermalInRange_iff (p : ThermalParams) :
    thermalInRange p = true ↔ (-128 ≤ p.a ∧ p.a ≤ 127) ∧ (-4096 ≤ p.m ∧ p.m ≤ 4095) ∧
      (-128 ≤ p.tStart ∧ p.tStart ≤ 127) ∧ (-128 ≤ p.tStop ∧ p.tStop ≤ 127) ∧ (64 ≤ p.hMin ∧ p.hMin ≤ 256) ∧
      p.tStart < p.tStop := by
  simp [thermalInRange, and_assoc]

/-- Between its two temperatures the curve falls by the rounded-down part of 256 − H_min (R156). -/
theorem derateCurve_between (p : ThermalParams) {t : Int} (hMin : p.hMin ≤ 256) (h1 : p.tStart < t) (h2 : t < p.tStop) :
    (derateCurve p t : Int) = 256 - ((256 - p.hMin) * (t - p.tStart)) / (p.tStop - p.tStart) := by
  obtain ⟨a, ha⟩ := Int.eq_ofNat_of_zero_le (by omega : 0 ≤ t - p.tStart)
  obtain ⟨b, hb⟩ := Int.eq_ofNat_of_zero_le (by omega : 0 ≤ p.tStop - p.tStart)
  have hle : (256 - p.hMin) * a / b ≤ 256 := by
    have : (256 - p.hMin) * a / b ≤ 256 - p.hMin := by
      apply Nat.div_le_of_le_mul
      rw [Nat.mul_comm b]
      exact Nat.mul_le_mul_left _ (by omega)
    omega
  rw [derateCurve, if_neg (by omega), if_neg (by omega), ha, hb]
  simp only [Int.toNat_natCast]
  push_cast [hle, hMin]
  rfl

/-- The temperature a sensor with samples lends to the derivation (R153). -/
theorem Sensor.used_eq (x : Sensor) (p : ThermalParams) {T : Int} (hc : x.codes ≠ [])
    (hf : x.fault = true → T = p.tStop) (hn : x.fault = false → x.temperature = some T) : x.used p = some T := by
  cases h : x.fault
  · simp [Sensor.used, hc, h, hn h]
  · simp [Sensor.used, hc, h, hf h]

/-- The factor that the model derives is the target of R156 and R157. -/
theorem targetFactor_spec {th : Thermal} (hp : thermalInRange th.params = true) (ch : Chain) :
    DerateTarget th ch.sensor (∃ m ∈ ch.mirror, m.assigned = true ∧ m.hot = true) (targetFactor th ch) := by
  obtain ⟨-, -, -, -, hMin, hlt⟩ := (thermalInRange_iff _).1 hp
  rw [← ch.hotMark_iff]
  refine ⟨th.curveTarget ch.sensor, fun h => if_pos h, fun h => if_neg h, fun h => by rw [h]; rfl,
    fun i x hi hx => ⟨fun hc => ?_, fun T hc hf hn => ?_⟩⟩
  · simp [Thermal.curveTarget, hi, hx, Sensor.used, hc]
  · have hcurve : th.curveTarget ch.sensor = derateCurve th.params T := by
      simp [Thermal.curveTarget, hi, hx, x.used_eq th.params hc hf hn]
    rw [hcurve]
    refine ⟨fun h => if_pos h, fun h1 h2 => ?_, derateCurve_between _ hMin.2⟩
    rw [derateCurve, if_neg (by omega), if_pos h2]

/-! ## READ ZONE, READ PROBE and READ STATE (R11, R24, R160, R189) -/

theorem State.chain_eq_getElem (s : State) {k : Nat} (hk : k < s.chains.length) : s.chain k = s.chains[k] := by
  simp [State.chain, hk]

/-- READ STATE's item of chain `k` (Table 11-3). -/
theorem State.report_chain (s : State) {k : Nat} (hk : k < s.chains.length) :
    s.report.chains[k]? = some (s.chainReportOf (s.chain k)) := by
  simp [State.report, hk, s.chain_eq_getElem hk]

theorem Sensor.report_eq (x : Sensor) :
    x.report = ⟨if x.codes = [] then none else some (x.codes.sum / x.codes.length), x.temperature, x.fault⟩ := by
  simp [Sensor.report, Sensor.average]

/-- Settles O29. -/
theorem readsChangeOnlyTheResponse : Obligations.ReadsChangeOnlyTheResponse := by
  intro t z s
  refine ⟨fun hz => if_pos hz, fun hz => ⟨_, if_neg (not_le.2 hz), State.zoneState_eq (s.arrive t) _⟩, ?_,
    (s.arrive t).report, rfl, ?_, ?_, fun k hk => ?_⟩
  · cases h : s.probe.record <;> simp [exec, execReadProbe, State.respond, State.arrive, State.onlyReturns, h]
  · rw [← funext Sensor.report_eq]
    cases h : s.request.slot <;> simp [State.report, h]
  · simp [State.report]
  · exact ⟨targetFactor s.thermal (s.chain k), (s.arrive t).report_chain hk, fun hd => targetFactor_spec hd.params _⟩

end Sys2Proof.Machine

namespace Sys2Proof.Machine

/-! # The window list by key (R17 to R19)

Both ports answer a WINDOW by what `placeWindow` says of it. -/

/-! ## Windows (R18, R19) -/

theorem windowKey_iff (owner : WindowOwner) (n : Nat) (x : Window) :
    windowKey owner n x = true ↔ x.key = (owner, n) := by
  simp [windowKey, Window.key]

theorem removeWindow_eq (owner : WindowOwner) (n : Nat) (ws : List Window) :
    removeWindow owner n ws = ws.filter fun x => decide (x.key ≠ (owner, n)) := by
  simp [removeWindow, ← windowKey_iff]

theorem State.pictureResult_done (s : State) :
    s.pictureResult .done = { s with picture := { s.picture with result := .done } } := rfl

theorem State.pictureResult_range (s : State) (t : Nat) :
    (s.arrive t).pictureResult .range = s.pictureError t .range .pictureRange := rfl

theorem State.pictureResult_full (s : State) (t : Nat) :
    (s.arrive t).pictureResult .full = s.pictureError t .full .pictureFull := rfl

/-- The state after a WINDOW of a port was taken, by what R18 answers for it. -/
def State.afterWindow (s : State) (owner : WindowOwner) (n : Nat) : Except RefusalReason (List Window) → State
  | .ok ws => match owner with
    | .picture => { s with windows := ws }.pictureResult .done
    | .panel => { s with windows := ws }
  | .error r => match owner with
    | .picture => s.pictureResult (refusedPicture r)
    | .panel => s.placeNotice ⟨n, r⟩

theorem execPictureWindow_eq (t : Nat) (w : WindowFields) (s : State) :
    execPictureWindow t w s =
      .next ((s.arrive t).afterWindow .picture w.number (placeWindow s.grid .picture w s.windows)) := by
  simp only [execPictureWindow, State.arrive_grid, State.arrive_windows]
  cases placeWindow s.grid .picture w s.windows <;> rfl

theorem execPanelWindow_eq (t : Nat) (w : WindowFields) (s : State) :
    execPanelWindow t w s =
      .next ((s.arrive t).afterWindow .panel w.number (placeWindow s.grid .panel w s.windows)) := by
  simp only [execPanelWindow, State.arrive_grid, State.arrive_windows]
  cases placeWindow s.grid .panel w s.windows <;> rfl

/-- R18's refusal of a window whose fields are out of range. -/
theorem placeWindow_range {g : Grid} {owner : WindowOwner} {w : WindowFields} {ws : List Window}
    (h : g.count = 0 ∨ 7 < w.number ∨ 4095 < w.level ∨ 4095 < w.lifetime ∨ w.rect.col1 < w.rect.col0 ∨
      w.rect.row1 < w.rect.row0) : placeWindow g owner w ws = .error .range := by
  rcases placeWindow_cases g owner w ws with ⟨-, he⟩ | ⟨h0, h1, h2, h3, h4, h5, -⟩
  · exact he
  · omega

/-- R18 puts a window in range in the place of the record with its key, or at the end of a list that is not full. -/
theorem placeWindow_in_range {g : Grid} {owner : WindowOwner} {w : WindowFields} {ws : List Window}
    (h : ¬ (g.count = 0 ∨ 7 < w.number ∨ 4095 < w.level ∨ 4095 < w.lifetime ∨ w.rect.col1 < w.rect.col0 ∨
      w.rect.row1 < w.rect.row0)) {fresh : Window}
    (hf : fresh = ⟨owner, w.number, w.kind, clampRect g w.rect, w.level, w.lifetime, false⟩) :
    ((∃ x ∈ ws, x.key = (owner, w.number)) →
      placeWindow g owner w ws = .ok (ws.map fun x => if x.key = (owner, w.number) then fresh else x)) ∧
    ((∀ x ∈ ws, x.key ≠ (owner, w.number)) →
      (ws.length < 16 → placeWindow g owner w ws = .ok (ws ++ [fresh])) ∧
      (16 ≤ ws.length → placeWindow g owner w ws = .error .full)) := by
  have hcases := placeWindow_cases g owner w ws
  simp only [← Bool.not_eq_true, windowKey_iff, ← hf] at hcases
  rcases hcases with ⟨hout, -⟩ | ⟨-, -, -, -, -, -, ⟨⟨x, hx, hkey⟩, hok⟩ | ⟨hnew, hlt, hok⟩ | ⟨hnew, hge, hfull⟩⟩
  · exact absurd hout h
  · exact ⟨fun _ => hok, fun hnone => absurd hkey (hnone x hx)⟩
  · exact ⟨fun ⟨x, hx, hkey⟩ => absurd hkey (hnew x hx), fun _ => ⟨fun _ => hok, fun hge => by omega⟩⟩
  · exact ⟨fun ⟨x, hx, hkey⟩ => absurd hkey (hnew x hx), fun _ => ⟨fun hlt => by omega, fun _ => hfull⟩⟩

/-- Settles O40. -/
theorem windowsAreKeptByKey : Obligations.WindowsAreKeptByKey := by
  intro t n w s
  refine ⟨rfl, fun hn => ⟨if_pos hn, if_pos hn⟩, fun hn => ⟨?_, ?_⟩, fun owner => ?_⟩
  · rw [← removeWindow_eq]
    exact if_neg (not_lt.2 hn)
  · rw [← removeWindow_eq]
    exact if_neg (not_lt.2 hn)
  · intro accepted refused i fresh
    have hexec : exec i s = .next ((s.arrive t).afterWindow owner w.number (placeWindow s.grid owner w s.windows)) := by
      cases owner
      · exact execPictureWindow_eq t w s
      · exact execPanelWindow_eq t w s
    have hok : ∀ ws, (s.arrive t).afterWindow owner w.number (.ok ws) = accepted ws := by
      cases owner <;> exact fun _ => rfl
    have hno : ∀ r, (s.arrive t).afterWindow owner w.number (.error r) = refused r := by
      cases owner <;> intro r <;> cases r <;> rfl
    rw [hexec]
    refine ⟨fun hout => ?_, fun h0 h1 h2 h3 h4 h5 => ?_⟩
    · rw [placeWindow_range hout, hno]
    · obtain ⟨hreplace, hnew⟩ := placeWindow_in_range (ws := s.windows) (owner := owner) (w := w) (g := s.grid)
        (by omega) (fresh := fresh) rfl
      refine ⟨fun hx => by rw [hreplace hx, hok], fun hx => ⟨fun hlt => ?_, fun hge => ?_⟩⟩
      · rw [(hnew hx).1 hlt, hok]
      · rw [(hnew hx).2 hge, hno]

end Sys2Proof.Machine

namespace Sys2Proof.Machine

/-! # The stages of a pass (chapter 2)

Composition and limiting are their formulas zone by zone. An emission block is two folds, over its zones and over the
groups it completes; each is one equation, from which every claim about a single zone, group or chain is read off. -/

/-! ## Composition and limiting (R20, R31 to R38) -/

theorem ceilDiv_sixteen (n : Nat) : ceilDiv n 16 = (n + 15) / 16 := rfl

/-- A fold that acts on the members satisfying a test is the fold over them. -/
theorem foldl_ite_level (p : Window → Bool) (f : Nat → Nat → Nat) (ws : List Window) : ∀ l : Nat,
    ws.foldl (fun l w => if p w then f l w.level else l) l = ((ws.filter p).map Window.level).foldl f l := by
  induction ws with
  | nil => intro l; rfl
  | cons w ws ih =>
    intro l
    by_cases h : p w <;> simp [h, ih]

/-- Windows of a kind that cover a zone, as R32 reads them. -/
def coveringLevels (ws : List Window) (kind : WindowKind) (col row : Nat) : List Nat :=
  (ws.filter fun w => decide (w.kind = kind) && rectCovers w.rect col row).map Window.level

theorem raiseToFloors_eq (ws : List Window) (col row l : Nat) :
    raiseToFloors ws col row l = (coveringLevels ws .floor col row).foldl max l := by
  simp [raiseToFloors, coveringLevels, ← foldl_ite_level]

theorem lowerToCeilings_eq (ws : List Window) (col row l : Nat) :
    lowerToCeilings ws col row l = (coveringLevels ws .ceiling col row).foldl min l := by
  simp [lowerToCeilings, coveringLevels, ← foldl_ite_level]

theorem Sample.bypass_iff (x : Sample) :
    x.bypass = true ↔ x.entryMark = true ∨ (x.taken = true ∧ x.sceneCut = true) := by
  simp [Sample.bypass, or_comm]

theorem countWindow_eq (w : Window) :
    countWindow w = if w.inSample = true ∧ w.lifetime = 1 then none
      else if w.inSample = true ∧ 1 < w.lifetime then some { w with lifetime := w.lifetime - 1 } else some w := by
  unfold countWindow
  cases w.inSample
  · simp
  · rcases Nat.lt_trichotomy w.lifetime 1 with h | h | h
    · simp [Nat.lt_one_iff.1 h]
    · simp [h]
    · simp [h, (by omega : 0 < w.lifetime)]

theorem State.composeZone_dark (s : State) {i : Nat} (h : (s.sampledZone i).state ≠ .lit) :
    s.composeZone i = ⟨0, 0, 0, 0⟩ := if_neg h

theorem State.composeZone_lit (s : State) {i : Nat} (h : (s.sampledZone i).state = .lit) :
    s.composeZone i =
      let z := s.sampledZone i
      let lb := boundedLevel s.pass.sample.windows z.override (i % s.grid.cols) (i / s.grid.cols) (s.requestLevel i)
      let le := easedLevel s.pass.sample.bypass lb (s.zone i).eased s.pass.sample.rise s.pass.sample.fall
      let dc := calibratedDrive le z.gain
      ⟨lb, le, dc, deratedDrive dc (s.zoneChain z).factor⟩ := if_pos h

/-- The work store after composition holds each zone's composed values. -/
theorem State.composed_getD (s : State) {i : Nat} (hi : i < s.grid.count) :
    ((List.range s.grid.count).map s.composeZone).getD i ⟨0, 0, 0, 0⟩ = s.composeZone i := by
  simp [hi]

/-- A zone's share of the power demand: its derated drive, weighted by its chain, if it is LIT (R37). -/
theorem State.powerShare_eq (s : State) (i : Nat) :
    s.powerShare i = if (s.sampledZone i).state = .lit then
      (s.composeZone i).dt * (s.zoneChain (s.sampledZone i)).weight else 0 := by
  unfold State.powerShare
  split
  next => rfl
  next h => rw [s.composeZone_dark h, Nat.zero_mul]

/-- Settles O47. -/
theorem compositionAndLimitingFollowTheFormulas : Obligations.CompositionAndLimitingFollowTheFormulas := by
  intro s
  refine ⟨fun h => if_neg h, fun h => if_neg h, fun h => ⟨(List.range s.grid.count).map s.composeZone,
    ((List.range s.grid.count).map s.powerShare).sum, countdownWindows s.windows, if_pos h, ?_, by simp, ?_, ?_⟩,
    fun h => if_pos h⟩
  · rw [← funext countWindow_eq]
    rfl
  · congr 1
    refine List.map_congr_left fun i hi => ?_
    rw [s.composed_getD (List.mem_range.1 hi), s.powerShare_eq]
  · rintro i hi x rfl z rfl
    rw [s.composed_getD hi]
    refine ⟨s.composeZone_dark, fun hlit => ?_⟩
    rw [s.composeZone_lit hlit]
    refine ⟨?_, fun hb => ?_, fun he ht => ?_, rfl, rfl⟩
    · simp only [boundedLevel, lowerToCeilings_eq, raiseToFloors_eq]
      rfl
    · exact if_pos ((Sample.bypass_iff _).2 hb)
    · have hb : ¬ s.pass.sample.bypass = true := by
        rw [Sample.bypass_iff, he]
        rcases ht with ht | ht <;> simp [ht]
      exact if_neg hb

/-! ## Lists changed at several places -/

/-- Changing an entry again by its own change makes no difference, so a fold of changes has made each of its places'
changes once, whatever the order. -/
theorem foldl_modify_getD {α : Type} (f : Nat → α → α) (hf : ∀ i x, f i (f i x) = f i x) (d : α) {i : Nat} (is : List Nat) :
    ∀ l : List α, i < l.length →
      (is.foldl (fun l j => l.modify j (f j)) l).getD i d = if i ∈ is then f i (l.getD i d) else l.getD i d := by
  induction is with
  | nil => intro l _; rfl
  | cons j is ih =>
    intro l hi
    rw [List.foldl_cons, ih _ (by simpa using hi)]
    by_cases hj : j = i
    · subst hj
      rw [getD_modify_self _ _ _ _ hi, hf, ite_self, if_pos List.mem_cons_self]
    · rw [getD_modify_ne _ _ _ _ _ hj]
      exact if_congr (by simp [Ne.symm hj]) rfl rfl

theorem foldl_modify_length {α : Type} (f : Nat → α → α) (is : List Nat) : ∀ l : List α,
    (is.foldl (fun l j => l.modify j (f j)) l).length = l.length := by
  induction is with
  | nil => intro l; rfl
  | cons j is ih => intro l; rw [List.foldl_cons, ih, List.length_modify]

theorem foldl_set_getD {α : Type} (v : Nat → α) (d : α) {i : Nat} (is : List Nat) (l : List α) (hi : i < l.length) :
    (is.foldl (fun l j => l.set j (v j)) l).getD i d = if i ∈ is then v i else l.getD i d := by
  simp only [List.set_eq_modify]
  exact foldl_modify_getD (fun j _ => v j) (fun _ _ => rfl) d is l hi

theorem foldl_set_length {α : Type} (v : Nat → α) (is : List Nat) (l : List α) :
    (is.foldl (fun l j => l.set j (v j)) l).length = l.length := by
  simp only [List.set_eq_modify]
  exact foldl_modify_length (fun j _ => v j) is l

/-! ## The zones of a block (R27, R40, R42, R50) -/

/-- The probe once the zones of `is` have been emitted: written if it is armed on one of them (R23, R50). -/
def State.probeOver (s : State) (is : List Nat) : Probe :=
  if s.probe.armed = true ∧ s.probe.zone ∈ is then
    { s.probe with record := some (s.probeRecord s.probe.zone), armed := decide (s.probe.mode = .every) }
  else s.probe

/-- What the emission of several zones changes: their eased levels, their places in the section buffer, the probe. -/
theorem State.emitZones_eq (is : List Nat) : ∀ s : State,
    is.foldl State.emitZone s = { s with
      zones := is.foldl (fun l i => l.modify i fun z => { z with eased := (s.composed i).le }) s.zones
      pass := { s.pass with buffer := is.foldl (fun l i => l.set i (s.lightOf i)) s.pass.buffer }
      probe := s.probeOver is } := by
  induction is with
  | nil => intro s; simp [State.probeOver]
  | cons i is ih =>
    intro s
    have hprobe : (s.emitZone i).probeOver is = s.probeOver (i :: is) := by
      show (if (s.probeAfter i).armed = true ∧ (s.probeAfter i).zone ∈ is then
        { s.probeAfter i with
          record := some (s.probeRecord (s.probeAfter i).zone), armed := decide ((s.probeAfter i).mode = .every) }
        else s.probeAfter i) = s.probeOver (i :: is)
      by_cases h : s.probe.armed = true ∧ s.probe.zone = i
      · obtain ⟨ha, rfl⟩ := h
        by_cases he : s.probe.mode = .every <;> simp [State.probeAfter, State.probeOver, ha, he]
      · have h' : s.probe.armed = true → s.probe.zone ≠ i := fun ha hz => h ⟨ha, hz⟩
        rw [State.probeAfter, if_neg h, State.probeOver]
        refine if_congr ⟨fun hx => ⟨hx.1, List.mem_cons_of_mem i hx.2⟩, fun hx => ⟨hx.1, ?_⟩⟩ rfl rfl
        exact (List.mem_cons.1 hx.2).resolve_left (h' hx.1)
    rw [List.foldl_cons, ih, hprobe]
    rfl

theorem State.mem_blockZones_iff (s : State) (j i : Nat) : i ∈ s.blockZones j ↔ i < s.grid.count ∧ i / 16 = j := by
  simp [State.blockZones]

/-! ## The groups of a block (R3, R27) -/

/-- A test that holds of a number's predecessors too holds of the numbers below the count of those it holds of. -/
theorem iff_lt_countP_range {p : Nat → Bool} (hp : ∀ a b, a ≤ b → p b = true → p a = true) (n : Nat) :
    ∀ r, r < n → (p r = true ↔ r < (List.range n).countP p) := by
  induction n with
  | zero => intro r hr; omega
  | succ n ih =>
    intro r hr
    rw [List.range_succ, List.countP_append, List.countP_singleton]
    have hle : (List.range n).countP p ≤ n := by simpa using List.countP_le_length (p := p) (l := List.range n)
    by_cases hn : p n = true
    · have hall : (List.range n).countP p = n := by
        simpa using List.countP_eq_length.2 fun a ha => hp a n (List.mem_range.1 ha).le hn
      rw [if_pos hn, hall]
      exact ⟨fun _ => hr, fun _ => hp r n (by omega) hn⟩
    · rw [if_neg hn, Nat.add_zero]
      rcases Nat.lt_succ_iff_lt_or_eq.1 hr with hlt | rfl
      · exact ih r hlt
      · exact ⟨fun h => absurd h hn, fun h => absurd h (by omega)⟩

theorem rowGroup_mono (groups rows : Nat) {a b : Nat} (h : a ≤ b) : rowGroup groups rows a ≤ rowGroup groups rows b :=
  Nat.div_le_div_right (Nat.mul_le_mul_right _ h)

/-- The zones of groups 0..k are those with the lowest indices. -/
theorem Grid.zoneGroup_le_iff (g : Grid) (groups k : Nat) {i : Nat} (hi : i < g.count) :
    g.zoneGroup groups i ≤ k ↔ i < g.zonesThrough groups k := by
  have hcols : 0 < g.cols := by
    rcases Nat.eq_zero_or_pos g.cols with h | h
    · simp [Grid.count, h] at hi
    · exact h
  have hrow : g.row i < g.rows := Nat.div_lt_of_lt_mul hi
  have hmono : ∀ a b, a ≤ b → decide (rowGroup groups g.rows b ≤ k) = true →
      decide (rowGroup groups g.rows a ≤ k) = true := by
    simpa using fun a b hab hb => (rowGroup_mono groups g.rows hab).trans hb
  have hlow := iff_lt_countP_range hmono g.rows (g.row i) hrow
  rw [decide_eq_true_eq] at hlow
  rw [Grid.zoneGroup, hlow, Grid.zonesThrough, Grid.row, Nat.div_lt_iff_lt_mul hcols]

theorem Grid.zonesThrough_le_count (g : Grid) (groups k : Nat) : g.zonesThrough groups k ≤ g.count := by
  rw [Grid.zonesThrough, Grid.count, Nat.mul_comm g.cols]
  refine Nat.mul_le_mul_right _ ?_
  simpa using List.countP_le_length (p := fun r => decide (rowGroup groups g.rows r ≤ k)) (l := List.range g.rows)

/-- A group goes with the block in which its zone of highest index lies, one without zones with the nearest lower-numbered
group that holds some (R27). -/
theorem State.mem_groupsOfBlock_iff (s : State) (b k : Nat) :
    k ∈ s.groupsOfBlock b ↔ k < s.schedule.groups ∧ ∃ i, i < s.grid.count ∧ i / 16 = b ∧
      s.grid.zoneGroup s.schedule.groups i ≤ k ∧
      ∀ j, j < s.grid.count → s.grid.zoneGroup s.schedule.groups j ≤ k → j ≤ i := by
  have hle := s.grid.zonesThrough_le_count s.schedule.groups k
  have hlow := fun i => s.grid.zoneGroup_le_iff s.schedule.groups k (i := i)
  rw [State.groupsOfBlock, List.mem_filter, List.mem_range, decide_eq_true_eq, ceilDiv_sixteen]
  refine and_congr Iff.rfl ⟨fun hb => ?_, fun ⟨i, hi, hb, hk, hmax⟩ => ?_⟩
  · refine ⟨s.grid.zonesThrough s.schedule.groups k - 1, by omega, by omega, ?_, fun j hj hk => ?_⟩
    · exact (hlow _ (by omega)).2 (by omega)
    · have := (hlow j hj).1 hk
      omega
  · have hlt := (hlow i hi).1 hk
    have htop := hmax (s.grid.zonesThrough s.schedule.groups k - 1) (by omega) ((hlow _ (by omega)).2 (by omega))
    omega

/-! ## Hand-over (R41, R95) -/

/-- A hand-over is discarded by a chain that does not serve the frame or is LATE for the group, and taken by any other. -/
theorem Chain.takeHandOver_eq (ch : Chain) (k counter : Nat) (late : Bool) (ho : List HandedZone) :
    ch.takeHandOver k counter late ho =
      if ch.state = .running ∧ ch.leftFrame = false ∧ late = false then ch.handed k counter (newDuties ho) else ch := by
  have hstages : ch.stagesFor k counter ho =
      ((List.range 48).filter fun a => (ch.record a).assigned && decide ((ch.record a).group = some k)).filterMap
        fun a => ch.stageFor k counter a (newDuties ho a) := by
    rw [List.filterMap_filter]
    simp [Chain.stagesFor]
  unfold Chain.takeHandOver
  by_cases h : ch.state = .running ∧ ch.leftFrame = false ∧ late = false
  · rw [if_pos h, if_neg (by simp [h]), hstages]
    rfl
  · rw [if_neg h, if_pos]
    by_contra hn
    simp only [ne_eq, not_or, not_not, Bool.not_eq_true] at hn
    exact h hn

theorem State.foundLate_eq (s : State) (k c : Nat) :
    s.foundLate k c = !(s.point k).all fun q => decide (q.outcomes.getD c .notCarried ≠ .late) := by
  unfold State.foundLate
  cases s.point k <;> simp [outcomeOf]

/-- Chain `c`'s engine once the groups of `ks` have been emitted, in turn (R41, R95). -/
def State.handedGroups (s : State) (ks : List Nat) (c : Nat) (ch : Chain) : Chain :=
  ks.foldl (fun ch k => if (s.sampledChain c).carries.getLsbD k && (s.sampledChain c).running then
    ch.takeHandOver k s.timebase.counter (s.foundLate k c) (s.handOver k c) else ch) ch

/-- What the emission of several groups changes: their marks and the engines. -/
theorem State.emitGroups_eq (ks : List Nat) : ∀ s : State,
    ks.foldl State.emitGroup s = { s with
      pass := { s.pass with emitted := ks.foldl (fun l k => l.set k true) s.pass.emitted }
      chains := s.chains.mapIdx (s.handedGroups ks) } := by
  induction ks with
  | nil => intro s; simp [State.handedGroups, List.mapIdx_eq_zipIdx_map]
  | cons k ks ih =>
    intro s
    rw [List.foldl_cons, ih]
    simp only [State.emitGroup, List.mapIdx_mapIdx]
    rfl

/-- The new duty of a channel is the limited drive of a zone of the hand-over that it holds, or 0 (R95). -/
theorem newDuties_handOver (s : State) (k c a : Nat) :
    (newDuties (s.handOver k c) a).length = 16 ∧ ∀ j, j < 16 →
      (∃ i, i < s.grid.count ∧ s.grid.zoneGroup s.schedule.groups i = k ∧ (s.sampledZone i).channel = some ⟨c, a, j⟩ ∧
        (newDuties (s.handOver k c) a).getD j 0 = s.driveOf i) ∨
      ((∀ i, i < s.grid.count → s.grid.zoneGroup s.schedule.groups i = k →
        (s.sampledZone i).channel ≠ some ⟨c, a, j⟩) ∧ (newDuties (s.handOver k c) a).getD j 0 = 0) := by
  refine ⟨by simp [newDuties], fun j hj => ?_⟩
  have hmem : ∀ z : HandedZone, z ∈ s.handOver k c ↔ ∃ i, i < s.grid.count ∧
      s.grid.zoneGroup s.schedule.groups i = k ∧ (s.sampledZone i).channel = some ⟨c, z.position, z.channel⟩ ∧
      s.driveOf i = z.drive := by
    intro z
    simp only [State.handOver, State.zonesOf, List.mem_filterMap, List.mem_filter, List.mem_range, decide_eq_true_eq]
    constructor
    · rintro ⟨i, ⟨hi, hk⟩, hz⟩
      cases hx : (s.sampledZone i).channel with
      | none => simp [hx] at hz
      | some x =>
        obtain ⟨rfl, rfl⟩ : x.chain = c ∧ ⟨x.position, x.channel, s.driveOf i⟩ = z := by simpa [hx] using hz
        exact ⟨i, hi, hk, hx, rfl⟩
    · rintro ⟨i, hi, hk, hx, hd⟩
      exact ⟨i, ⟨hi, hk⟩, by simp [hx, hd]⟩
  cases hfind : (s.handOver k c).find? fun z => decide (z.position = a) && decide (z.channel = j) with
  | some z =>
    obtain ⟨rfl, rfl⟩ : z.position = a ∧ z.channel = j := by simpa using List.find?_some hfind
    obtain ⟨i, hi, hk, hx, hd⟩ := (hmem z).1 (List.mem_of_find?_eq_some hfind)
    refine .inl ⟨i, hi, hk, hx, ?_⟩
    simp [newDuties, hj, hfind, hd]
  | none =>
    refine .inr ⟨fun i hi hk hx => ?_, by simp [newDuties, hj, hfind]⟩
    have := List.find?_eq_none.1 hfind ⟨a, j, s.driveOf i⟩ ((hmem _).2 ⟨i, hi, hk, hx, rfl⟩)
    simp at this

/-! ## An emission block as a whole -/

/-- The moment the block in turn is emitted (R26, R27). -/
def State.blockMoment (s : State) : Nat := max s.now s.emitDue

/-- What an emission block leaves: the zones of the block emitted, the groups it completes handed over, the engine a block
further, and the lines served. -/
def State.afterBlock (s : State) : State :=
  { s with
    now := s.blockMoment
    zones := (s.blockZones s.pass.blocks).foldl (fun l i => l.modify i fun z => { z with eased := (s.composed i).le })
      s.zones
    probe := s.probeOver (s.blockZones s.pass.blocks)
    pass := { s.pass with
      blocks := s.pass.blocks + 1
      phase := if (s.grid.count + 15) / 16 ≤ s.pass.blocks + 1 then .idle else .emitting
      entryMark := if (s.grid.count + 15) / 16 ≤ s.pass.blocks + 1 ∧ s.pass.sample.entryMark = true then false
        else s.pass.entryMark
      buffer := (s.blockZones s.pass.blocks).foldl (fun l i => l.set i (s.lightOf i)) s.pass.buffer
      emitted := (s.groupsOfBlock s.pass.blocks).foldl (fun l k => l.set k true) s.pass.emitted }
    chains := s.chains.mapIdx fun c ch => (s.handedGroups (s.groupsOfBlock s.pass.blocks) c ch).serve s.blockMoment }

/-- The engine after a block: IDLE after the last, and with the running-entry mark cleared if the pass began with it. -/
theorem PassEngine.blockDone_eq {p : PassEngine} (n : Nat) (hp : p.phase = .emitting) :
    p.blockDone n = { p with
      blocks := p.blocks + 1
      phase := if (n + 15) / 16 ≤ p.blocks + 1 then .idle else .emitting
      entryMark := if (n + 15) / 16 ≤ p.blocks + 1 ∧ p.sample.entryMark = true then false else p.entryMark } := by
  unfold PassEngine.blockDone
  rw [ceilDiv_sixteen]
  by_cases h : (n + 15) / 16 ≤ p.blocks + 1
  · cases he : p.sample.entryMark <;> simp [h]
  · simp [h, hp]

theorem map_eq_mapIdx {α β : Type} (f : α → β) (l : List α) : l.map f = l.mapIdx fun _ x => f x :=
  List.ext_getElem (by simp) (by simp)

theorem execEmissionBlock_emitting {s : State} (h : s.pass.phase = .emitting) :
    execEmissionBlock s = .next s.afterBlock := by
  rw [execEmissionBlock, if_pos h]
  simp only [State.emitZones_eq, State.emitGroups_eq, State.serveAll, State.mapChains, map_eq_mapIdx, List.mapIdx_mapIdx]
  rw [PassEngine.blockDone_eq]
  · rfl
  · exact h

/-- A group is handed to a chain that carries it, was sampled RUNNING, serves the frame and was not found LATE for it. -/
theorem State.handedGroups_eq (s : State) (ks : List Nat) (c : Nat) (ch : Chain) :
    s.handedGroups ks c ch = ks.foldl (fun ch k =>
      if (s.sampledChain c).carries.getLsbD k = true ∧ (s.sampledChain c).running = true ∧ ch.state = .running ∧
        ch.leftFrame = false ∧ (s.point k).all (fun q => decide (q.outcomes.getD c .notCarried ≠ .late)) = true
      then ch.handed k s.timebase.counter (newDuties (s.handOver k c)) else ch) ch := by
  unfold State.handedGroups
  congr 1
  funext ch k
  rw [Chain.takeHandOver_eq, ← ite_and]
  exact if_congr (by rw [s.foundLate_eq, Bool.not_eq_false', Bool.and_eq_true, and_assoc]) rfl rfl

theorem State.chain_mapIdx (s : State) (f : Nat → Chain → Chain) {c : Nat} (hc : c < s.chains.length) :
    (s.chains.mapIdx f).getD c Chain.powerOn = f c (s.chain c) := by
  simp [State.chain, hc]

/-- Settles O48. -/
theorem emissionStoresItsBlock : Obligations.EmissionStoresItsBlock := by
  intro s
  refine ⟨fun h => if_neg h, fun h hzones hbuffer hemitted hgroups =>
    ⟨s.afterBlock, execEmissionBlock_emitting h, rfl, ?_, ?_, ?_, ?_, ?_, ?_, ?_, s.groupsOfBlock s.pass.blocks,
      fun k c a => newDuties (s.handOver k c) a, ?_, s.mem_groupsOfBlock_iff s.pass.blocks,
      fun k c a => newDuties_handOver s k c a, fun c hc => ?_⟩⟩
  · rfl
  · simp [State.afterBlock, foldl_modify_length, hzones]
  · simp [State.afterBlock, foldl_set_length, hbuffer]
  · simp [State.afterBlock]
  · rintro i hi dl lm rfl rfl
    have hin : i ∈ s.blockZones s.pass.blocks ↔ i / 16 = s.pass.blocks := by simp [s.mem_blockZones_iff, hi]
    refine ⟨?_, ?_, fun hz ha hb => ?_⟩
    · exact (foldl_modify_getD (fun i (z : Zone) => { z with eased := (s.composed i).le }) (fun _ _ => rfl) _ _ _
        (by rwa [hzones])).trans (if_congr hin rfl rfl)
    · refine (foldl_set_getD _ _ _ _ (by rwa [hbuffer])).trans (if_congr hin ?_ rfl)
      unfold State.lightOf State.driveOf
      split <;> rfl
    · refine (if_pos ⟨ha, hz ▸ hin.2 hb⟩).trans ?_
      subst hz
      unfold State.probeRecord State.lightOf State.driveOf
      congr 3
  · intro hout
    refine if_neg fun ⟨ha, hm⟩ => ?_
    obtain ⟨hlt, hb⟩ := (s.mem_blockZones_iff _ _).1 hm
    rcases hout with hna | hge | hne
    · simp [hna] at ha
    · omega
    · exact hne hb
  · intro k hk
    rw [← s.mem_groupsOfBlock_iff]
    have hget := foldl_set_getD (fun _ => true) false (s.groupsOfBlock s.pass.blocks) s.pass.emitted (hemitted.symm ▸ hk)
    rw [show s.afterBlock.pass.emitted.getD k false = _ from hget]
    by_cases hm : k ∈ s.groupsOfBlock s.pass.blocks <;> simp [hm]
  · exact List.pairwise_lt_range.filter _
  · refine (s.chain_mapIdx _ hc).trans ?_
    rw [s.handedGroups_eq]
    rfl

end Sys2Proof.Machine

namespace Sys2Proof.Machine

/-! # What the shared operations keep

The window list, the channel map, the sizes of the stores, the derate factors and the counters are written by few
commands. `Keeps s u` says that nothing of theirs has moved from `s` to `u`, counters apart, which may have gone up to
their limit; each shared operation keeps them, and so does whatever is made of such operations. -/

/-! ## One chain engine -/

/-- The applied factor stands, and no counter of the chain has gone past 16 bits. -/
structure Chain.Keeps (x y : Chain) : Prop where
  applied : y.applied = x.applied
  damaged : x.damaged ≤ 65535 → y.damaged ≤ 65535
  late : x.late ≤ 65535 → y.late ≤ 65535
  recoveries : x.recoveries ≤ 65535 → y.recoveries ≤ 65535

/-- The applied factor and the counters of a chain. -/
def Chain.tally (ch : Chain) : Nat × Nat × Nat × Nat := (ch.applied, ch.damaged, ch.late, ch.recoveries)

theorem Chain.Keeps.of_tally {x y : Chain} (h : y.tally = x.tally) : x.Keeps y := by
  obtain ⟨ha, hd, hl, hr⟩ : y.applied = x.applied ∧ y.damaged = x.damaged ∧ y.late = x.late ∧
      y.recoveries = x.recoveries := by simpa [Chain.tally] using h
  exact ⟨ha, fun h => hd.trans_le h, fun h => hl.trans_le h, fun h => hr.trans_le h⟩

theorem Chain.Keeps.refl (x : Chain) : x.Keeps x := .of_tally rfl

theorem Chain.Keeps.trans {x y z : Chain} (h : x.Keeps y) (k : y.Keeps z) : x.Keeps z :=
  ⟨k.applied.trans h.applied, k.damaged ∘ h.damaged, k.late ∘ h.late, k.recoveries ∘ h.recoveries⟩

theorem Chain.serve_tally (ch : Chain) (now : Nat) : (ch.serve now).tally = ch.tally := by
  rcases ch.serve_cases now with h | ⟨x, retry, rest, -, -, h, ⟨-, hp⟩ | ⟨-, -, -, rfl⟩⟩
  · rw [h]
  · rw [h]
    rcases ch.pick_cases x retry rest hp with ⟨_, _, _, _, _, rfl⟩ | ⟨_, _, _, _, rfl⟩ | ⟨_, _, _, _, rfl⟩ |
      ⟨_, _, _, _, _, _, _, rfl⟩ <;> rfl
  · rw [h]
    rfl

theorem Chain.requeue_tally (ch : Chain) (x : Sent) : (ch.requeue x).tally = ch.tally := by
  cases x <;> rfl

theorem Chain.giveUpStage_tally (ch : Chain) (e : StageEntry) (n : Nat) : (ch.giveUpStage e n).tally = ch.tally := by
  unfold Chain.giveUpStage
  dsimp only
  split <;> rfl

theorem Chain.acceptStage_tally (ch : Chain) (e : StageEntry) (n : Nat) : (ch.acceptStage e n).tally = ch.tally := by
  unfold Chain.acceptStage
  dsimp only
  split <;> rfl

theorem Chain.oweLatch_tally (ch : Chain) (mask : BitVec 8) : (ch.oweLatch mask).tally = ch.tally := by
  unfold Chain.oweLatch
  split <;> rfl

theorem Chain.takeHandOver_tally (ch : Chain) (k n : Nat) (late : Bool) (ho : List HandedZone) :
    (ch.takeHandOver k n late ho).tally = ch.tally := by
  unfold Chain.takeHandOver
  split <;> rfl

theorem Chain.pollTick_tally (ch : Chain) : ch.pollTick.tally = ch.tally := by
  unfold Chain.pollTick
  split
  · rfl
  · split <;> rfl

theorem Chain.halt_tally (ch : Chain) (now : Nat) : (ch.halt now).tally = ch.tally := by
  unfold Chain.halt
  split <;> rfl

theorem Chain.startUp_tally (ch : Chain) (now : Nat) : (ch.startUp now).tally = ch.tally := by
  unfold Chain.startUp
  split <;> rfl

theorem Chain.restartTick_tally (ch : Chain) (due : Nat) : (ch.restartTick due).tally = ch.tally := by
  unfold Chain.restartTick
  split <;> rfl

theorem Chain.enterRecovering_keeps (ch : Chain) (x : Cause) : ch.Keeps (ch.enterRecovering x) :=
  ⟨rfl, id, id, fun _ => sat16_le _⟩

theorem Chain.lateFor_keeps (ch : Chain) (k : Nat) : ch.Keeps (ch.lateFor k) :=
  ⟨rfl, id, fun _ => sat16_le _, id⟩

theorem Chain.clearCounters_keeps (ch : Chain) : ch.Keeps ch.clearCounters :=
  ⟨rfl, fun _ => Nat.zero_le _, fun _ => Nat.zero_le _, fun _ => Nat.zero_le _⟩

theorem Chain.foldl_keeps {α : Type} (f : Chain → α → Chain) (hf : ∀ (ch : Chain) (a : α), ch.Keeps (f ch a)) (as : List α) :
    ∀ ch : Chain, ch.Keeps (as.foldl f ch) := by
  induction as with
  | nil => exact Chain.Keeps.refl
  | cons a as ih => exact fun ch => (hf ch a).trans (ih _)

/-! ## All chain engines -/

/-- Each engine of `ys` is one of `xs`, its factor and counters kept. -/
def ChainsKeep (xs ys : List Chain) : Prop := ∀ y ∈ ys, ∃ x ∈ xs, x.Keeps y

theorem ChainsKeep.of_eq {xs ys : List Chain} (h : ys = xs) : ChainsKeep xs ys :=
  fun y hy => ⟨y, h ▸ hy, .refl y⟩

theorem ChainsKeep.trans {xs ys zs : List Chain} (h : ChainsKeep xs ys) (k : ChainsKeep ys zs) : ChainsKeep xs zs := by
  intro z hz
  obtain ⟨y, hy, hyz⟩ := k z hz
  obtain ⟨x, hx, hxy⟩ := h y hy
  exact ⟨x, hx, hxy.trans hyz⟩

theorem ChainsKeep.modify (xs : List Chain) (c : Nat) {f : Chain → Chain} (hf : ∀ x : Chain, x.Keeps (f x)) :
    ChainsKeep xs (xs.modify c f) :=
  modify_all (p := fun y => ∃ x ∈ xs, x.Keeps y) xs c f (fun x hx => ⟨x, hx, .refl x⟩) fun x hx => ⟨x, hx, hf x⟩

theorem ChainsKeep.map (xs : List Chain) {f : Chain → Chain} (hf : ∀ x : Chain, x.Keeps (f x)) : ChainsKeep xs (xs.map f) := by
  intro y hy
  obtain ⟨x, hx, rfl⟩ := List.mem_map.1 hy
  exact ⟨x, hx, hf x⟩

theorem ChainsKeep.mapIdx (xs : List Chain) {f : Nat → Chain → Chain} (hf : ∀ (c : Nat) (x : Chain), x.Keeps (f c x)) :
    ChainsKeep xs (xs.mapIdx f) := by
  intro y hy
  obtain ⟨i, hi, rfl⟩ := List.mem_mapIdx.1 hy
  exact ⟨xs[i], List.getElem_mem hi, hf i _⟩

/-! ## The counters of the part -/

/-- No counter has gone past 16 bits. -/
def CountersKeep (x y : Counters) : Prop := (∀ n ∈ x.values, n ≤ 65535) → ∀ n ∈ y.values, n ≤ 65535

theorem CountersKeep.of_eq {x y : Counters} (h : y = x) : CountersKeep x y := fun hx => h ▸ hx

theorem CountersKeep.trans {x y z : Counters} (h : CountersKeep x y) (k : CountersKeep y z) : CountersKeep x z := k ∘ h

/-- One counter has been counted up. -/
theorem CountersKeep.of_set {x y : Counters} (i n : Nat) (h : y.values = x.values.set i (sat16 n)) :
    CountersKeep x y := by
  intro hx m hm
  rw [h] at hm
  rcases List.mem_or_eq_of_mem_set hm with hm | rfl
  · exact hx m hm
  · exact sat16_le n

/-! ## The whole state -/

/-- What R5 and R7 speak of in a zone record. -/
def Zone.wiring (z : Zone) : Option Channel × Nat := (z.channel, z.gain)

/-- Window list, channel map, stores and factors stand as they were; counters have not gone past their limit. -/
structure Keeps (s u : State) : Prop where
  grid : u.grid = s.grid := by simp
  windows : u.windows = s.windows := by simp
  wiring : u.zones.map Zone.wiring = s.zones.map Zone.wiring := by simp
  params : u.thermal.params = s.thermal.params := by simp
  request : u.request = s.request := by simp
  buffer : u.pass.buffer.length = s.pass.buffer.length := by simp
  emitted : s.pass.emitted.length = 8 → u.pass.emitted.length = 8 := by simp
  points : s.schedule.points.length = 8 → u.schedule.points.length = 8 := by simp
  groups : u.schedule.groups = s.schedule.groups := by simp
  chains : ChainsKeep s.chains u.chains := by exact ChainsKeep.of_eq (by simp)
  counters : CountersKeep s.counters u.counters := by exact CountersKeep.of_eq (by simp)

theorem Keeps.refl (s : State) : Keeps s s where

theorem Keeps.trans {s t u : State} (h : Keeps s t) (k : Keeps t u) : Keeps s u where
  grid := k.grid.trans h.grid
  windows := k.windows.trans h.windows
  wiring := k.wiring.trans h.wiring
  params := k.params.trans h.params
  request := k.request.trans h.request
  buffer := k.buffer.trans h.buffer
  emitted := k.emitted ∘ h.emitted
  points := k.points ∘ h.points
  groups := k.groups.trans h.groups
  chains := h.chains.trans k.chains
  counters := h.counters.trans k.counters

/-- `Keeps.trans` with the later move first, so that a proof reads from the outermost operation inwards. -/
theorem Keeps.after {s t u : State} (k : Keeps t u) (h : Keeps s t) : Keeps s u := h.trans k

theorem Keeps.foldl {α : Type} {f : State → α → State} (hf : ∀ s a, Keeps s (f s a)) (as : List α) :
    ∀ s, Keeps s (as.foldl f s) := by
  induction as with
  | nil => exact Keeps.refl
  | cons a as ih => exact fun s => (hf s a).trans (ih _)

/-! ## Operations that write neither engine nor counter -/

theorem State.arrive_keeps (s : State) (t : Nat) : Keeps s (s.arrive t) where

theorem State.respond_keeps (s : State) (cmd : Option SysCommand) (r : SysResult) (d : ResponseData) :
    Keeps s (s.respond cmd r d) where

theorem State.answer_keeps (s : State) (cmd : SysCommand) (r : SysResult) : Keeps s (s.answer cmd r) where

theorem State.respondPending_keeps (s : State) (cmd : SysCommand) (c : Nat) : Keeps s (s.respondPending cmd c) where

theorem State.fixDirect_keeps (s : State) (c : Nat) (r : SysResult) (d : ResponseData) :
    Keeps s (s.fixDirect c r d) where

theorem State.dropDirect_keeps (s : State) (c : Nat) : Keeps s (s.dropDirect c) where

theorem State.freeBuffer_keeps (s : State) (i : Nat) : Keeps s (s.freeBuffer i) where

theorem State.servePanel_keeps (s : State) : Keeps s s.servePanel where

theorem State.markHoldEnded_keeps (s : State) : Keeps s s.markHoldEnded where

theorem State.placeNotice_keeps (s : State) (n : WindowNotice) : Keeps s (s.placeNotice n) where

theorem State.setTimebase_keeps (s : State) (tb : Timebase) : Keeps s (s.setTimebase tb) where

theorem State.beginFrame_keeps (s : State) : Keeps s s.beginFrame where

theorem State.capture_keeps (s : State) (c p : Nat) : Keeps s (s.capture c p).1 := by
  obtain ⟨r, h⟩ := s.capture_frame c p
  rw [h]
  exact {}

/-! ## Reports and sections -/

theorem State.queueReport_keeps (s : State) (es : List ReportEntry) : Keeps s (s.queueReport es) where
  counters := by
    unfold State.queueReport
    split
    · exact .of_eq rfl
    · exact .of_set 4 _ rfl

theorem State.queueSnapReport_keeps (s : State) (c p : Nat) (carry : Option (Option SnapTag)) (es : List ReportEntry) :
    Keeps s (s.queueSnapReport c p carry es).1 := by
  unfold State.queueSnapReport
  split
  · cases carry
    · exact (s.capture_keeps c p).trans (State.queueReport_keeps _ _)
    · exact s.queueReport_keeps _
  · exact s.queueReport_keeps es

theorem State.queueSection_keeps (s : State) (b : LightSection) : Keeps s (s.queueSection b) where
  counters := by
    unfold State.queueSection
    split
    · exact .of_eq rfl
    · exact .of_set 5 _ rfl

theorem State.timebaseReport_keeps (s : State) (e : ReportEvent) (r : RecoveryState) :
    Keeps s (s.timebaseReport e r) := s.queueReport_keeps _

theorem State.chainReport_keeps (s : State) (c n : Nat) (e : ReportEvent) (r : RecoveryState) :
    Keeps s (s.chainReport c n e r) := s.queueReport_keeps _

theorem State.reportSensor_keeps (s : State) (i : Nat) (a b : Bool) : Keeps s (s.reportSensor i a b) := by
  unfold State.reportSensor
  split
  · exact .refl s
  · exact s.queueReport_keeps _

theorem State.discardMessage_keeps (s : State) : Keeps s s.discardMessage :=
  Keeps.trans { counters := .of_set 6 _ rfl } (State.queueReport_keeps _ _)

theorem State.pictureResult_keeps (s : State) (r : PictureResult) : Keeps s (s.pictureResult r) where
  counters := by
    unfold State.pictureResult
    split
    · exact .of_eq rfl
    · dsimp only
      split
      · exact .of_set 7 _ rfl
      · exact CountersKeep.trans (.of_set 7 _ rfl) (State.queueReport_keeps _ _).counters

theorem State.reportFaults_keeps (c p : Nat) (found : List (Nat × ZoneFault)) :
    ∀ (s : State) (carry : Option (Option SnapTag)), Keeps s (s.reportFaults c p carry found) := by
  induction found using List.twoStepInduction with
  | nil => exact fun s _ => .refl s
  | singleton x => exact fun s carry => s.queueSnapReport_keeps c p carry _
  | cons_cons x y found ih _ => exact fun s carry => (s.queueSnapReport_keeps c p carry _).trans (ih _ _)

/-! ## Operations on engines -/

theorem State.updChain_keeps (s : State) (c : Nat) {f : Chain → Chain} (hf : ∀ x : Chain, x.Keeps (f x)) :
    Keeps s (s.updChain c f) where
  chains := .modify _ _ hf

theorem State.mapChains_keeps (s : State) {f : Chain → Chain} (hf : ∀ x : Chain, x.Keeps (f x)) :
    Keeps s (s.mapChains f) where
  chains := .map _ hf

/-- A change of one engine that leaves its factor and counters alone. -/
theorem State.updChain_keeps_of_tally (s : State) (c : Nat) {f : Chain → Chain} (hf : ∀ x, (f x).tally = x.tally) :
    Keeps s (s.updChain c f) := s.updChain_keeps c fun x => .of_tally (hf x)

theorem State.mapChains_keeps_of_tally (s : State) {f : Chain → Chain} (hf : ∀ x, (f x).tally = x.tally) :
    Keeps s (s.mapChains f) := s.mapChains_keeps fun x => .of_tally (hf x)

theorem State.serve_keeps (s : State) (c : Nat) : Keeps s (s.serve c) :=
  s.updChain_keeps_of_tally c fun x => x.serve_tally _

theorem State.serveAll_keeps (s : State) : Keeps s s.serveAll :=
  s.mapChains_keeps_of_tally fun x => x.serve_tally _

theorem State.moveClaims_keeps (s : State) (x : Claims) (b : Bool) : Keeps s (s.moveClaims x b) where
  chains := by
    cases b
    · exact .of_eq rfl
    · exact .map _ fun _ => .of_tally rfl

theorem State.enterFailed_keeps (s : State) (c : Nat) (x : Cause) : Keeps s (s.enterFailed c x) :=
  .after (State.chainReport_keeps _ _ _ _ _) (s.updChain_keeps_of_tally c fun _ => rfl)

theorem State.recover_keeps (s : State) (c : Nat) (x : Cause) : Keeps s (s.recover c x) := by
  have hleave : Keeps s ((s.dropDirect c).updChain c fun ch => ch.enterRecovering x) :=
    .after (State.updChain_keeps _ c fun ch => ch.enterRecovering_keeps x) (s.dropDirect_keeps c)
  unfold State.recover
  dsimp only
  split
  · exact .after (State.chainReport_keeps _ _ _ _ _) (.after (State.updChain_keeps_of_tally _ c fun _ => rfl) hleave)
  · exact .after (State.enterFailed_keeps _ c x) hleave

theorem State.failAttempt_keeps (s : State) (c : Nat) (x : Cause) : Keeps s (s.failAttempt c x) := by
  unfold State.failAttempt
  dsimp only
  split
  · exact .after (State.updChain_keeps_of_tally _ c fun _ => rfl) (s.updChain_keeps_of_tally c fun _ => rfl)
  · exact .after (State.enterFailed_keeps _ c x) (s.updChain_keeps_of_tally c fun _ => rfl)

theorem State.linkFailure_keeps (s : State) (c : Nat) (x : Cause) : Keeps s (s.linkFailure c x) := by
  unfold State.linkFailure
  split
  · exact s.recover_keeps c x
  · split
    · exact s.failAttempt_keeps c x
    · exact .refl s

/-! ## Operations on zone records -/

/-- Records changed in other fields than channel and gain. -/
theorem State.mapZones_keeps (s : State) {f : Zone → Zone} (hf : ∀ z, (f z).wiring = z.wiring) :
    Keeps s { s with zones := s.zones.map f } where
  wiring := by simp [List.map_map, Function.comp_def, hf]

theorem map_wiring_modify (zs : List Zone) (i : Nat) {f : Zone → Zone} (hf : ∀ z, (f z).wiring = z.wiring) :
    (zs.modify i f).map Zone.wiring = zs.map Zone.wiring := by
  apply List.ext_getElem
  · simp
  · intro j _ _
    simp only [List.getElem_map, List.getElem_modify]
    split <;> simp [hf]

theorem State.updZone_keeps (s : State) (i : Nat) {f : Zone → Zone} (hf : ∀ z, (f z).wiring = z.wiring) :
    Keeps s (s.updZone i f) where
  wiring := map_wiring_modify _ _ hf

theorem clearMissing_wiring (c : Nat) (z : Zone) : (clearMissing c z).wiring = z.wiring := by
  unfold clearMissing
  split
  · split <;> rfl
  · rfl

theorem setMissing_wiring (c n d : Nat) (z : Zone) : (setMissing c n d z).wiring = z.wiring := by
  unfold setMissing
  split
  · split <;> rfl
  · rfl

theorem relight_wiring (c : Nat) (z : Zone) : (relight c z).wiring = z.wiring := by
  simp [Zone.wiring]

theorem setFaults_wiring (found : List (Nat × ZoneFault)) : ∀ zs : List Zone,
    (setFaults zs found).map Zone.wiring = zs.map Zone.wiring := by
  induction found with
  | nil => exact fun _ => rfl
  | cons x found ih => exact fun zs => (ih _).trans (map_wiring_modify zs x.1 fun _ => rfl)

theorem State.emitZone_keeps (s : State) (i : Nat) : Keeps s (s.emitZone i) where
  wiring := map_wiring_modify _ _ fun _ => rfl
  buffer := by simp [State.emitZone]
  emitted := id

/-! ## Attempts -/

theorem State.compareDrivers_keeps (s : State) (c n : Nat) : Keeps s (s.compareDrivers c n) := by
  unfold State.compareDrivers
  dsimp only
  split
  · exact .after (State.chainReport_keeps _ _ _ _ _) (s.mapZones_keeps fun z => setMissing_wiring c n _ z)
  · split
    · exact s.chainReport_keeps _ _ _ _
    · exact .refl s

theorem State.succeed_keeps (s : State) (c n : Nat) : Keeps s (s.succeed c n) := by
  have henter := Keeps.after (State.mapZones_keeps _ fun z => relight_wiring c z)
    (.after (State.updChain_keeps_of_tally (s.compareDrivers c n) c
      (f := fun ch => ch.enterRunning s.now s.system.pollInterval n) fun _ => rfl) (s.compareDrivers_keeps c n))
  unfold State.succeed
  dsimp only
  split
  · exact .after (State.chainReport_keeps _ _ _ _ _) henter
  · exact henter

theorem State.continueAttempt_keeps (s : State) (c n a : Nat) : Keeps s (s.continueAttempt c n a) := by
  unfold State.continueAttempt
  split
  · exact s.updChain_keeps_of_tally c fun _ => rfl
  · exact s.succeed_keeps c n

/-! ## The fault monitor -/

theorem State.compareHot_keeps (s : State) (c p : Nat) (b : Bool) : Keeps s (s.compareHot c p b) := by
  unfold State.compareHot
  split
  · exact .refl s
  · exact .after (State.queueReport_keeps _ _) (s.updChain_keeps_of_tally c fun _ => rfl)

theorem State.compareSupply_keeps (s : State) (c p : Nat) (b : Bool) : Keeps s (s.compareSupply c p b) := by
  unfold State.compareSupply
  split
  · exact .refl s
  · exact .after (State.queueReport_keeps _ _) (s.updChain_keeps_of_tally c fun _ => rfl)

theorem State.statusCheck_keeps (s : State) (c p : Nat) : Keeps s (s.statusCheck c p) :=
  .after (State.queueSnapReport_keeps _ c p _ _)
    (s.updChain_keeps c fun _ => ⟨rfl, fun _ => sat16_le _, id, id⟩)

theorem State.interpret_keeps (s : State) (c p : Nat) (r : PollReply) : Keeps s (s.interpret c p r) := by
  have hmarks : Keeps s ({ s with zones := setFaults s.zones (confirmedBy s.zones c p ((s.chain c).record p) r) }.updChain c
      fun ch => ch.updRecord p (examineRecord s.zones c p r)) :=
    .after (State.updChain_keeps_of_tally _ c fun _ => rfl) { wiring := setFaults_wiring _ _ }
  exact .after (State.compareSupply_keeps _ c p _) (.after (State.compareHot_keeps _ c p _)
    (.after (State.reportFaults_keeps c p _ _ _) hmarks))

theorem State.takeReply_keeps (s : State) (c p : Nat) (r : PollReply) : Keeps s (s.takeReply c p r) := by
  unfold State.takeReply
  dsimp only
  split
  · exact .after (State.interpret_keeps _ c p r) (s.updChain_keeps_of_tally c fun _ => rfl)
  · exact .after (State.statusCheck_keeps _ c p) (s.updChain_keeps_of_tally c fun _ => rfl)

/-! ## Echoes -/

theorem State.giveUp_keeps (s : State) (c : Nat) (x : Sent) : Keeps s (s.giveUp c x) := by
  cases x with
  | stage e => exact s.updChain_keeps_of_tally c fun ch => ch.giveUpStage_tally e _
  | latch m => exact s.updChain_keeps_of_tally c fun _ => rfl
  | poll a => exact s.updChain_keeps_of_tally c fun _ => rfl
  | direct a k => exact .after (State.updChain_keeps_of_tally _ c fun _ => rfl) (s.fixDirect_keeps c _ _)
  | assign a g => exact s.failAttempt_keeps c _
  | clear => exact s.failAttempt_keeps c _

theorem State.echoDamaged_keeps (s : State) (c : Nat) (f : InFlight) : Keeps s (s.echoDamaged c f) := by
  have hcount : Keeps s (s.updChain c fun ch => { ch with inflight := ch.inflight.drop 1, damaged := sat16 ch.damaged }) :=
    s.updChain_keeps c fun _ => ⟨rfl, fun _ => sat16_le _, id, id⟩
  unfold State.echoDamaged
  dsimp only
  split
  · exact .after (State.giveUp_keeps _ c _) hcount
  · exact .after (State.updChain_keeps_of_tally _ c fun ch => ch.requeue_tally _) hcount

theorem State.acceptLatch_keeps (s : State) (c : Nat) (m : BitVec 8) (n : Nat) : Keeps s (s.acceptLatch c m n) := by
  unfold State.acceptLatch
  dsimp only
  split
  · exact .after (State.chainReport_keeps _ _ _ _ _) (.after (State.updChain_keeps_of_tally _ c fun _ => rfl)
      (s.updChain_keeps_of_tally c fun _ => rfl))
  · exact s.updChain_keeps_of_tally c fun _ => rfl

theorem State.acceptClear_keeps (s : State) (c n : Nat) : Keeps s (s.acceptClear c n) :=
  .after (State.continueAttempt_keeps _ c n 0) (s.updChain_keeps_of_tally c fun _ => rfl)

theorem State.acceptAssign_keeps (s : State) (c a : Nat) (g : Option Nat) (b : Bool) :
    Keeps s (s.acceptAssign c a g b) := by
  unfold State.acceptAssign
  split
  · split
    · exact .after (State.continueAttempt_keeps _ c _ _) (s.updChain_keeps_of_tally c fun _ => rfl)
    · exact s.failAttempt_keeps c _
  · exact .refl s

theorem State.acceptReply_keeps (s : State) (c : Nat) (x : Sent) (r : Reply) : Keeps s (s.acceptReply c x r) := by
  unfold State.acceptReply
  split
  · exact s.updChain_keeps_of_tally c fun ch => ch.acceptStage_tally _ _
  · exact s.acceptLatch_keeps c _ _
  · exact s.takeReply_keeps c _ _
  · exact s.acceptAssign_keeps c _ _ _
  · exact .after (State.fixDirect_keeps _ c _ _) (s.updChain_keeps_of_tally c fun _ => rfl)
  · exact s.fixDirect_keeps c _ _
  · split
    · exact s.acceptClear_keeps c _
    · exact .refl s
  · exact .refl s

theorem State.echoAccepted_keeps (s : State) (c : Nat) (f : InFlight) (r : Reply) : Keeps s (s.echoAccepted c f r) :=
  .after (State.acceptReply_keeps _ c _ _) (s.updChain_keeps_of_tally c fun _ => rfl)

theorem State.checkEcho_keeps (s : State) (c : Nat) (bits : List Bool) : Keeps s (s.checkEcho c bits) := by
  unfold State.checkEcho
  split
  · exact s.linkFailure_keeps c _
  · split
    · exact s.echoDamaged_keeps c _
    · exact s.linkFailure_keeps c _
    · exact s.echoAccepted_keeps c _ _

/-! ## The schedule -/

theorem State.commitGroup_keeps (s : State) (k : Nat) : Keeps s (s.commitGroup k) :=
  .after (State.queueSection_keeps _ _)
    { wiring := by
        apply List.ext_getElem
        · simp
        · intro i _ _
          simp only [List.getElem_map, List.getElem_mapIdx, State.commitZone]
          split <;> rfl
      points := by simp [Schedule.updPoint]
      groups := rfl
      chains := by
        refine .mapIdx _ fun c ch => ?_
        split
        · exact ch.lateFor_keeps k
        · exact .refl ch }

theorem State.commitGroups_keeps (s : State) (ks : List Nat) : Keeps s (s.commitGroups ks) :=
  Keeps.foldl State.commitGroup_keeps ks s

theorem State.latchAt_keeps (s : State) (t : Nat) : Keeps s (s.latchAt t) where
  points := by simp [State.latchAt]
  groups := rfl
  chains := .mapIdx _ fun _ ch => .of_tally (ch.oweLatch_tally _)

theorem State.emitGroup_keeps (s : State) (k : Nat) : Keeps s (s.emitGroup k) where
  buffer := rfl
  emitted := by simp [State.emitGroup]
  chains := .mapIdx _ fun _ ch => by
    split
    · exact .of_tally (ch.takeHandOver_tally _ _ _ _)
    · exact .refl ch

theorem State.moveHold_keeps (s : State) : Keeps s s.moveHold := by
  have hmove : Keeps s { s with schedule := s.schedule.moveHold } := by
    have hpoints : s.schedule.moveHold.points = s.schedule.points := by
      unfold Schedule.moveHold
      split
      · rfl
      · rfl
      · split
        · rfl
        · split <;> rfl
    have hgroups : s.schedule.moveHold.groups = s.schedule.groups := by
      unfold Schedule.moveHold
      split
      · rfl
      · rfl
      · split
        · rfl
        · split <;> rfl
    exact { points := fun h => hpoints ▸ h, groups := hgroups }
  unfold State.moveHold
  dsimp only
  split
  · exact .after (State.queueReport_keeps _ _) (.after (State.markHoldEnded_keeps _) hmove)
  · exact hmove

theorem State.overrun_keeps (s : State) : Keeps s s.overrun := by
  unfold State.overrun
  split
  · exact .refl s
  · exact .after (State.queueReport_keeps _ _)
      { buffer := rfl, emitted := id, counters := .of_set 2 _ rfl }

theorem State.closeFrame_keeps (s : State) : Keeps s s.closeFrame where
  points := by simp [State.closeFrame]
  groups := rfl
  chains := .mapIdx _ fun c ch => by
    refine .trans (.of_tally (ch.oweLatch_tally _)) (Chain.foldl_keeps _ (fun ch k => ?_) _ _)
    split
    · exact ch.lateFor_keeps k
    · exact .refl ch

theorem State.clearFrame_keeps (s : State) : Keeps s s.clearFrame where
  buffer := rfl
  emitted := by simp [State.clearFrame]
  chains := .map _ fun _ => .of_tally rfl

theorem State.endPeriod_keeps (s : State) (c : Nat) : Keeps s (s.endPeriod c) := by
  unfold State.endPeriod
  dsimp only
  split
  · exact s.updChain_keeps_of_tally c fun _ => rfl
  · split
    · exact s.recover_keeps c _
    · exact s.updChain_keeps_of_tally c fun _ => rfl

theorem State.endPeriods_keeps (s : State) : Keeps s s.endPeriods := Keeps.foldl State.endPeriod_keeps _ s

theorem State.enterService_keeps (s : State) : Keeps s s.enterService := by
  unfold State.enterService
  split
  · exact {}
  · exact .refl s

theorem State.takeDirect_keeps (s : State) (cmd : SysCommand) (c a : Nat) (k : DirectKind) :
    Keeps s (s.takeDirect cmd c a k) := by
  unfold State.takeDirect
  split
  · exact s.answer_keeps cmd _
  · exact .after (State.serve_keeps _ c) (.after (State.updChain_keeps_of_tally _ c fun _ => rfl)
      (s.respondPending_keeps cmd c))

end Sys2Proof.Machine

namespace Sys2Proof.Machine

/-! # Every command keeps the stores sound

`Safe s u` is what the invariants of this family claim of a step from `s` to `u`, each from its own premise. An operation
that keeps the stores is safe; the commands that write one of them are looked at one by one. -/

/-! ## The invariants by what they look at -/

theorem State.zone_wiring (s : State) (i : Nat) :
    (s.zone i).wiring = (s.zones.map Zone.wiring).getD i Zone.fresh.wiring := by
  by_cases h : i < s.zones.length <;> simp [State.zone, h]

theorem WindowsSound.of_same {s u : State} (h : WindowsSound s) (hg : u.grid = s.grid) (hw : u.windows = s.windows) :
    WindowsSound u where
  few := hw ▸ h.few
  keys := hw ▸ h.keys
  fields := hw ▸ h.fields
  inside := by rw [hw, hg]; exact h.inside

theorem MapSound.of_same {s u : State} (h : MapSound s) (hg : u.grid = s.grid)
    (hz : u.zones.map Zone.wiring = s.zones.map Zone.wiring) : MapSound u := by
  have hlen : u.zones.length = s.zones.length := by simpa using congrArg List.length hz
  have hchannel : ∀ i, (u.zone i).channel = (s.zone i).channel := fun i => by
    have : (u.zone i).wiring = (s.zone i).wiring := by rw [u.zone_wiring, s.zone_wiring, hz]
    exact congrArg Prod.fst this
  have hrecord : ∀ z ∈ u.zones, ∃ y ∈ s.zones, y.channel = z.channel ∧ y.gain = z.gain := fun z hm => by
    have : z.wiring ∈ s.zones.map Zone.wiring := hz ▸ List.mem_map_of_mem hm
    simpa [Zone.wiring] using this
  refine ⟨by rw [hlen, hg, h.size], fun i j x hi hj => ?_, fun z hm x hx => ?_, fun z hm => ?_⟩
  · exact h.unique i j x (hchannel i ▸ hi) (hchannel j ▸ hj)
  · obtain ⟨y, hy, hc, -⟩ := hrecord z hm
    exact h.channels y hy x (hc.trans hx)
  · obtain ⟨y, hy, -, hgain⟩ := hrecord z hm
    exact hgain ▸ h.gains y hy

theorem DerateSound.of_same {s u : State} (h : DerateSound s) (hp : u.thermal.params = s.thermal.params)
    (hc : ChainsKeep s.chains u.chains) : DerateSound u := by
  refine ⟨hp ▸ h.params, fun y hy => ?_⟩
  obtain ⟨x, hx, hk⟩ := hc y hy
  exact hk.applied ▸ h.applied x hx

theorem CountersSound.of_keep {s u : State} (h : CountersSound s) (hc : ChainsKeep s.chains u.chains)
    (hk : CountersKeep s.counters u.counters) : CountersSound u := by
  refine ⟨hk h.part, fun y hy => ?_⟩
  obtain ⟨x, hx, hxy⟩ := hc y hy
  obtain ⟨hd, hl, hr⟩ := h.chains x hx
  exact ⟨hxy.damaged hd, hxy.late hl, hxy.recoveries hr⟩

/-- What a step from `s` to `u` keeps of the family's invariants. -/
structure Safe (s u : State) : Prop where
  windows : WindowsSound s → WindowsSound u
  map : MapSound s → MapSound u
  derate : DerateSound s → DerateSound u
  counters : CountersSound s → CountersSound u
  sizes : SizesSound s → SizesSound u

theorem Keeps.sizes {s u : State} (k : Keeps s u) (h : SizesSound s) : SizesSound u where
  zones := by
    have : u.zones.length = s.zones.length := by simpa using congrArg List.length k.wiring
    rw [this, k.grid, h.zones]
  openSet := by rw [k.request, k.grid, h.openSet]
  slot := by rw [k.request, k.grid]; exact h.slot
  current := by rw [k.request, k.grid, h.current]
  buffer := by rw [k.buffer, k.grid, h.buffer]
  emitted := k.emitted h.emitted
  points := k.points h.points
  groups := k.groups ▸ h.groups

theorem Keeps.safe {s u : State} (k : Keeps s u) : Safe s u where
  windows h := h.of_same k.grid k.windows
  map h := h.of_same k.grid k.wiring
  derate h := h.of_same k.params k.chains
  counters h := h.of_keep k.chains k.counters
  sizes := k.sizes

theorem Safe.trans {s t u : State} (h : Safe s t) (k : Safe t u) : Safe s u :=
  ⟨k.windows ∘ h.windows, k.map ∘ h.map, k.derate ∘ h.derate, k.counters ∘ h.counters, k.sizes ∘ h.sizes⟩

/-- `Safe.trans` with the later move first. -/
theorem Safe.after {s t u : State} (k : Safe t u) (h : Safe s t) : Safe s u := h.trans k

/-! ## Moves of one store -/

/-- A move of the window list alone. -/
theorem Safe.of_windows {s : State} {ws : List Window}
    (h : WindowsSound s → WindowsSound { s with windows := ws }) : Safe s { s with windows := ws } where
  windows := h
  map h := h.of_same rfl rfl
  derate h := h.of_same rfl (.of_eq rfl)
  counters h := h.of_keep (.of_eq rfl) (.of_eq rfl)
  sizes h := ⟨h.zones, h.openSet, h.slot, h.current, h.buffer, h.emitted, h.points, h.groups⟩

/-- A move of channels or gains alone, in a table of the same size. -/
theorem Safe.of_zones {s : State} {zs : List Zone} (hlen : zs.length = s.zones.length)
    (h : MapSound s → MapSound { s with zones := zs }) : Safe s { s with zones := zs } where
  windows h := h.of_same rfl rfl
  map := h
  derate h := h.of_same rfl (.of_eq rfl)
  counters h := h.of_keep (.of_eq rfl) (.of_eq rfl)
  sizes h := ⟨hlen.trans h.zones, h.openSet, h.slot, h.current, h.buffer, h.emitted, h.points, h.groups⟩

/-- A move of the request store, its sets keeping N levels. -/
theorem Safe.of_request {s : State} {r : RequestStore} (h : SizesSound s → SizesSound { s with request := r }) :
    Safe s { s with request := r } where
  windows h := h.of_same rfl rfl
  map h := h.of_same rfl rfl
  derate h := h.of_same rfl (.of_eq rfl)
  counters h := h.of_keep (.of_eq rfl) (.of_eq rfl)
  sizes := h

/-! ## The window list (R17 to R20) -/

/-- A list whose records come from those of a sound one, in order and each with its key, kind of rectangle and bounds. -/
theorem WindowsSound.of_filterMap {s : State} (h : WindowsSound s) {f : Window → Option Window}
    (hf : ∀ w x, f w = some x → x.key = w.key ∧ x.rect = w.rect ∧ x.level = w.level ∧ x.lifetime ≤ w.lifetime) :
    WindowsSound { s with windows := s.windows.filterMap f } where
  few := (List.length_filterMap_le _ _).trans h.few
  keys := by
    have hsub : List.Sublist ((s.windows.filterMap f).map Window.key) (s.windows.map Window.key) := by
      induction s.windows with
      | nil => exact List.Sublist.refl _
      | cons w ws ih =>
        cases hw : f w with
        | none => rw [List.filterMap_cons_none hw]; exact ih.cons _
        | some x =>
          rw [List.filterMap_cons_some hw, List.map_cons, List.map_cons, (hf w x hw).1]
          exact ih.cons_cons _
    exact h.keys.sublist hsub
  fields := by
    intro x hx
    obtain ⟨w, hw, hwx⟩ := List.mem_filterMap.1 hx
    obtain ⟨hkey, -, hlevel, hlife⟩ := hf w x hwx
    obtain ⟨h1, h2, h3⟩ := h.fields w hw
    have hnumber : x.number = w.number := congrArg Prod.snd hkey
    exact ⟨hnumber ▸ h1, hlevel ▸ h2, hlife.trans h3⟩
  inside := by
    intro x hx
    obtain ⟨w, hw, hwx⟩ := List.mem_filterMap.1 hx
    exact (hf w x hwx).2.1 ▸ h.inside w hw

theorem State.removeWindow_safe (s : State) (owner : WindowOwner) (n : Nat) :
    Safe s { s with windows := removeWindow owner n s.windows } := by
  refine .of_windows fun h => ?_
  rw [removeWindow, ← List.filterMap_eq_filter]
  refine h.of_filterMap fun w x hx => ?_
  obtain ⟨-, rfl⟩ : _ ∧ w = x := by simpa [Option.guard] using hx
  exact ⟨rfl, rfl, rfl, le_rfl⟩

theorem State.clearWindows_safe (s : State) : Safe s { s with windows := [] } :=
  .of_windows fun _ => ⟨by simp, by simp, by simp, by simp⟩

theorem State.countdownWindows_safe (s : State) : Safe s { s with windows := countdownWindows s.windows } := by
  refine .of_windows fun h => h.of_filterMap fun w x hx => ?_
  unfold countWindow at hx
  split at hx
  · split at hx
    · simp at hx
    · obtain rfl := Option.some.inj hx
      exact ⟨rfl, rfl, rfl, Nat.sub_le _ _⟩
  · obtain rfl := Option.some.inj hx
    exact ⟨rfl, rfl, rfl, le_rfl⟩

theorem State.markSampled_safe (s : State) : Safe s { s with windows := markSampled s.windows } := by
  refine .of_windows fun h => ?_
  rw [markSampled, ← List.filterMap_eq_map]
  refine h.of_filterMap fun w x hx => ?_
  obtain rfl := Option.some.inj hx
  exact ⟨rfl, rfl, rfl, le_rfl⟩

/-- A list that R18 answers is sound: the record written is within its bounds, and its key stands once. -/
theorem State.placeWindow_safe (s : State) {owner : WindowOwner} {w : WindowFields} {ws : List Window}
    (hok : placeWindow s.grid owner w s.windows = .ok ws) : Safe s { s with windows := ws } := by
  refine .of_windows fun h => ?_
  have hcases := placeWindow_cases s.grid owner w s.windows
  simp only [hok, ← Bool.not_eq_true, windowKey_iff, reduceCtorEq, and_false, false_or, or_false, Except.ok.injEq] at hcases
  obtain ⟨h0, h1, h2, h3, -, -, hlist⟩ := hcases
  have hcols : 0 < s.grid.cols := Nat.pos_of_ne_zero fun hc => h0 (by simp [Grid.count, hc])
  have hrows : 0 < s.grid.rows := Nat.pos_of_ne_zero fun hr => h0 (by simp [Grid.count, hr])
  have hinside : (clampRect s.grid w.rect).col1 < s.grid.cols ∧ (clampRect s.grid w.rect).row1 < s.grid.rows := by
    simp only [clampRect]
    omega
  rcases hlist with ⟨-, rfl⟩ | ⟨hnew, hlt, rfl⟩
  · refine ⟨by simpa using h.few, ?_, fun x hx => ?_, fun x hx => ?_⟩
    · have hkeys : ∀ x : Window, (if x.key = (owner, w.number) then
          (⟨owner, w.number, w.kind, clampRect s.grid w.rect, w.level, w.lifetime, false⟩ : Window) else x).key = x.key := by
        intro x
        split
        next hx => rw [hx]; rfl
        next => rfl
      simpa [Function.comp_def, hkeys] using h.keys
    · obtain ⟨y, hy, rfl⟩ := List.mem_map.1 hx
      split
      · exact ⟨h1, h2, h3⟩
      · exact h.fields y hy
    · obtain ⟨y, hy, rfl⟩ := List.mem_map.1 hx
      split
      · exact hinside
      · exact h.inside y hy
  · refine ⟨by simpa using hlt, ?_, fun x hx => ?_, fun x hx => ?_⟩
    · rw [List.map_append, List.nodup_append]
      refine ⟨h.keys, by simp, fun a ha b hb => ?_⟩
      obtain ⟨x, hx, rfl⟩ := List.mem_map.1 ha
      obtain rfl : b = (owner, w.number) := by simpa [Window.key] using hb
      exact hnew x hx
    · rcases List.mem_append.1 hx with hx | hx
      · exact h.fields x hx
      · obtain rfl := List.mem_singleton.1 hx
        exact ⟨h1, h2, h3⟩
    · rcases List.mem_append.1 hx with hx | hx
      · exact h.inside x hx
      · obtain rfl := List.mem_singleton.1 hx
        exact hinside

/-! ## The channel map (R5 to R7) -/

/-- One record changed in a sound table: the new one in its ranges, and its channel, if any, held by no other zone. -/
theorem MapSound.updZone {s : State} (h : MapSound s) {i : Nat} {f : Zone → Zone}
    (hgain : (f (s.zone i)).gain = (s.zone i).gain)
    (hrange : ∀ x, (f (s.zone i)).channel = some x → x.chain ≤ 7 ∧ x.position ≤ 47 ∧ x.channel ≤ 15)
    (hfree : ∀ j x, j ≠ i → (f (s.zone i)).channel = some x → (s.zone j).channel ≠ some x) :
    MapSound (s.updZone i f) := by
  have hother : ∀ j, j ≠ i → (s.updZone i f).zone j = s.zone j := fun j hj => getD_modify_ne _ _ _ _ _ hj.symm
  by_cases hi : i < s.zones.length
  · have hself : (s.updZone i f).zone i = f (s.zone i) := getD_modify_self _ _ _ _ hi
    have hmem : ∀ z ∈ (s.updZone i f).zones, z ∈ s.zones ∨ z = f (s.zone i) := by
      rw [s.updZone_eq]
      exact fun z hz => List.mem_or_eq_of_mem_set hz
    refine ⟨by simpa using h.size, fun j k x hj hk => ?_, fun z hz x hx => ?_, fun z hz => ?_⟩
    · by_cases hji : j = i
      · by_cases hki : k = i
        · rw [hji, hki]
        · rw [hji, hself] at hj
          rw [hother k hki] at hk
          exact absurd hk (hfree k x hki hj)
      · rw [hother j hji] at hj
        by_cases hki : k = i
        · rw [hki, hself] at hk
          exact absurd hj (hfree j x hji hk)
        · rw [hother k hki] at hk
          exact h.unique j k x hj hk
    · rcases hmem z hz with hz | rfl
      · exact h.channels z hz x hx
      · exact hrange x hx
    · rcases hmem z hz with hz | rfl
      · exact h.gains z hz
      · exact hgain ▸ h.gains _ (getD_mem _ _ _ hi)
  · have hsame : (s.updZone i f).zones = s.zones := by
      simp [List.modify_eq_self (Nat.le_of_not_lt hi)]
    exact h.of_same rfl (congrArg _ hsame)

theorem storeGains_all {p : Zone → Prop} (gains : List Nat) (hp : ∀ z g, p z → p { z with gain := clampGain g }) :
    ∀ (zs : List Zone) (start : Nat), (∀ z ∈ zs, p z) → ∀ z ∈ storeGains zs start gains, p z := by
  induction gains with
  | nil => exact fun _ _ h => h
  | cons g gains ih =>
    exact fun zs start h => ih _ _ (modify_all zs start _ h fun z hz => hp z g (h z hz))

theorem MapSound.storeGains {s : State} (h : MapSound s) (start : Nat) (gains : List Nat) :
    MapSound { s with zones := storeGains s.zones start gains } := by
  have hchannel : ∀ i, (({ s with zones := Machine.storeGains s.zones start gains } : State).zone i).channel
      = (s.zone i).channel := by
    intro i
    by_cases hi : i < s.zones.length
    · rw [State.zone, storeGains_getD _ _ _ _ hi]
      split <;> rfl
    · rw [State.zone, State.zone, List.getD_eq_default _ _ (by simpa using hi), List.getD_eq_default _ _ (by simpa using hi)]
  refine ⟨(storeGains_length _ _ _).trans h.size, fun i j x hi hj => ?_, ?_, ?_⟩
  · exact h.unique i j x (hchannel i ▸ hi) (hchannel j ▸ hj)
  · exact storeGains_all gains (p := fun z => ∀ x, z.channel = some x → x.chain ≤ 7 ∧ x.position ≤ 47 ∧ x.channel ≤ 15)
      (fun _ _ hz => hz) s.zones start h.channels
  · exact storeGains_all gains (p := fun z => 512 ≤ z.gain ∧ z.gain ≤ 1535) (fun _ g _ => clampGain_range g)
      s.zones start h.gains

theorem State.mapTo_safe (s : State) (z : Nat) {x : Channel} (hx : x.chain ≤ 7 ∧ x.position ≤ 47 ∧ x.channel ≤ 15)
    (hfree : ¬ heldElsewhere s.zones z x = true) : Safe s (s.updZone z fun y => y.mapTo x) := by
  refine .of_zones (by simp) fun h => ?_
  rw [s.heldElsewhere_iff] at hfree
  refine h.updZone ?_ (fun y hy => ?_) fun j y hj hy hheld => ?_
  · rw [Zone.mapTo_eq]
  · rw [Zone.mapTo_eq] at hy
    exact Option.some.inj hy ▸ hx
  · rw [Zone.mapTo_eq] at hy
    exact hfree ⟨j, hj, Option.some.inj hy ▸ hheld⟩

theorem State.unmap_safe (s : State) (z : Nat) : Safe s (s.updZone z Zone.unmap) := by
  refine .of_zones (by simp) fun h => h.updZone ?_ (fun x hx => ?_) fun j x _ hx => ?_
  · rw [Zone.unmap_eq]
  · simp [Zone.unmap_eq] at hx
  · simp [Zone.unmap_eq] at hx

theorem State.storeGains_safe (s : State) (start : Nat) (gains : List Nat) :
    Safe s { s with zones := storeGains s.zones start gains } :=
  .of_zones (storeGains_length _ _ _) fun h => h.storeGains start gains

/-! ## A table made afresh (R2, R187) -/

theorem mapSound_fresh {s : State} (hz : s.zones = List.replicate s.grid.count Zone.fresh) : MapSound s := by
  have hall : ∀ z ∈ s.zones, z = Zone.fresh := fun z hm => List.eq_of_mem_replicate (hz ▸ hm)
  have hnone : ∀ i, (s.zone i).channel = none := fun i => by rw [State.zone, hz, getD_replicate_same]; rfl
  refine ⟨by rw [hz, List.length_replicate], fun i j x hi _ => ?_, fun z hm x hx => ?_, fun z hm => ?_⟩
  · simp [hnone i] at hi
  · simp [hall z hm, Zone.fresh] at hx
  · simp [hall z hm, Zone.fresh]

theorem windowsSound_empty {s : State} (hw : s.windows = []) : WindowsSound s := by
  constructor <;> simp [hw]

theorem State.changeGrid_safe (s : State) (g : Grid) : Safe s (s.changeGrid g) where
  windows _ := windowsSound_empty rfl
  map _ := mapSound_fresh rfl
  derate h := h.of_same rfl (.of_eq rfl)
  counters h := h.of_keep (.of_eq rfl) (.of_eq rfl)
  sizes h := by constructor <;> simp [State.changeGrid, RequestStore.fresh, h.emitted, h.points, h.groups]

theorem Counters.zero_le : ∀ n ∈ Counters.zero.values, n ≤ 65535 := by decide

theorem State.powered_safe (s : State) (t : Nat) (queue : List Instr) : Safe s (State.powered t queue) where
  windows _ := windowsSound_empty rfl
  map _ := mapSound_fresh rfl
  derate _ := ⟨(by decide : thermalInRange ⟨100, -160, 70, 95, 128⟩ = true),
    fun ch hch => by rw [List.eq_of_mem_replicate hch]; decide⟩
  counters _ := ⟨Counters.zero_le, fun ch hch => by rw [List.eq_of_mem_replicate hch]; decide⟩
  sizes _ := by constructor <;> simp [State.powered, RequestStore.fresh, Grid.count]

theorem State.restart_safe (s : State) : Safe s s.restart where
  windows _ := windowsSound_empty rfl
  map h := h.of_same rfl (by simp [State.restart, Function.comp_def, Zone.wiring, Zone.restart])
  derate h := by
    refine ⟨h.params, fun y hy => ?_⟩
    obtain ⟨x, -, rfl⟩ := List.mem_map.1 hy
    exact ⟨(by decide : 64 ≤ 256), le_refl 256⟩
  counters _ := by
    refine ⟨Counters.zero_le, fun y hy => ?_⟩
    obtain ⟨x, -, rfl⟩ := List.mem_map.1 hy
    exact ⟨Nat.zero_le _, Nat.zero_le _, Nat.zero_le _⟩
  sizes h := by
    constructor <;>
      simp [State.restart, RequestStore.fresh, PassEngine.restart, Schedule.restart, h.zones, h.groups]

/-! ## The request store (R13 to R16, R165 to R170) -/

theorem State.writeOpen_safe (s : State) {levels : List Nat} (hlen : levels.length = s.request.openSet.length) :
    Safe s { s with request := { s.request with openSet := levels } } :=
  .of_request fun h => ⟨h.zones, hlen.trans h.openSet, h.slot, h.current, h.buffer, h.emitted, h.points, h.groups⟩

theorem State.takeRun_safe (s : State) (fine : Bool) (start : Nat) (writes : List (Nat → Nat)) :
    Safe s (s.takeRun fine start writes) := by
  have hwrite := s.writeOpen_safe (writeRun_length s.request.openSet start writes)
  unfold State.takeRun
  split
  · exact .after (Keeps.safe (.after (State.pictureResult_keeps _ _) {})) hwrite
  · exact .after (Keeps.safe (.after (State.pictureResult_keeps _ _) {})) hwrite
  · exact (s.pictureResult_keeps _).safe

theorem State.closeSet_safe (s : State) (tag : Nat) (cut : Bool) : Safe s (s.closeSet tag cut) := by
  have hslot : Safe s { s with request := { s.request with slot := some ⟨s.request.openSet, tag, cut⟩ } } :=
    .of_request fun h => ⟨h.zones, h.openSet, fun x hx => Option.some.inj hx ▸ h.openSet, h.current, h.buffer,
      h.emitted, h.points, h.groups⟩
  refine hslot.trans (Keeps.safe { request := rfl, counters := ?_ })
  unfold State.closeSet
  dsimp only
  split
  · exact .of_set 1 _ rfl
  · exact .of_eq rfl

theorem State.takeSlot_safe (s : State) : Safe s s.takeSlot := by
  unfold State.takeSlot
  split
  next x hx => exact .of_request fun h => ⟨h.zones, h.openSet, by simp, h.slot x hx, h.buffer, h.emitted, h.points, h.groups⟩
  next => exact Keeps.safe { counters := .of_set 0 _ rfl }

/-! ## Derate factors (R154, R156 to R158) -/

theorem Thermal.curveTarget_range {th : Thermal} (hp : thermalInRange th.params = true) (sensor : Option Nat) :
    64 ≤ th.curveTarget sensor ∧ th.curveTarget sensor ≤ 256 := by
  obtain ⟨-, -, -, -, ⟨hlo, hhi⟩, hlt⟩ := (thermalInRange_iff _).1 hp
  unfold Thermal.curveTarget
  split
  · decide
  · split
    · exact ⟨hlo, hhi⟩
    · exact (derateCurve_range th.params _ hhi hlt).imp_left hlo.trans

theorem targetFactor_range {th : Thermal} (hp : thermalInRange th.params = true) (ch : Chain) :
    64 ≤ targetFactor th ch ∧ targetFactor th ch ≤ 256 := by
  have := Thermal.curveTarget_range hp ch.sensor
  unfold targetFactor
  split <;> omega

theorem State.slewAll_safe (s : State) : Safe s s.slewAll := by
  unfold State.slewAll
  split
  · refine ⟨fun h => h.of_same rfl rfl, fun h => h.of_same rfl rfl, fun h => ⟨h.params, fun y hy => ?_⟩,
      fun h => ⟨h.part, fun y hy => ?_⟩, fun h => ⟨h.zones, h.openSet, h.slot, h.current, h.buffer, h.emitted, h.points,
        h.groups⟩⟩
    · obtain ⟨x, hx, rfl⟩ := List.mem_map.1 hy
      exact slew_range _ _ 64 256 (h.applied x hx) (targetFactor_range h.params x)
    · obtain ⟨x, hx, rfl⟩ := List.mem_map.1 hy
      exact h.chains x hx
  · exact (Keeps.refl s).safe

/-! ## Frame starts (R52) -/

theorem State.beginPass_safe (s : State) : Safe s s.beginPass := by
  refine .after (State.commitGroups_keeps _ _).safe (.after (Keeps.safe ?_)
    (.after (State.markSampled_safe _) s.takeSlot_safe))
  exact
    { wiring := by simp [Function.comp_def, Zone.wiring]
      points := by simp [State.layPoints] }

theorem State.maybePass_safe (s : State) : Safe s s.maybePass := by
  unfold State.maybePass
  split
  · exact s.beginPass_safe
  · exact (Keeps.refl s).safe

theorem State.deliverFrame_safe (s : State) : Safe s s.deliverFrame := by
  have hclose : Keeps s.slewAll s.slewAll.closeFrame.overrun.clearFrame.endPeriods.moveHold.enterService :=
    .after (State.enterService_keeps _) (.after (State.moveHold_keeps _) (.after (State.endPeriods_keeps _)
      (.after (State.clearFrame_keeps _) (.after (State.overrun_keeps _) (State.closeFrame_keeps _)))))
  exact .after (State.serveAll_keeps _).safe (.after (State.maybePass_safe _) (.after hclose.safe s.slewAll_safe))

theorem State.frameStart_safe (s : State) : Safe s s.frameStart :=
  .after (State.deliverFrame_safe _) s.beginFrame_keeps.safe

theorem State.edgeFrame_safe (s : State) : Safe s s.edgeFrame := by
  unfold State.edgeFrame
  split
  · exact s.frameStart_safe
  · exact (Keeps.refl s).safe

theorem State.acquireEdge_safe (s : State) : Safe s s.acquireEdge := by
  unfold State.acquireEdge
  split
  · exact (s.setTimebase_keeps _).safe
  · split
    · exact (s.setTimebase_keeps _).safe
    · exact .after (State.edgeFrame_safe _) (s.setTimebase_keeps _).safe

theorem State.lockedEdge_safe (s : State) : Safe s s.lockedEdge := by
  unfold State.lockedEdge
  split <;> exact .after (State.edgeFrame_safe _) (s.setTimebase_keeps _).safe

theorem State.holdoverEdge_safe (s : State) : Safe s s.holdoverEdge := by
  unfold State.holdoverEdge
  dsimp only
  split
  · exact .after (State.deliverFrame_safe _) (Keeps.safe (.after (State.timebaseReport_keeps _ _ _)
      (.after (State.beginFrame_keeps _) (s.setTimebase_keeps _))))
  · exact Keeps.safe (.after (State.timebaseReport_keeps _ _ _) (s.setTimebase_keeps _))

/-! ## Outcomes -/

/-- Every state that the outcome answers has the property. -/
def Yields (o : Host.Outcome State Fault Refusal) (p : State → Prop) : Prop := ∀ u, o = .next u → p u

theorem Yields.next {p : State → Prop} {u : State} (h : p u) : Yields (.next u) p := by
  rintro v ⟨⟩
  exact h

theorem Yields.safe {s u : State} (h : Safe s u) : Yields (.next u) (Safe s) := .next h

theorem Yields.kept {s u : State} (h : Keeps s u) : Yields (.next u) (Safe s) := .next h.safe

theorem Yields.safeAnswer {s u : State} {cmd : SysCommand} {r : SysResult} (h : Safe s u) :
    Yields (.next (u.answer cmd r)) (Safe s) := .next (h.trans (u.answer_keeps cmd r).safe)

theorem Yields.keptAnswer {s u : State} {cmd : SysCommand} {r : SysResult} (h : Keeps s u) :
    Yields (.next (u.answer cmd r)) (Safe s) := .safeAnswer h.safe

/-- A command that is refused, or has only its answer, at the moment it is taken. -/
theorem State.refused_safe (s : State) (t : Nat) (cmd : SysCommand) (r : SysResult) :
    Yields (.next ((s.arrive t).answer cmd r)) (Safe s) := .keptAnswer (s.arrive_keeps t)

/-! ## System configuration (chapters 1, 3, 8, 11) -/

theorem execSetGrid_safe (t cols rows : Nat) (s : State) : Yields (execSetGrid t cols rows s) (Safe s) := by
  unfold execSetGrid
  dsimp only
  split
  · exact s.refused_safe t _ _
  · split
    · exact s.refused_safe t _ _
    · split
      · exact s.refused_safe t _ _
      · exact .safeAnswer (.after (State.changeGrid_safe _ _) (s.arrive_keeps t).safe)

theorem execSetChain_safe (t c d w : Nat) (sensor : Option Nat) (s : State) :
    Yields (execSetChain t c d w sensor s) (Safe s) := by
  unfold execSetChain
  dsimp only
  split
  · exact s.refused_safe t _ _
  · split
    · exact s.refused_safe t _ _
    · exact .keptAnswer (.after (State.updChain_keeps_of_tally _ c fun _ => rfl) (s.arrive_keeps t))

theorem execMapZone_safe (t z c p k : Nat) (s : State) : Yields (execMapZone t z c p k s) (Safe s) := by
  unfold execMapZone
  dsimp only
  split
  · exact s.refused_safe t _ _
  · split
    · exact s.refused_safe t _ _
    next hrange =>
      split
      · exact s.refused_safe t _ _
      next hfree =>
        exact .safeAnswer (.after (State.mapTo_safe _ z (by simp only; omega) hfree) (s.arrive_keeps t).safe)

theorem execUnmapZone_safe (t z : Nat) (s : State) : Yields (execUnmapZone t z s) (Safe s) := by
  unfold execUnmapZone
  dsimp only
  split
  · exact s.refused_safe t _ _
  · split
    · exact s.refused_safe t _ _
    · exact .safeAnswer (.after (State.unmap_safe _ z) (s.arrive_keeps t).safe)

theorem State.setGroups_safe (s : State) {g lead : Nat} (offsets : List Nat) (hg : 1 ≤ g ∧ g ≤ 8) :
    Safe s { s with schedule := { s.schedule with groups := g, offsets := offsets, lead := lead } } where
  windows h := h.of_same rfl rfl
  map h := h.of_same rfl rfl
  derate h := h.of_same rfl (.of_eq rfl)
  counters h := h.of_keep (.of_eq rfl) (.of_eq rfl)
  sizes h := ⟨h.zones, h.openSet, h.slot, h.current, h.buffer, h.emitted, h.points, hg⟩

theorem execSetGroups_safe (t g : Nat) (offsets : List Nat) (lead : Nat) (s : State) :
    Yields (execSetGroups t g offsets lead s) (Safe s) := by
  unfold execSetGroups
  dsimp only
  split
  · exact s.refused_safe t _ _
  next hrange =>
    have hg : 1 ≤ g ∧ g ≤ 8 := by
      simp only [groupsInRange, Bool.not_eq_true', Bool.not_eq_false, Bool.and_eq_true, decide_eq_true_eq] at hrange
      exact hrange.1.1.1
    split
    · exact s.refused_safe t _ _
    · exact .safeAnswer (.after (State.setGroups_safe _ offsets hg) (s.arrive_keeps t).safe)

theorem execSetProfile_safe (t : Nat) (profile : Profile) (s : State) :
    Yields (execSetProfile t profile s) (Safe s) := by
  unfold execSetProfile
  dsimp only
  split
  · exact s.refused_safe t _ _
  · exact .keptAnswer {}

theorem execSetPower_safe (t : Nat) (budget : BitVec 16) (s : State) : Yields (execSetPower t budget s) (Safe s) :=
  .keptAnswer {}

theorem execSetEasing_safe (t : Nat) (rise fall : BitVec 16) (s : State) :
    Yields (execSetEasing t rise fall s) (Safe s) := by
  unfold execSetEasing
  dsimp only
  split
  · exact s.refused_safe t _ _
  · exact .keptAnswer {}

theorem execSetService_safe (t pollUs holdMs : Nat) (s : State) : Yields (execSetService t pollUs holdMs s) (Safe s) := by
  unfold execSetService
  dsimp only
  split
  · exact .keptAnswer { chains := .map _ fun ch => .of_tally (ch.restartTick_tally _) }
  · exact s.refused_safe t _ _

theorem State.setThermal_safe (s : State) {p : ThermalParams} (hp : thermalInRange p = true) :
    Safe s { s with thermal := { s.thermal with params := p } } where
  windows h := h.of_same rfl rfl
  map h := h.of_same rfl rfl
  derate h := ⟨hp, h.applied⟩
  counters h := h.of_keep (.of_eq rfl) (.of_eq rfl)
  sizes h := ⟨h.zones, h.openSet, h.slot, h.current, h.buffer, h.emitted, h.points, h.groups⟩

theorem execSetThermal_safe (t : Nat) (p : ThermalParams) (s : State) : Yields (execSetThermal t p s) (Safe s) := by
  unfold execSetThermal
  dsimp only
  split
  next hp => exact .safeAnswer (.after (State.setThermal_safe _ hp) (s.arrive_keeps t).safe)
  next => exact s.refused_safe t _ _

theorem execSetTimebase_safe (t period : Nat) (s : State) : Yields (execSetTimebase t period s) (Safe s) := by
  unfold execSetTimebase
  dsimp only
  split
  · exact s.refused_safe t _ _
  · exact .keptAnswer {}

/-! ## Zone service (chapters 1 and 7) -/

theorem execLoadGains_safe (t start : Nat) (gains : List Nat) (s : State) :
    Yields (execLoadGains t start gains s) (Safe s) := by
  unfold execLoadGains
  dsimp only
  split
  · exact s.refused_safe t _ _
  · exact .safeAnswer (.after (State.storeGains_safe _ start gains) (s.arrive_keeps t).safe)

theorem execSetOverride_safe (t z l : Nat) (s : State) : Yields (execSetOverride t z l s) (Safe s) := by
  unfold execSetOverride
  dsimp only
  split
  · exact s.refused_safe t _ _
  · exact .keptAnswer (.after (State.updZone_keeps _ z fun _ => rfl) (s.arrive_keeps t))

theorem execClearOverride_safe (t z : Nat) (s : State) : Yields (execClearOverride t z s) (Safe s) := by
  unfold execClearOverride
  dsimp only
  split
  · exact s.refused_safe t _ _
  · exact .keptAnswer (.after (State.updZone_keeps _ z fun _ => rfl) (s.arrive_keeps t))

theorem execClearFault_safe (t z : Nat) (s : State) : Yields (execClearFault t z s) (Safe s) := by
  have hzone : Keeps s ((s.arrive t).updZone z Zone.clearFault) :=
    .after (State.updZone_keeps _ z fun _ => rfl) (s.arrive_keeps t)
  unfold execClearFault
  dsimp only
  split
  · exact s.refused_safe t _ _
  · refine .keptAnswer (?_)
    split
    · exact hzone
    · exact .after (State.updChain_keeps_of_tally _ _ fun _ => rfl) hzone

theorem execProbe_safe (t z : Nat) (mode : ProbeMode) (s : State) : Yields (execProbe t z mode s) (Safe s) := by
  unfold execProbe
  dsimp only
  split
  · exact s.refused_safe t _ _
  · exact .keptAnswer {}

theorem execReadZone_safe (t z : Nat) (s : State) : Yields (execReadZone t z s) (Safe s) := by
  unfold execReadZone
  dsimp only
  split
  · exact s.refused_safe t _ _
  · exact .kept {}

theorem execReadCounters_safe (t : Nat) (s : State) : Yields (execReadCounters t s) (Safe s) :=
  .kept (.after (State.respond_keeps _ _ _ _)
    { chains := .map _ Chain.clearCounters_keeps, counters := fun _ => Counters.zero_le })

/-! ## Starting points and chains (chapters 6 and 11) -/

theorem execStart_safe (t : Nat) (s : State) : Yields (execStart t s) (Safe s) := by
  unfold execStart
  dsimp only
  split
  · exact s.refused_safe t _ _
  · split
    · exact s.refused_safe t _ _
    · exact .keptAnswer { params := rfl, chains := .map _ fun ch => .of_tally (ch.startUp_tally _) }

theorem PassEngine.stop_buffer (p : PassEngine) : p.stop.buffer = p.buffer := by
  unfold PassEngine.stop
  dsimp only
  split <;> rfl

theorem execStop_safe (t : Nat) (s : State) : Yields (execStop t s) (Safe s) :=
  .safeAnswer (Keeps.safe
    { buffer := congrArg _ (PassEngine.stop_buffer _)
      emitted := fun _ => List.length_replicate
      points := fun _ => List.length_replicate
      chains := .map _ fun ch => .of_tally (ch.halt_tally _) })

theorem execRestartChain_safe (t c : Nat) (s : State) : Yields (execRestartChain t c s) (Safe s) := by
  unfold execRestartChain
  dsimp only
  split
  · exact s.refused_safe t _ _
  · split
    · exact s.refused_safe t _ _
    · split
      · exact s.refused_safe t _ _
      · exact .keptAnswer (.after (State.updChain_keeps_of_tally _ c fun _ => rfl)
          (.after (State.dropDirect_keeps _ c) (s.arrive_keeps t)))

theorem execAttemptBegin_safe (c : Nat) (s : State) : Yields (execAttemptBegin c s) (Safe s) := by
  unfold execAttemptBegin
  split
  · exact .kept (.refl s)
  · exact .kept (.after (State.updChain_keeps_of_tally _ c fun _ => rfl)
      (.after (State.mapZones_keeps _ fun z => clearMissing_wiring c z) (s.arrive_keeps _)))

theorem execRunningTimerExpiry_safe (c : Nat) (s : State) : Yields (execRunningTimerExpiry c s) (Safe s) := by
  unfold execRunningTimerExpiry
  split
  · exact .kept (.refl s)
  · exact .kept (.after (State.updChain_keeps_of_tally _ c fun _ => rfl) (s.arrive_keeps _))

theorem execPollTick_safe (c : Nat) (s : State) : Yields (execPollTick c s) (Safe s) := by
  unfold execPollTick
  split
  · exact .kept (.refl s)
  · exact .kept (.after (State.serve_keeps _ c)
      (.after (State.updChain_keeps_of_tally _ c fun ch => ch.pollTick_tally) (s.arrive_keeps _)))

theorem execFrameBoundary_safe (c : Nat) (s : State) : Yields (execFrameBoundary c s) (Safe s) := by
  unfold execFrameBoundary
  split
  · exact .kept (.refl s)
  · exact .kept (.after (State.serve_keeps _ c) (s.arrive_keeps _))

theorem execEchoBegin_safe (t c : Nat) (s : State) : Yields (execEchoBegin t c s) (Safe s) := by
  unfold execEchoBegin
  dsimp only
  split
  · exact .kept (s.arrive_keeps t)
  · split
    · exact .kept (.after (State.linkFailure_keeps _ c _) (s.arrive_keeps t))
    · exact .kept (.after (State.updChain_keeps_of_tally _ c fun _ => rfl) (s.arrive_keeps t))

theorem execEchoEnd_safe (t c : Nat) (bits : List Bool) (s : State) : Yields (execEchoEnd t c bits s) (Safe s) := by
  unfold execEchoEnd
  dsimp only
  split
  · exact .kept (s.arrive_keeps t)
  · exact .kept (.after (State.serve_keeps _ c)
      (.after (State.checkEcho_keeps _ c bits) (s.arrive_keeps t)))

theorem execEchoOverdue_safe (c : Nat) (s : State) : Yields (execEchoOverdue c s) (Safe s) := by
  unfold execEchoOverdue
  split
  · exact .kept (.refl s)
  · split
    · exact .kept (.refl s)
    · exact .kept (.after (State.linkFailure_keeps _ c _) (s.arrive_keeps _))

theorem execLoopLost_safe (t c : Nat) (s : State) : Yields (execLoopLost t c s) (Safe s) := by
  unfold execLoopLost
  dsimp only
  split
  · exact .kept (s.arrive_keeps t)
  · exact .kept (.after (State.linkFailure_keeps _ c _) (s.arrive_keeps t))

/-! ## Reports and the thermal unit (chapters 7 and 8) -/

theorem execTakeReport_safe (t : Nat) (s : State) : Yields (execTakeReport t s) (Safe s) := by
  unfold execTakeReport
  dsimp only
  split <;> exact .kept {}

theorem execReadSnapshot_safe (t b g : Nat) (s : State) : Yields (execReadSnapshot t b g s) (Safe s) := by
  unfold execReadSnapshot
  dsimp only
  split
  · exact s.refused_safe t _ _
  · split
    · exact .kept {}
    · exact s.refused_safe t _ _

theorem execSnapshotHoldExpiry_safe (b : Nat) (s : State) : Yields (execSnapshotHoldExpiry b s) (Safe s) := by
  unfold execSnapshotHoldExpiry
  split <;> exact .kept {}

theorem execConversionComplete_safe (code : BitVec 10) (s : State) :
    Yields (execConversionComplete code s) (Safe s) := by
  unfold execConversionComplete
  split
  · exact .kept (.after (State.reportSensor_keeps _ _ _ _) { params := rfl })
  · exact .kept (.refl s)

/-! ## The picture port (chapter 9) -/

theorem execUnknownCommandWrite_safe (t : Nat) (bytes : List Byte) (s : State) :
    Yields (execUnknownCommandWrite t bytes s) (Safe s) := by
  unfold execUnknownCommandWrite
  dsimp only
  split <;> exact .kept {}

theorem execNudge_safe (t : Nat) (r : Rect) (delta : BitVec 8) (s : State) : Yields (execNudge t r delta s) (Safe s) := by
  unfold execNudge
  dsimp only
  split
  · exact .kept (.after (State.pictureResult_keeps _ _) (s.arrive_keeps t))
  · split
    · exact .kept (.after (State.pictureResult_keeps _ _) (s.arrive_keeps t))
    · exact .safe (.after (State.pictureResult_keeps _ _).safe (.after
        (State.writeOpen_safe _ (by simp [nudgeLevels])) (s.arrive_keeps t).safe))

theorem execClose_safe (t : Nat) (tag : BitVec 8) (cut : Bool) (s : State) : Yields (execClose t tag cut s) (Safe s) := by
  unfold execClose
  dsimp only
  split
  · exact .kept (.after (State.pictureResult_keeps _ _) (s.arrive_keeps t))
  · exact .safe (.after (Keeps.safe (.after (State.pictureResult_keeps _ _) {}))
      (.after (State.closeSet_safe _ tag.toNat cut) (s.arrive_keeps t).safe))

theorem execPictureWindow_safe (t : Nat) (w : WindowFields) (s : State) :
    Yields (execPictureWindow t w s) (Safe s) := by
  unfold execPictureWindow
  dsimp only
  split
  next hok => exact .safe (.after (State.pictureResult_keeps _ _).safe
      (.after (State.placeWindow_safe _ hok) (s.arrive_keeps t).safe))
  next => exact .kept (.after (State.pictureResult_keeps _ _) (s.arrive_keeps t))

theorem execPictureUnwindow_safe (t n : Nat) (s : State) : Yields (execPictureUnwindow t n s) (Safe s) := by
  unfold execPictureUnwindow
  dsimp only
  split
  · exact .kept (.after (State.pictureResult_keeps _ _) (s.arrive_keeps t))
  · exact .safe (.after (State.pictureResult_keeps _ _).safe
      (.after (State.removeWindow_safe _ _ n) (s.arrive_keeps t).safe))

theorem execMalformedMessage_safe (t : Nat) (bytes : List Byte) (n : Nat) (s : State) :
    Yields (execMalformedMessage t bytes n s) (Safe s) := by
  unfold execMalformedMessage
  dsimp only
  split
  · exact .kept (.after (State.pictureResult_keeps _ _) (s.arrive_keeps t))
  · exact .kept (s.arrive_keeps t)

/-! ## The panel port (chapters 3 and 10) -/

theorem Schedule.takeHold_keeps (x : Schedule) (m : Nat) :
    (x.takeHold m).points = x.points ∧ (x.takeHold m).groups = x.groups := by
  unfold Schedule.takeHold
  split <;> exact ⟨rfl, rfl⟩

theorem Schedule.takeResume_keeps (x : Schedule) : x.takeResume.points = x.points ∧ x.takeResume.groups = x.groups := by
  unfold Schedule.takeResume
  split <;> exact ⟨rfl, rfl⟩

theorem execHold_safe (t : Nat) (m : BitVec 8) (s : State) : Yields (execHold t m s) (Safe s) := by
  unfold execHold
  dsimp only
  split
  · exact .kept (.after (State.discardMessage_keeps _) (s.arrive_keeps t))
  · exact .safe (Keeps.safe
      { points := fun h => (congrArg _ (s.schedule.takeHold_keeps _).1).trans h
        groups := (s.schedule.takeHold_keeps _).2 })

theorem execResume_safe (t : Nat) (s : State) : Yields (execResume t s) (Safe s) :=
  .safe (Keeps.safe
    { points := fun h => (congrArg _ s.schedule.takeResume_keeps.1).trans h, groups := s.schedule.takeResume_keeps.2 })

theorem execPanelWindow_safe (t : Nat) (w : WindowFields) (s : State) : Yields (execPanelWindow t w s) (Safe s) := by
  unfold execPanelWindow
  dsimp only
  split
  next hok => exact .safe (.after (State.placeWindow_safe _ hok) (s.arrive_keeps t).safe)
  next => exact .kept (.after (State.placeNotice_keeps _ _) (s.arrive_keeps t))

theorem execPanelUnwindow_safe (t n : Nat) (s : State) : Yields (execPanelUnwindow t n s) (Safe s) := by
  unfold execPanelUnwindow
  dsimp only
  split
  · exact .kept (.after (State.placeNotice_keeps _ _) (s.arrive_keeps t))
  · exact .safe (.after (State.removeWindow_safe _ _ n) (s.arrive_keeps t).safe)

theorem execOutgoingMessageEnd_safe (s : State) : Yields (execOutgoingMessageEnd s) (Safe s) := by
  unfold execOutgoingMessageEnd
  split <;> exact .kept {}

/-! ## Timebase, pass and schedule (chapters 2 and 3) -/

theorem execFsyncEdge_safe (t : Nat) (s : State) : Yields (execFsyncEdge t s) (Safe s) := by
  unfold execFsyncEdge
  dsimp only
  split
  · exact .kept (s.arrive_keeps t)
  · split
    · exact .kept { counters := .of_set 3 _ rfl }
    · split
      · exact .kept (s.arrive_keeps t)
      · exact .safe (.after (State.acquireEdge_safe _) (s.arrive_keeps t).safe)
      · exact .safe (.after (State.lockedEdge_safe _) (s.arrive_keeps t).safe)
      · exact .safe (.after (State.holdoverEdge_safe _) (s.arrive_keeps t).safe)

theorem execGeneratedFrameStart_safe (s : State) : Yields (execGeneratedFrameStart s) (Safe s) := by
  unfold execGeneratedFrameStart
  split
  · exact .kept (.refl s)
  · dsimp only
    refine .safe ?_
    split
    · exact .after (State.frameStart_safe _) (Keeps.safe (.after (State.setTimebase_keeps _ _) (s.arrive_keeps _)))
    · exact .after (State.frameStart_safe _) (s.arrive_keeps _).safe

theorem execHoldoverEntry_safe (s : State) : Yields (execHoldoverEntry s) (Safe s) := by
  unfold execHoldoverEntry
  split
  · exact .kept (.refl s)
  · exact .safe (.after (State.deliverFrame_safe _) (Keeps.safe (.after (State.timebaseReport_keeps _ _ _)
      (.after (State.beginFrame_keeps _) (.after (State.setTimebase_keeps _ _) (s.arrive_keeps _))))))

theorem execHoldExpired_safe (s : State) : Yields (execHoldExpired s) (Safe s) := by
  unfold execHoldExpired
  split
  · exact .kept s.moveHold_keeps
  · exact .kept (.refl s)

theorem execProblemFrames_safe (c : Nat) (s : State) : Yields (execProblemFrames c s) (Safe s) := by
  unfold execProblemFrames
  split
  · exact .kept (s.recover_keeps c _)
  · exact .kept (.refl s)

theorem execCompositionEnd_safe (s : State) : Yields (execCompositionEnd s) (Safe s) := by
  unfold execCompositionEnd
  split
  · exact .safe (.after (Keeps.safe {}) s.countdownWindows_safe)
  · exact .kept (.refl s)

theorem execLimitingEnd_safe (s : State) : Yields (execLimitingEnd s) (Safe s) := by
  unfold execLimitingEnd
  split
  · exact .kept {}
  · exact .kept (.refl s)

theorem PassEngine.blockDone_stores (p : PassEngine) (n : Nat) :
    (p.blockDone n).buffer = p.buffer ∧ (p.blockDone n).emitted = p.emitted := by
  unfold PassEngine.blockDone
  split <;> exact ⟨rfl, rfl⟩

theorem State.blockDone_keeps (s : State) (n : Nat) : Keeps s { s with pass := s.pass.blockDone n } where
  buffer := congrArg _ (s.pass.blockDone_stores n).1
  emitted h := (s.pass.blockDone_stores n).2 ▸ h

theorem execEmissionBlock_safe (s : State) : Yields (execEmissionBlock s) (Safe s) := by
  unfold execEmissionBlock
  split
  · exact .kept (.after (State.serveAll_keeps _) (.after (State.blockDone_keeps _ _)
      (.after (Keeps.foldl State.emitGroup_keeps _ _) (.after (Keeps.foldl State.emitZone_keeps _ _)
        (s.arrive_keeps _)))))
  · exact .kept (.refl s)

theorem execCommitPoint_safe (k : Nat) (s : State) : Yields (execCommitPoint k s) (Safe s) := by
  unfold execCommitPoint
  split
  · exact .kept (.refl s)
  · split
    · exact .kept (.refl s)
    · exact .kept (.after (State.commitGroups_keeps _ _) (s.arrive_keeps _))

theorem execLatchPoint_safe (k : Nat) (s : State) : Yields (execLatchPoint k s) (Safe s) := by
  unfold execLatchPoint
  split
  · exact .kept (.refl s)
  · split
    · exact .kept (.after (State.serveAll_keeps _) (.after (State.latchAt_keeps _ _) (s.arrive_keeps _)))
    · exact .kept (.refl s)

/-! ## Every command -/

/-- Each command, from any state, keeps the window list, the channel map, the factors, the counters and the sizes of the
stores sound. -/
theorem exec_safe (c : Instr) (s : State) : Yields (exec c s) (Safe s) := by
  cases c with
  | powerOn t => exact .safe (s.powered_safe _ _)
  | setGrid t cols rows => exact execSetGrid_safe t cols rows s
  | setChain t c d w sensor => exact execSetChain_safe t c d w sensor s
  | mapZone t z c p k => exact execMapZone_safe t z c p k s
  | unmapZone t z => exact execUnmapZone_safe t z s
  | setGroups t g offsets lead => exact execSetGroups_safe t g offsets lead s
  | setProfile t profile => exact execSetProfile_safe t profile s
  | setPower t budget => exact execSetPower_safe t budget s
  | setEasing t rise fall => exact execSetEasing_safe t rise fall s
  | setService t pollUs holdMs => exact execSetService_safe t pollUs holdMs s
  | setThermal t p => exact execSetThermal_safe t p s
  | setTimebase t period => exact execSetTimebase_safe t period s
  | followSync t => exact .keptAnswer {}
  | freeRun t => exact .keptAnswer {}
  | loadGains t start gains => exact execLoadGains_safe t start gains s
  | setOverride t z l => exact execSetOverride_safe t z l s
  | clearOverride t z => exact execClearOverride_safe t z s
  | clearFault t z => exact execClearFault_safe t z s
  | clearWindows t => exact .safeAnswer (.after (State.clearWindows_safe _) (s.arrive_keeps t).safe)
  | start t => exact execStart_safe t s
  | stop t => exact execStop_safe t s
  | restartChain t c => exact execRestartChain_safe t c s
  | driverTrim t c a code => exact .kept (.after (State.takeDirect_keeps _ _ c a _) (s.arrive_keeps t))
  | driverIdent t c a => exact .kept (.after (State.takeDirect_keeps _ _ c a _) (s.arrive_keeps t))
  | systemBlank t on => exact .keptAnswer (.after (State.moveClaims_keeps _ _ _) (s.arrive_keeps t))
  | takeReport t => exact execTakeReport_safe t s
  | readSnapshot t b g => exact execReadSnapshot_safe t b g s
  | probe t z mode => exact execProbe_safe t z mode s
  | readProbe t => exact .kept {}
  | readZone t z => exact execReadZone_safe t z s
  | readCounters t => exact execReadCounters_safe t s
  | readState t => exact .kept {}
  | softRestart t => exact .safeAnswer (.after (State.restart_safe _) (s.arrive_keeps t).safe)
  | unknownCommandWrite t bytes => exact execUnknownCommandWrite_safe t bytes s
  | responseCapture t => exact .kept {}
  | run12 t start values => exact .safe (.after (State.takeRun_safe _ _ start _) (s.arrive_keeps t).safe)
  | run8 t start values => exact .safe (.after (State.takeRun_safe _ _ start _) (s.arrive_keeps t).safe)
  | fine4 t start values => exact .safe (.after (State.takeRun_safe _ _ start _) (s.arrive_keeps t).safe)
  | nudge t r delta => exact execNudge_safe t r delta s
  | close t tag cut => exact execClose_safe t tag cut s
  | pictureWindow t w => exact execPictureWindow_safe t w s
  | pictureUnwindow t n => exact execPictureUnwindow_safe t n s
  | pictureBlank t on => exact .kept (.after (State.pictureResult_keeps _ _)
      (.after (State.moveClaims_keeps _ _ _) (s.arrive_keeps t)))
  | status t => exact .kept (.after (State.pictureResult_keeps _ _) (s.arrive_keeps t))
  | malformedMessage t bytes n => exact execMalformedMessage_safe t bytes n s
  | hold t m => exact execHold_safe t m s
  | resume t => exact execResume_safe t s
  | panelWindow t w => exact execPanelWindow_safe t w s
  | panelUnwindow t n => exact execPanelUnwindow_safe t n s
  | panelBlank t on => exact .kept (.after (State.moveClaims_keeps _ _ _) (s.arrive_keeps t))
  | messageDiscarded t reason => exact .kept (.after (State.discardMessage_keeps _) (s.arrive_keeps t))
  | outgoingMessageEnd => exact execOutgoingMessageEnd_safe s
  | fsyncEdge t => exact execFsyncEdge_safe t s
  | generatedFrameStart => exact execGeneratedFrameStart_safe s
  | holdoverEntry => exact execHoldoverEntry_safe s
  | holdExpired => exact execHoldExpired_safe s
  | problemFrames c => exact execProblemFrames_safe c s
  | compositionEnd => exact execCompositionEnd_safe s
  | limitingEnd => exact execLimitingEnd_safe s
  | emissionBlock => exact execEmissionBlock_safe s
  | commitPoint k => exact execCommitPoint_safe k s
  | latchPoint k => exact execLatchPoint_safe k s
  | frameBoundary c => exact execFrameBoundary_safe c s
  | echoEnd t c bits => exact execEchoEnd_safe t c bits s
  | echoOverdue c => exact execEchoOverdue_safe c s
  | loopLost t c => exact execLoopLost_safe t c s
  | attemptBegin c => exact execAttemptBegin_safe c s
  | runningTimerExpiry c => exact execRunningTimerExpiry_safe c s
  | pollTick c => exact execPollTick_safe c s
  | conversionComplete code => exact execConversionComplete_safe code s
  | snapshotHoldExpiry b => exact execSnapshotHoldExpiry_safe b s
  | echoBegin t c => exact execEchoBegin_safe t c s

/-- A step takes one command from the queue, which no store depends on. -/
theorem step_safe {s u : State} (h : step s = .next u) : Safe s u := by
  unfold step at h
  split at h
  · exact Yields.kept (.refl s) u h
  · exact .after (exec_safe _ _ u h) (Keeps.safe {})

/-- Settles O4. -/
theorem windowListStaysSound : Obligations.WindowListStaysSound :=
  fun _ _ hs hstep => (step_safe hstep).windows hs

/-- Settles O5. -/
theorem channelMapStaysSound : Obligations.ChannelMapStaysSound :=
  fun _ _ hs hstep => (step_safe hstep).map hs

/-- Settles O7. -/
theorem factorsAndCountersStayInRange : Obligations.FactorsAndCountersStayInRange :=
  fun _ _ hstep => ⟨(step_safe hstep).derate, (step_safe hstep).counters, (step_safe hstep).sizes⟩

end Sys2Proof.Machine

namespace Sys2Proof.Machine

/-! # The delivery of a frame start (R52)

`deliverFrame` is nine operations in a row. Each part of the state is written by few of them, so the proof follows the
parts: what becomes of one chain engine, of the report queue, of the panel line, of the points, of the pass. Every such
account is a lemma; the obligation is assembled from them. -/

/-! ## A chain found LATE (R65, R68, R98) -/

/-- A retry to address `a` waits for a group of `ks`. -/
def retryWaits (stages : List StageEntry) (ks : List Nat) (a : Nat) : Bool :=
  stages.any fun e => ks.contains e.group && e.retry && decide (e.address = a)

/-- A chain that has been found LATE for the groups of `ks`: the STAGEs waiting for them are gone, a discarded retry
leaves its record unknown, and each group is counted. -/
def Chain.lateForAll (ch : Chain) (ks : List Nat) : Chain :=
  { ch with
    mirror := ch.mirror.mapIdx fun a m => { m with known := m.known && !retryWaits ch.staging ks a }
    staging := ch.staging.filter fun e => !ks.contains e.group
    late := if ks = [] then ch.late else min (ch.late + ks.length) 65535 }

theorem Chain.lateForAll_nil (ch : Chain) : ch.lateForAll [] = ch := by
  have hnone : ∀ a, retryWaits ch.staging [] a = false := by simp [retryWaits, List.any_eq_false]
  have hmirror : (ch.mirror.mapIdx fun a m => { m with known := m.known && !retryWaits ch.staging [] a }) = ch.mirror :=
    List.ext_getElem (by simp) (by simp [hnone])
  simp [Chain.lateForAll, hmirror]

theorem Chain.lateFor_eq (ch : Chain) (k : Nat) : ch.lateFor k = ch.lateForAll [k] := by
  have hgone : ∀ a,
      ((ch.staging.filter fun e => decide (e.group = k) && e.retry).any fun e => decide (e.address = a)) =
      retryWaits ch.staging [k] a := by
    intro a
    simp [retryWaits, List.any_filter]
  unfold Chain.lateFor Chain.lateForAll
  dsimp only
  simp only [hgone]
  congr 1
  · congr 1
    funext a m
    cases retryWaits ch.staging [k] a <;> simp
  · simp

/-- A chain found LATE for some groups, then for others. -/
theorem Chain.lateForAll_append (ch : Chain) (ks js : List Nat) :
    (ch.lateForAll ks).lateForAll js = ch.lateForAll (ks ++ js) := by
  have hwaits : ∀ a,
      (retryWaits ch.staging ks a || retryWaits (ch.staging.filter fun e => !ks.contains e.group) js a) =
      retryWaits ch.staging (ks ++ js) a := by
    intro a
    rw [Bool.eq_iff_iff]
    simp only [retryWaits, Bool.or_eq_true, List.any_eq_true, List.mem_filter, Bool.and_eq_true, Bool.not_eq_true',
      List.contains_eq_mem, List.mem_append, decide_eq_true_eq, decide_eq_false_iff_not]
    constructor
    · rintro (⟨e, he, ⟨hk, hr⟩, ha⟩ | ⟨e, ⟨he, -⟩, ⟨hk, hr⟩, ha⟩)
      · exact ⟨e, he, ⟨.inl hk, hr⟩, ha⟩
      · exact ⟨e, he, ⟨.inr hk, hr⟩, ha⟩
    · rintro ⟨e, he, ⟨hk, hr⟩, ha⟩
      by_cases h : e.group ∈ ks
      · exact .inl ⟨e, he, ⟨h, hr⟩, ha⟩
      · exact .inr ⟨e, ⟨he, h⟩, ⟨hk.resolve_left h, hr⟩, ha⟩
  unfold Chain.lateForAll
  congr 1
  · dsimp only
    rw [List.mapIdx_mapIdx]
    congr 1
    funext a m
    simp only [Function.comp_apply, ← hwaits, Bool.not_or, Bool.and_assoc]
  · simp only [List.filter_filter]
    congr 1
    funext e
    simp [Bool.and_comm]
  · by_cases hk : ks = []
    · simp [hk]
    · by_cases hj : js = []
      · simp [hj]
      · simp only [hk, hj, if_false, List.append_eq_nil_iff, false_and, List.length_append]
        omega

theorem Chain.foldl_lateFor (ks : List Nat) : ∀ ch : Chain, ks.foldl Chain.lateFor ch = ch.lateForAll ks := by
  induction ks with
  | nil => exact fun ch => ch.lateForAll_nil.symm
  | cons k ks ih =>
    intro ch
    rw [List.foldl_cons, ih, ch.lateFor_eq, ch.lateForAll_append]
    rfl

/-! ## Leaving RUNNING at a third problem frame (R103, R112, R113, R121) -/

/-- A chain that has left RUNNING for a cause, to RECOVERING or to FAILED. -/
def Chain.recovered (ch : Chain) (now : Nat) (cause : Cause) : Chain :=
  if ch.attempts < 3 then { ch.enterRecovering cause with wait := some (now + ms 1) }
  else { (ch.enterRecovering cause).unassignAll with state := .failed, wait := none, attempt := none }

/-- The entry that reports it. -/
def State.recoveryEntry (s : State) (c : Nat) (cause : Cause) : ReportEntry :=
  s.entry (.chain c 0) (.chain cause) (if (s.chain c).attempts < 3 then .degraded else .failed)

theorem State.dropDirect_eq (s : State) (c : Nat) :
    s.dropDirect c = { s with
      system := if (s.chain c).directOutstanding then s.directAnswered c .linkError .none else s.system } := by
  unfold State.dropDirect
  rw [State.fixDirect_eq]
  split <;> rfl

theorem State.updChain_updChain (s : State) (c : Nat) (f g : Chain → Chain) :
    (s.updChain c f).updChain c g = s.updChain c (g ∘ f) := by
  simp [State.updChain, List.modify_modify_eq]

theorem State.recover_eq (s : State) (c : Nat) (cause : Cause) :
    s.recover c cause =
      ((s.dropDirect c).updChain c fun ch => ch.recovered s.now cause).queueReport [s.recoveryEntry c cause] := by
  have hentry : ∀ f r, ((s.dropDirect c).updChain c f).entry (.chain c 0) (.chain cause) r =
      s.entry (.chain c 0) (.chain cause) r := fun f r => by simp [State.entry]
  have hmodify : ∀ f : Chain → Chain, f (s.chain c) = (s.chain c).recovered s.now cause →
      (s.dropDirect c).updChain c f = (s.dropDirect c).updChain c fun ch => ch.recovered s.now cause := by
    intro f hf
    have hchain : (s.dropDirect c).chain c = s.chain c := by simp [State.chain]
    rw [State.updChain_eq, State.updChain_eq, hchain, hf]
  unfold State.recover State.recoveryEntry
  by_cases ha : (s.chain c).attempts < 3
  · simp only [ha, if_true, State.chainReport, State.updChain_updChain, hentry]
    rw [hmodify _ (by simp [Chain.recovered, ha])]
  · simp only [ha, if_false, State.enterFailed, State.chainReport, State.updChain_updChain, hentry]
    rw [hmodify _ (by simp [Chain.recovered, ha])]

/-- A chain at the end of its problem period (R103). -/
def Chain.periodEnded (ch : Chain) (now : Nat) : Chain :=
  if ch.problem = false then { ch with problemCount := 0 }
  else if 2 ≤ ch.problemCount then ch.recovered now .problemFrames
  else { ch with problem := false, problemCount := ch.problemCount + 1 }

/-- This period is a third problem frame in a row. -/
def Chain.tripped (ch : Chain) : Bool := ch.problem && decide (2 ≤ ch.problemCount)

theorem Chain.tripped_iff (ch : Chain) : ch.tripped = true ↔ ch.problem = true ∧ 2 ≤ ch.problemCount := by
  simp [Chain.tripped]

/-! ## The closing of the previous frame (R68, R98, R158) -/

/-- The state once the previous frame is closed and the records of the new one are cleared. -/
def State.closed (s : State) : State := s.slewAll.closeFrame.overrun.clearFrame

/-- A chain's engine as its applied factor has moved (R158). -/
def State.slewed (s : State) (ch : Chain) : Chain :=
  { ch with applied := if s.thermal.converting = true ∧ s.system.part ≠ .config
      then slew ch.applied (targetFactor s.thermal ch) else ch.applied }

/-- The groups that chain `c`, serving the previous frame, is late for as it closes (R68). -/
def State.lateGroups (s : State) (c : Nat) : List Nat :=
  (List.range 8).filter fun j => (s.sampledChain c).carries.getLsbD j && (s.sampledChain c).running &&
    decide ((s.chain c).state = .running) && !(s.chain c).leftFrame &&
    (match s.point j with | some q => !q.reached | none => false)

/-- What becomes of chain `c`'s engine as the previous frame closes. -/
def State.closedChain (s : State) (c : Nat) (ch : Chain) : Chain :=
  { ((s.slewed ch).oweLatch (s.committedMask c owedLatch)).lateForAll (s.lateGroups c) with
    settle := List.replicate 8 Settle.clear
    leftFrame := false }

theorem State.slewAll_eq (s : State) : s.slewAll = s.mapChains s.slewed := by
  unfold State.slewAll State.slewed
  split
  next => rfl
  next => simp [State.mapChains]

/-- The slew changes neither who serves the previous frame nor which groups it left unreached. -/
theorem State.slewAll_lateGroups (s : State) (c : Nat) :
    s.slewAll.unreached.filter (fun k => (s.slewAll.sampledChain c).carries.getLsbD k && s.slewAll.servesFrame c) =
      s.lateGroups c := by
  have hstate : (s.slewAll.chain c).state = (s.chain c).state ∧
      (s.slewAll.chain c).leftFrame = (s.chain c).leftFrame := by
    rw [s.slewAll_eq]
    by_cases hc : c < s.chains.length <;> simp [State.chain, State.slewed, hc]
  simp only [State.unreached, State.lateGroups, List.filter_filter, State.servesFrame, State.running,
    State.sampledChain, State.point, State.slewAll_frame, hstate]
  refine List.filter_congr fun k _ => ?_
  ac_rfl

theorem State.closeChain_eq (s : State) (c : Nat) (ch : Chain) :
    s.closeChain c ch = (ch.oweLatch (s.committedMask c owedLatch)).lateForAll
      (s.unreached.filter fun k => (s.sampledChain c).carries.getLsbD k && s.servesFrame c) := by
  rw [← Chain.foldl_lateFor, List.foldl_filter]
  rfl

theorem State.closed_chains (s : State) : s.closed.chains = s.chains.mapIdx s.closedChain := by
  have hmask : ∀ c, s.slewAll.committedMask c owedLatch = s.committedMask c owedLatch := by
    simp [State.committedMask, State.point]
  have hclose : s.slewAll.closeChain = fun c ch =>
      (ch.oweLatch (s.committedMask c owedLatch)).lateForAll (s.lateGroups c) := by
    funext c ch
    rw [State.closeChain_eq, State.slewAll_lateGroups, hmask]
  have hslew : s.slewAll.chains = s.chains.map s.slewed := by rw [s.slewAll_eq]; rfl
  simp only [State.closed, State.clearFrame, State.overrun_frame, State.closeFrame, hclose, hslew,
    map_eq_mapIdx, List.mapIdx_mapIdx]
  rfl

/-! ## Masks built bit by bit -/

theorem getLsbD_or_bit (m : BitVec 8) (k : Nat) {j : Nat} (hj : j < 8) :
    (m ||| (1#8 <<< k)).getLsbD j = true ↔ m.getLsbD j = true ∨ j = k := by
  simp [hj]
  have hbit : k ≤ j ∧ j - k = 0 ↔ j = k := by omega
  rw [hbit]

/-- A fold that sets at each step the bits it owes sets those owed by some member. -/
theorem foldl_getLsbD_iff {α : Type} {g : BitVec 8 → α → BitVec 8} {P : α → Prop} {j : Nat}
    (hg : ∀ m x, (g m x).getLsbD j = true ↔ m.getLsbD j = true ∨ P x) (l : List α) : ∀ m : BitVec 8,
      (l.foldl g m).getLsbD j = true ↔ m.getLsbD j = true ∨ ∃ x ∈ l, P x := by
  induction l with
  | nil => simp
  | cons x l ih => intro m; rw [List.foldl_cons, ih, hg, or_assoc, List.exists_mem_cons_iff]

theorem State.committedMask_owed_iff (s : State) (c : Nat) {j : Nat} (hj : j < 8) :
    (s.committedMask c owedLatch).getLsbD j = true ↔
      ∃ q, s.point j = some q ∧ q.reached = true ∧ q.latched = false ∧
        q.outcomes.getD c .notCarried = .committed := by
  rw [State.committedMask, foldl_getLsbD_iff (P := fun k => j = k ∧ ∃ q, s.point k = some q ∧ q.reached = true ∧
    q.latched = false ∧ q.outcomes.getD c .notCarried = .committed)]
  · simp [hj]
  · intro m k
    cases hq : s.point k with
    | none => simp
    | some q =>
      have howed : (owedLatch q && decide (outcomeOf q.outcomes c = .committed)) = true ↔
          q.reached = true ∧ q.latched = false ∧ q.outcomes.getD c .notCarried = .committed := by
        simp [owedLatch, outcomeOf, and_assoc]
      simp only [Option.some.injEq, exists_eq_left', ← howed]
      split
      next h => rw [getLsbD_or_bit _ _ hj, and_iff_left h]
      next h => simp [h]

theorem lateMask_iff (outcomes : List CommitOutcome) (claimed : Bool) {c : Nat} (hc : c < 8) :
    (lateMask outcomes claimed).getLsbD c = true ↔ outcomeOf outcomes c = .late ∨ outcomeOf outcomes c = .absent ∨
      (outcomeOf outcomes c = .committed ∧ claimed = true) := by
  rw [lateMask, foldl_getLsbD_iff (P := fun k => c = k ∧ (outcomeOf outcomes k = .late ∨
    outcomeOf outcomes k = .absent ∨ (outcomeOf outcomes k = .committed ∧ claimed = true)))]
  · simp [hc]
  · intro m k
    have hbit := getLsbD_or_bit m k hc
    cases outcomeOf outcomes k with
    | notCarried => simp
    | committed =>
      cases claimed with
      | false => simp
      | true => exact hbit.trans (by simp)
    | absent => exact hbit.trans (by simp)
    | late => exact hbit.trans (by simp)

theorem carriedMask_iff (g : Grid) (groups c : Nat) (channels : List (Option Channel)) {k : Nat} (hk : k < 8) :
    (carriedMask g groups c channels).getLsbD k = true ↔
      ∃ i x, channels[i]? = some (some x) ∧ x.chain = c ∧ g.zoneGroup groups i = k := by
  rw [carriedMask, foldl_getLsbD_iff (P := fun x => ∃ y, x.1 = some y ∧ y.chain = c ∧ g.zoneGroup groups x.2 = k)]
  · simp [List.mem_zipIdx_iff_getElem?]
  · rintro m ⟨x, i⟩
    cases x with
    | none => simp
    | some y =>
      by_cases hy : y.chain = c
      · simp only [hy, if_true]
        rw [getLsbD_or_bit _ _ hk]
        exact or_congr Iff.rfl ⟨fun h => ⟨y, rfl, hy, h.symm⟩, fun ⟨_, _, _, h⟩ => h.symm⟩
      · simp [hy]

end Sys2Proof.Machine

namespace Sys2Proof.Machine

/-! # What the operations of a frame start write

Reports, light sections, problem periods and commit points: an account of each that later proofs read off. -/

/-! ## What reports and light sections write (R142, R177) -/

/-- What a report writes: the queue with its ALERT latch, and the count of lost reports (R142). -/
def State.books (s : State) : ReportUnit × Nat := (s.reports, s.counters.reportsLost)

/-- A report of one entry is queued or lost. -/
def bookReport (b : ReportUnit × Nat) (e : ReportEntry) : ReportUnit × Nat :=
  if b.1.hasRoom 1 then (b.1.accept [e], b.2) else (b.1.lose, sat16 b.2)

@[simp] theorem State.queueReport_books (s : State) (e : ReportEntry) :
    (s.queueReport [e]).books = bookReport s.books e := by
  unfold State.queueReport bookReport
  by_cases h : s.reports.hasRoom 1 = true <;> simp [h, State.books]

theorem State.foldl_queueReport_books (es : List ReportEntry) : ∀ s : State,
    (es.foldl (fun x e => x.queueReport [e]) s).books = es.foldl bookReport s.books := by
  induction es with
  | nil => exact fun _ => rfl
  | cons e es ih => intro s; rw [List.foldl_cons, ih, s.queueReport_books, List.foldl_cons]

/-- A report writes no other counter. -/
@[simp] theorem State.queueReport_counters (s : State) (es : List ReportEntry) :
    (s.queueReport es).counters.overruns = s.counters.overruns ∧
      (s.queueReport es).counters.stale = s.counters.stale ∧
      (s.queueReport es).counters.sectionsDropped = s.counters.sectionsDropped := by
  unfold State.queueReport
  split <;> simp

/-- What a light section writes: the panel port, and the count of dropped sections (R177). -/
def State.port (s : State) : PanelPort × Nat := (s.panel, s.counters.sectionsDropped)

/-- A section joins the tail of the section queue, which first drops its oldest if it is full. -/
def queueAt (now : Nat) (p : PanelPort × Nat) (b : LightSection) : PanelPort × Nat :=
  if p.1.sections.length < 8 then (({ p.1 with sections := p.1.sections ++ [b] } : PanelPort).serve now, p.2)
  else (({ p.1 with sections := p.1.sections.drop 1 ++ [b] } : PanelPort).serve now, sat16 p.2)

@[simp] theorem State.queueSection_port (s : State) (b : LightSection) :
    (s.queueSection b).port = queueAt s.now s.port b := by
  unfold State.queueSection queueAt State.port
  split <;> rfl

theorem State.foldl_queueSection_port (bs : List LightSection) : ∀ s : State,
    (bs.foldl State.queueSection s).port = bs.foldl (queueAt s.now) s.port := by
  induction bs with
  | nil => exact fun _ => rfl
  | cons b bs ih =>
    intro s
    have hnow : (s.queueSection b).now = s.now := by simp
    rw [List.foldl_cons, ih, s.queueSection_port, hnow, List.foldl_cons]

/-- A section writes no other counter. -/
@[simp] theorem State.queueSection_counters (s : State) (b : LightSection) :
    (s.queueSection b).counters.overruns = s.counters.overruns ∧
      (s.queueSection b).counters.stale = s.counters.stale ∧
      (s.queueSection b).counters.reportsLost = s.counters.reportsLost := by
  unfold State.queueSection
  split <;> simp

/-! ## The problem periods (R103) -/

theorem State.dropDirect_response (s : State) (c : Nat) :
    (s.dropDirect c).system.response =
      if (s.chain c).directOutstanding = true ∧ s.system.response.waitsFor = some c then
        ⟨true, s.system.response.command, some .linkError, .none, none⟩ else s.system.response := by
  rw [s.dropDirect_eq]
  by_cases hd : (s.chain c).directOutstanding = true
  · by_cases hw : s.system.response.waitsFor = some c <;> simp [hd, hw, State.directAnswered]
  · simp [hd]

theorem State.endPeriod_tripped {s : State} {c : Nat} (h : (s.chain c).tripped = true) :
    s.endPeriod c = ((s.dropDirect c).updChain c fun ch => ch.recovered s.now .problemFrames).queueReport
      [s.recoveryEntry c .problemFrames] := by
  obtain ⟨hp, hn⟩ := (Chain.tripped_iff _).1 h
  rw [State.endPeriod, ← State.recover_eq]
  simp [hp, hn]

theorem State.endPeriod_untripped {s : State} {c : Nat} (h : (s.chain c).tripped = false) :
    s.endPeriod c = s.updChain c fun ch => if (s.chain c).problem = false then { ch with problemCount := 0 }
      else { ch with problem := false, problemCount := ch.problemCount + 1 } := by
  cases hp : (s.chain c).problem with
  | false => simp [State.endPeriod, hp]
  | true =>
    have hn : ¬ 2 ≤ (s.chain c).problemCount := by simpa [Chain.tripped, hp] using h
    simp [State.endPeriod, hp, hn]

theorem State.endPeriod_chains (s : State) (c : Nat) :
    (s.endPeriod c).chains = s.chains.set c ((s.chain c).periodEnded s.now) := by
  cases h : (s.chain c).tripped with
  | true =>
    obtain ⟨hp, hn⟩ := (Chain.tripped_iff _).1 h
    have hchain : (s.dropDirect c).chain c = s.chain c := by simp [State.chain]
    rw [State.endPeriod_tripped h, State.updChain_eq, hchain]
    simp [Chain.periodEnded, hp, hn]
  | false =>
    rw [State.endPeriod_untripped h, State.updChain_eq]
    cases hp : (s.chain c).problem with
    | false => simp [Chain.periodEnded, hp]
    | true =>
      have hn : ¬ 2 ≤ (s.chain c).problemCount := by simpa [Chain.tripped, hp] using h
      simp [Chain.periodEnded, hp, hn]

theorem State.endPeriod_books (s : State) (c : Nat) :
    (s.endPeriod c).books = if (s.chain c).tripped then bookReport s.books (s.recoveryEntry c .problemFrames)
      else s.books := by
  cases h : (s.chain c).tripped with
  | true =>
    rw [State.endPeriod_tripped h, State.queueReport_books, s.dropDirect_eq]
    rfl
  | false =>
    rw [State.endPeriod_untripped h]
    rfl

theorem State.endPeriod_response (s : State) (c : Nat) :
    (s.endPeriod c).system.response =
      if (s.chain c).tripped = true ∧ (s.chain c).directOutstanding = true ∧
          s.system.response.waitsFor = some c then
        ⟨true, s.system.response.command, some .linkError, .none, none⟩ else s.system.response := by
  cases h : (s.chain c).tripped with
  | true =>
    rw [State.endPeriod_tripped h]
    simpa using s.dropDirect_response c
  | false =>
    rw [State.endPeriod_untripped h]
    simp

@[simp] theorem State.endPeriod_counters (s : State) (c : Nat) :
    (s.endPeriod c).counters.overruns = s.counters.overruns ∧
      (s.endPeriod c).counters.stale = s.counters.stale ∧
      (s.endPeriod c).counters.sectionsDropped = s.counters.sectionsDropped := by
  cases h : (s.chain c).tripped with
  | true =>
    rw [State.endPeriod_tripped h, s.dropDirect_eq]
    simp
  | false =>
    rw [State.endPeriod_untripped h]
    simp

/-- The state once the problem periods of chains 0..n − 1 are ended. -/
def State.periodsEnded (s : State) (n : Nat) : State := (List.range n).foldl State.endPeriod s

theorem State.periodsEnded_succ (s : State) (n : Nat) : s.periodsEnded (n + 1) = (s.periodsEnded n).endPeriod n := by
  simp [State.periodsEnded, List.range_succ]

@[simp] theorem State.periodsEnded_frame (s : State) (n : Nat) :
    (s.periodsEnded n).now = s.now ∧ (s.periodsEnded n).timebase = s.timebase ∧
      (s.periodsEnded n).counters.overruns = s.counters.overruns ∧
      (s.periodsEnded n).counters.stale = s.counters.stale ∧
      (s.periodsEnded n).counters.sectionsDropped = s.counters.sectionsDropped := by
  induction n with
  | zero => simp [State.periodsEnded]
  | succ n ih => simp [State.periodsEnded_succ, ih]

theorem State.periodsEnded_chains (s : State) (n : Nat) :
    (s.periodsEnded n).chains = s.chains.mapIdx fun c ch => if c < n then ch.periodEnded s.now else ch := by
  induction n with
  | zero => exact List.ext_getElem (by simp [State.periodsEnded]) (by simp [State.periodsEnded])
  | succ n ih =>
    rw [State.periodsEnded_succ, State.endPeriod_chains, State.chain, ih]
    refine List.ext_getElem (by simp) fun i hi _ => ?_
    have hlen : i < s.chains.length := by simpa using hi
    rw [List.getElem_set]
    by_cases hin : n = i
    · subst hin
      simp [hlen]
    · have hlt : i < n ↔ i < n + 1 := by omega
      simp [hin, hlt]

/-- The periods of the chains before it do not touch a chain. -/
theorem State.periodsEnded_chain (s : State) (n : Nat) : (s.periodsEnded n).chain n = s.chain n := by
  rw [State.chain, State.periodsEnded_chains]
  by_cases hn : n < s.chains.length <;> simp [State.chain, hn]

theorem State.periodsEnded_books (s : State) (n : Nat) :
    (s.periodsEnded n).books = (((List.range n).filter fun c => (s.chain c).tripped).map fun c =>
      s.recoveryEntry c .problemFrames).foldl bookReport s.books := by
  induction n with
  | zero => rfl
  | succ n ih =>
    have hentry : (s.periodsEnded n).recoveryEntry n .problemFrames = s.recoveryEntry n .problemFrames := by
      simp [State.recoveryEntry, State.entry, s.periodsEnded_chain]
    rw [State.periodsEnded_succ, State.endPeriod_books, s.periodsEnded_chain, hentry, ih, List.range_succ]
    cases h : (s.chain n).tripped <;> simp [h]

/-- The outstanding DIRECT command that the response buffer waits for is dropped with one of chains 0..n − 1. -/
def State.answerDropped (s : State) (n : Nat) : Prop :=
  ∃ c, c < n ∧ (s.chain c).tripped = true ∧ (s.chain c).directOutstanding = true ∧
    s.system.response.waitsFor = some c

theorem State.periodsEnded_response (s : State) (n : Nat) :
    (s.answerDropped n → (s.periodsEnded n).system.response =
      ⟨true, s.system.response.command, some .linkError, .none, none⟩) ∧
    (¬ s.answerDropped n → (s.periodsEnded n).system.response = s.system.response) := by
  induction n with
  | zero => exact ⟨fun ⟨c, hc, _⟩ => absurd hc (Nat.not_lt_zero c), fun _ => rfl⟩
  | succ n ih =>
    obtain ⟨hyes, hno⟩ := ih
    rw [State.periodsEnded_succ, State.endPeriod_response, s.periodsEnded_chain]
    by_cases hd : s.answerDropped n
    · have hsucc : s.answerDropped (n + 1) := by
        obtain ⟨c, hc, hx⟩ := hd
        exact ⟨c, by omega, hx⟩
      simp [hyes hd, hsucc]
    · rw [hno hd]
      by_cases hn : (s.chain n).tripped = true ∧ (s.chain n).directOutstanding = true ∧
          s.system.response.waitsFor = some n
      · have hsucc : s.answerDropped (n + 1) := ⟨n, by omega, hn⟩
        simp [hn, hsucc]
      · have hsucc : ¬ s.answerDropped (n + 1) := by
          rintro ⟨c, hc, hx⟩
          by_cases hcn : c = n
          · exact hn (hcn ▸ hx)
          · exact hd ⟨c, by omega, hx⟩
        simp [hn, hsucc]

theorem State.endPeriods_eq (s : State) : s.endPeriods = s.periodsEnded 8 := rfl

theorem State.endPeriods_chains {s : State} (h : s.chains.length = 8) :
    s.endPeriods.chains = s.chains.map fun ch => ch.periodEnded s.now := by
  rw [s.endPeriods_eq, s.periodsEnded_chains, map_eq_mapIdx]
  refine List.ext_getElem (by simp) fun i hi _ => ?_
  have hlt : i < 8 := by simpa [h] using hi
  simp [hlt]

/-! ## Commit points at a frame start (R63 to R66)

As a frame starts no group has been emitted, so that no outcome is COMMITTED and no shown level changes. -/

/-- The outcomes of group `k`. -/
def State.outcomes (s : State) (k : Nat) : List CommitOutcome := (List.range 8).map (s.outcomeFor k)

/-- The light section of group `k` as its commit point is reached. -/
def State.sectionOf (s : State) (k : Nat) : LightSection := s.buildSection k (s.outcomes k)

/-- The point of group `k` as it is reached. -/
def State.reach (s : State) (k : Nat) (p : Option GroupPoint) : Option GroupPoint :=
  p.map fun q => { q with reached := true, outcomes := s.outcomes k }

/-- The groups of `ks` that chain `c` is LATE for. -/
def State.lateOf (s : State) (ks : List Nat) (c : Nat) : List Nat :=
  ks.filter fun k => decide (outcomeOf (s.outcomes k) c = .late)

theorem State.outcomeOf_outcomes (s : State) (k : Nat) {c : Nat} (hc : c < 8) :
    outcomeOf (s.outcomes k) c = s.outcomeFor k c := by
  simp [outcomeOf, State.outcomes, hc]

theorem State.outcomeFor_unemitted {s : State} {k : Nat} (he : s.emittedMark k = false) (c : Nat) :
    s.outcomeFor k c = if (s.sampledChain c).carries.getLsbD k = false then .notCarried
      else if s.servesFrame c = true then .late else .absent := by
  cases hc : (s.sampledChain c).carries.getLsbD k <;> cases hs : s.servesFrame c <;>
    simp [State.outcomeFor, hc, hs, he]

theorem State.outcomeOf_ne_committed {s : State} {k : Nat} (he : s.emittedMark k = false) (c : Nat) :
    outcomeOf (s.outcomes k) c ≠ .committed := by
  by_cases hc : c < 8
  · rw [s.outcomeOf_outcomes k hc, State.outcomeFor_unemitted he]
    grind
  · simp [outcomeOf, State.outcomes, hc]

theorem State.commitZone_unemitted {s : State} {k : Nat} (he : s.emittedMark k = false) (i : Nat) (z : Zone) :
    s.commitZone k (s.outcomes k) i z = z := by
  have hne : zoneOutcome (s.outcomes k) (s.sampledZone i) ≠ .committed := by
    unfold zoneOutcome
    split
    · exact State.outcomeOf_ne_committed he _
    · decide
  simp [State.commitZone, hne]

/-- The commit point of a group that no pass has emitted. -/
theorem State.commitGroup_unemitted {s : State} {k : Nat} (he : s.emittedMark k = false) :
    s.commitGroup k = ({ s with
      schedule := { s.schedule with points := s.schedule.points.modify k (s.reach k) }
      chains := s.chains.mapIdx fun c ch => ch.lateForAll (s.lateOf [k] c) } : State).queueSection (s.sectionOf k) := by
  have hzones : s.zones.mapIdx (s.commitZone k (s.outcomes k)) = s.zones :=
    List.ext_getElem (by simp) (by simp [State.commitZone_unemitted he])
  have hchains : (s.chains.mapIdx fun c ch => if outcomeOf (s.outcomes k) c = .late then ch.lateFor k else ch) =
      s.chains.mapIdx fun c ch => ch.lateForAll (s.lateOf [k] c) := by
    congr 1
    funext c ch
    by_cases h : outcomeOf (s.outcomes k) c = .late
    · simp [State.lateOf, h, ch.lateFor_eq]
    · simp [State.lateOf, h, ch.lateForAll_nil]
  have houtcomes : (List.range 8).map (s.outcomeFor k) = s.outcomes k := rfl
  simp only [State.commitGroup, houtcomes, hzones, hchains]
  rfl

/-- No outcome depends on what an earlier commit point at the same moment wrote. -/
theorem State.outcomes_commitGroup {s : State} {k : Nat} (he : s.emittedMark k = false) (j : Nat) :
    (s.commitGroup k).outcomes j = s.outcomes j := by
  have hchain : ∀ c, ((s.commitGroup k).chain c).state = (s.chain c).state ∧
      ((s.commitGroup k).chain c).leftFrame = (s.chain c).leftFrame ∧
      ((s.commitGroup k).chain c).settle = (s.chain c).settle := by
    intro c
    rw [State.commitGroup_unemitted he, State.chain]
    by_cases hc : c < s.chains.length <;> simp [State.chain, hc, Chain.lateForAll]
  have hfor : (s.commitGroup k).outcomeFor j = s.outcomeFor j := by
    funext c
    simp [State.outcomeFor, State.servesFrame, State.running, State.sampledChain, State.emittedMark, Chain.settled,
      Chain.settleOf, hchain]
  rw [State.outcomes, hfor, State.outcomes]

theorem State.sectionOf_commitGroup {s : State} {k : Nat} (he : s.emittedMark k = false) (j : Nat) :
    (s.commitGroup k).sectionOf j = s.sectionOf j := by
  have hzones : (s.commitGroup k).zones = s.zones := by
    rw [State.commitGroup_unemitted he]
    simp
  have hgroups : (s.commitGroup k).schedule.groups = s.schedule.groups := by
    rw [State.commitGroup_unemitted he]
    simp
  simp only [State.sectionOf, State.outcomes_commitGroup he, State.buildSection, State.zonesOf, State.sampledZone,
    State.zone, State.commitGroup_frame, hzones, hgroups]

/-- What the commit points of several groups that no pass has emitted write, in turn. -/
theorem State.commitGroups_unemitted (ks : List Nat) : ∀ s : State, (∀ k, s.emittedMark k = false) →
    (s.commitGroups ks).zones = s.zones ∧
    (s.commitGroups ks).schedule = { s.schedule with
      points := ks.foldl (fun l k => l.modify k (s.reach k)) s.schedule.points } ∧
    (s.commitGroups ks).chains = s.chains.mapIdx (fun c ch => ch.lateForAll (s.lateOf ks c)) ∧
    (s.commitGroups ks).port = (ks.map s.sectionOf).foldl (queueAt s.now) s.port ∧
    (s.commitGroups ks).counters.overruns = s.counters.overruns ∧
    (s.commitGroups ks).counters.stale = s.counters.stale ∧
    (s.commitGroups ks).counters.reportsLost = s.counters.reportsLost := by
  induction ks with
  | nil =>
    intro s _
    refine ⟨rfl, rfl, ?_, rfl, rfl, rfl, rfl⟩
    exact List.ext_getElem (by simp [State.commitGroups])
      (by simp [State.commitGroups, State.lateOf, Chain.lateForAll_nil])
  | cons k ks ih =>
    intro s he
    have hreach : (s.commitGroup k).reach = s.reach := by
      funext j p
      simp only [State.reach, State.outcomes_commitGroup (he k)]
    have hlate : (s.commitGroup k).lateOf ks = s.lateOf ks := by
      funext c
      simp only [State.lateOf, State.outcomes_commitGroup (he k)]
    have hsection : (s.commitGroup k).sectionOf = s.sectionOf := funext fun j => State.sectionOf_commitGroup (he k) j
    have hnext : (s.commitGroup k).now = s.now := by simp
    obtain ⟨hz, hsch, hch, hport, ho, hst, hl⟩ := ih (s.commitGroup k) (by simpa [State.emittedMark] using he)
    rw [hreach] at hsch
    rw [hlate] at hch
    rw [hsection, hnext] at hport
    have hcons : s.commitGroups (k :: ks) = (s.commitGroup k).commitGroups ks := rfl
    rw [hcons, hz, hsch, hch, hport, ho, hst, hl, State.commitGroup_unemitted (he k)]
    refine ⟨by simp, by simp, ?_, ?_, by simp, by simp, by simp⟩
    · simp only [State.queueSection_frame, List.mapIdx_mapIdx]
      congr 1
      funext c ch
      refine (ch.lateForAll_append _ _).trans ?_
      rw [State.lateOf, State.lateOf, State.lateOf, ← List.filter_append]
      rfl
    · rw [State.queueSection_port]
      rfl

end Sys2Proof.Machine

namespace Sys2Proof.Machine

/-! # The state as a pass is to begin (R52)

Every block before the pass has acted: the previous frame is closed, its problem periods ended, HOLD moved, a STARTING
part perhaps brought into RUNNING. -/

/-! ## The state as a pass is to begin -/

/-- The state at a frame start once every block before the pass has acted (R52, log 9). -/
def State.ready (s : State) : State := s.closed.endPeriods.moveHold.enterService

theorem State.deliverFrame_eq (s : State) : s.deliverFrame = s.ready.maybePass.serveAll := rfl

/-- Chain `c`'s engine as a pass is to begin. -/
def State.readyChain (s : State) (c : Nat) (ch : Chain) : Chain := (s.closedChain c ch).periodEnded s.now

@[simp] theorem State.closed_frame (s : State) :
    s.closed.now = s.now ∧ s.closed.grid = s.grid ∧ s.closed.zones = s.zones ∧ s.closed.request = s.request ∧
    s.closed.windows = s.windows ∧ s.closed.probe = s.probe ∧ s.closed.timebase = s.timebase ∧
    s.closed.schedule = { s.schedule with points := List.replicate 8 none } ∧ s.closed.claims = s.claims ∧
    s.closed.thermal = s.thermal ∧ s.closed.picture = s.picture ∧ s.closed.panel = s.panel ∧
    s.closed.system = s.system ∧ s.closed.pending = s.pending ∧
    s.closed.pass = { s.pass with phase := .idle, emitted := List.replicate 8 false } ∧
    s.closed.counters.stale = s.counters.stale ∧ s.closed.counters.sectionsDropped = s.counters.sectionsDropped ∧
    s.closed.counters.overruns =
      (if s.pass.phase = .idle then s.counters.overruns else sat16 s.counters.overruns) := by
  have hpass : ∀ t : State, t.clearFrame.pass = { t.pass with emitted := List.replicate 8 false } := fun _ => rfl
  by_cases hp : s.pass.phase = .idle
  · simp [State.closed, State.overrun, hp, hpass, State.closeFrame]
  · simp [State.closed, State.overrun, hp, hpass, State.closeFrame, PassEngine.abandon]

/-- The report of a pass still in progress (R44, R45). -/
def State.overrunReports (s : State) : List ReportEntry :=
  if s.pass.phase = .idle then [] else [s.entry .pass .overrun .active]

theorem State.closed_books (s : State) : s.closed.books = s.overrunReports.foldl bookReport s.books := by
  have hclear : ∀ t : State, t.clearFrame.books = t.books := fun _ => rfl
  have hbooks : s.slewAll.closeFrame.books = s.books := by simp [State.books]
  have hphase : s.slewAll.closeFrame.pass.phase = s.pass.phase := by simp
  rw [State.closed, hclear, State.overrun, hphase, State.overrunReports]
  by_cases hp : s.pass.phase = .idle
  · simp [hp, hbooks]
  · simp only [hp, if_false, State.queueReport_books, List.foldl_cons, List.foldl_nil, ← hbooks]
    simp [State.entry, State.books]

/-- The report of a HOLD that ends by expiry (R71). -/
def State.holdReports (s : State) : List ReportEntry :=
  if s.schedule.holdExpires then [s.entry .panelPort .holdExpired .active] else []

theorem State.moveHold_schedule (s : State) : s.moveHold.schedule = s.schedule.moveHold := by
  unfold State.moveHold
  dsimp only
  split <;> simp

theorem State.moveHold_books (s : State) : s.moveHold.books = s.holdReports.foldl bookReport s.books := by
  unfold State.moveHold State.holdReports
  dsimp only
  split
  · rw [State.queueReport_books]
    rfl
  · rfl

theorem State.moveHold_port (s : State) :
    s.moveHold.port = if s.schedule.holdExpires then s.markHoldEnded.port else s.port := by
  unfold State.moveHold
  dsimp only
  split <;> simp [State.port, State.markHoldEnded, State.servePanel]

theorem State.moveHold_counters (s : State) :
    s.moveHold.counters.overruns = s.counters.overruns ∧ s.moveHold.counters.stale = s.counters.stale := by
  unfold State.moveHold
  dsimp only
  split <;> simp

theorem Schedule.holdExpires_iff (x : Schedule) :
    x.holdExpires = true ↔ x.hold = .inForce ∧ x.resumeMark = false ∧ x.holdMax ≤ x.holdCount + 1 := by
  simp [Schedule.holdExpires, and_assoc]

/-- Where the points of the groups stand does not bear on HOLD. -/
theorem Schedule.moveHold_points (x : Schedule) (ps : List (Option GroupPoint)) :
    ({ x with points := ps } : Schedule).moveHold = { x.moveHold with points := ps } := by
  unfold Schedule.moveHold
  dsimp only
  split
  · rfl
  · rfl
  · split
    · rfl
    · split <;> rfl

theorem Chain.recovered_eq (ch : Chain) (now : Nat) (cause : Cause) :
    ch.recovered now cause = { ch with
      state := if ch.attempts < 3 then .recovering else .failed
      wait := if ch.attempts < 3 then some (now + ms 1) else none
      cause := some cause
      attempt := none
      resend := none
      announce := true
      leftFrame := ch.leftFrame || decide (ch.state = .running)
      recoveries := sat16 ch.recoveries
      mirror := ch.mirror.map Mirror.unassign
      inflight := []
      staging := []
      latchSource := []
      direct := none
      poll := none
      settle := List.replicate 8 Settle.clear
      problem := false
      problemCount := 0
      pollDue := none
      runDue := none
      latched := false } := by
  have htwice : (ch.mirror.map Mirror.unassign).map Mirror.unassign = ch.mirror.map Mirror.unassign := by
    simp [Mirror.unassign]
  unfold Chain.recovered Chain.enterRecovering Chain.unassignAll Chain.discard
  split
  · simp
  · simp [htwice]

theorem Chain.oweLatch_eq (ch : Chain) (m : BitVec 8) :
    ch.oweLatch m = { ch with latchSource := if m ≠ 0 ∧ ch.state = .running ∧ ch.leftFrame = false then
      ch.latchSource ++ [⟨m, false⟩] else ch.latchSource } := by
  unfold Chain.oweLatch
  split <;> rfl

theorem State.closedChain_eq (s : State) (c : Nat) (ch : Chain) :
    s.closedChain c ch = { ch with
      applied := (s.slewed ch).applied
      latchSource := if s.committedMask c owedLatch ≠ 0 ∧ ch.state = .running ∧ ch.leftFrame = false then
        ch.latchSource ++ [⟨s.committedMask c owedLatch, false⟩] else ch.latchSource
      mirror := (ch.lateForAll (s.lateGroups c)).mirror
      staging := (ch.lateForAll (s.lateGroups c)).staging
      late := (ch.lateForAll (s.lateGroups c)).late
      settle := List.replicate 8 Settle.clear
      leftFrame := false } := by
  rw [State.closedChain, Chain.oweLatch_eq]
  rfl

/-! ## Chain engines as a pass is to begin -/

/-- Only a RUNNING chain has a problem mark. -/
theorem Chain.Sound.running_of_problem {ch : Chain} (h : ch.Sound) (hp : ch.problem = true) : ch.state = .running := by
  by_contra hr
  have hquiet := h.quiet hr
  simp [hp] at hquiet

theorem State.chain_sound {s : State} (h : ChainsSound s) {c : Nat} (hc : c < 8) : (s.chain c).Sound := by
  have hlen : c < s.chains.length := h.eight ▸ hc
  rw [s.chain_eq_getElem hlen]
  exact h.each _ (List.getElem_mem hlen)

theorem State.ready_chains {s : State} (h : s.chains.length = 8) :
    s.ready.chains = s.chains.mapIdx s.readyChain := by
  have hlen : s.closed.chains.length = 8 := by simp [s.closed_chains, h]
  have hnow : s.closed.now = s.now := by simp
  simp only [State.ready, State.enterService_frame, State.moveHold_frame, State.endPeriods_chains hlen, s.closed_chains,
    hnow, map_eq_mapIdx, List.mapIdx_mapIdx]
  rfl

theorem State.ready_chain {s : State} (h : s.chains.length = 8) {c : Nat} (hc : c < 8) :
    s.ready.chain c = s.readyChain c (s.chain c) := by
  rw [State.chain, State.ready_chains h]
  exact s.chain_mapIdx _ (h ▸ hc)

/-- A chain whose third problem frame this is has left RUNNING. -/
theorem State.readyChain_tripped (s : State) (c : Nat) {ch : Chain} (h : ch.tripped = true) :
    s.readyChain c ch = (s.closedChain c ch).recovered s.now .problemFrames := by
  obtain ⟨hp, hn⟩ := ch.tripped_iff.1 h
  rw [State.readyChain, Chain.periodEnded, s.closedChain_eq]
  simp [hp, hn]

/-- Any other chain has only its problem mark cleared and its problem frames counted. -/
theorem State.readyChain_untripped (s : State) (c : Nat) {ch : Chain} (h : ch.tripped = false) :
    s.readyChain c ch = { s.closedChain c ch with
      problem := false, problemCount := if ch.problem = true then ch.problemCount + 1 else 0 } := by
  rw [State.readyChain, Chain.periodEnded, s.closedChain_eq]
  cases hp : ch.problem with
  | false => simp
  | true =>
    have hn : ¬ 2 ≤ ch.problemCount := by simpa [Chain.tripped, hp] using h
    simp [hn]

theorem State.readyChain_state (s : State) (c : Nat) (ch : Chain) :
    (s.readyChain c ch).state =
      if ch.tripped = true then (if ch.attempts < 3 then .recovering else .failed) else ch.state := by
  cases h : ch.tripped with
  | true => rw [s.readyChain_tripped c h, Chain.recovered_eq, s.closedChain_eq]; rfl
  | false => rw [s.readyChain_untripped c h, s.closedChain_eq]; rfl

/-- No RUNNING chain has departed since the frame start. -/
theorem State.readyChain_leftFrame (s : State) (c : Nat) (ch : Chain) (hr : (s.readyChain c ch).state = .running) :
    (s.readyChain c ch).leftFrame = false := by
  rw [s.readyChain_state] at hr
  cases h : ch.tripped with
  | true =>
    rw [if_pos h] at hr
    split at hr <;> simp at hr
  | false => rw [s.readyChain_untripped c h, s.closedChain_eq]

theorem State.readyChain_enumerating (s : State) (c : Nat) {ch : Chain} (h : ch.Sound) :
    (s.readyChain c ch).state = .enumerating ↔ ch.state = .enumerating := by
  rw [s.readyChain_state]
  split
  next ht =>
    obtain ⟨hp, -⟩ := ch.tripped_iff.1 ht
    rw [h.running_of_problem hp]
    split <;> simp
  next => rfl

/-! ## The rest of the state as a pass is to begin -/

/-- A STARTING part without a chain ENUMERATING is to enter RUNNING (R185). -/
abbrev State.entersService (s : State) : Prop :=
  s.system.part = .starting ∧ ∀ ch ∈ s.chains, ch.state ≠ .enumerating

theorem State.enterService_eq (s : State) : s.enterService =
    { s with
      system := { s.system with part := if s.entersService then .running else s.system.part }
      pass := { s.pass with entryMark := if s.entersService then true else s.pass.entryMark } } := by
  have hall : (s.system.part = .starting ∧ s.chains.all (fun ch => decide (ch.state ≠ .enumerating)) = true) ↔
      s.entersService := by simp
  unfold State.enterService
  by_cases h : s.entersService
  · rw [if_pos (hall.2 h), if_pos h, if_pos h]
  · rw [if_neg (mt hall.1 h), if_neg h, if_neg h]

theorem State.ready_before_service {s : State} (h : ChainsSound s) :
    s.closed.endPeriods.moveHold.entersService ↔ s.entersService := by
  have hchains : s.closed.endPeriods.moveHold.chains = s.chains.mapIdx s.readyChain := by
    rw [← State.ready_chains h.eight]
    simp [State.ready]
  have hpart : s.closed.endPeriods.moveHold.system.part = s.system.part := by simp
  rw [State.entersService, hchains, hpart]
  refine and_congr Iff.rfl ?_
  rw [List.forall_mem_iff_getElem, List.forall_mem_iff_getElem]
  simp only [List.length_mapIdx, List.getElem_mapIdx]
  refine forall_congr' fun i => forall_congr' fun hi => not_congr ?_
  exact s.readyChain_enumerating i (h.each _ (List.getElem_mem hi))

theorem State.endPeriods_counters (s : State) : s.endPeriods.counters.overruns = s.counters.overruns ∧
    s.endPeriods.counters.stale = s.counters.stale ∧
    s.endPeriods.counters.sectionsDropped = s.counters.sectionsDropped := by
  simp [s.endPeriods_eq]

/-- What the blocks before the pass leave. -/
@[simp] theorem State.ready_frame (s : State) :
    s.ready.now = s.now ∧ s.ready.grid = s.grid ∧ s.ready.zones = s.zones ∧ s.ready.request = s.request ∧
    s.ready.windows = s.windows ∧ s.ready.probe = s.probe ∧ s.ready.timebase = s.timebase ∧
    s.ready.claims = s.claims ∧ s.ready.thermal = s.thermal ∧ s.ready.picture = s.picture ∧
    s.ready.pending = s.pending := by
  simp [State.ready]

theorem State.ready_schedule (s : State) :
    s.ready.schedule = { s.schedule.moveHold with points := List.replicate 8 none } := by
  simp [State.ready, State.moveHold_schedule, Schedule.moveHold_points]

theorem State.ready_counters (s : State) : s.ready.counters.stale = s.counters.stale ∧
    s.ready.counters.overruns =
      (if s.pass.phase = .idle then s.counters.overruns else sat16 s.counters.overruns) := by
  simp [State.ready, State.moveHold_counters, State.endPeriods_counters]

theorem State.ready_pass {s : State} (h : ChainsSound s) : s.ready.pass = { s.pass with
    phase := .idle
    emitted := List.replicate 8 false
    entryMark := if s.entersService then true else s.pass.entryMark } := by
  have hserve := State.ready_before_service h
  rw [State.ready, State.enterService_eq]
  simp only [hserve]
  simp

theorem State.ready_system {s : State} (h : ChainsSound s) :
    s.ready.system.part = (if s.entersService then .running else s.system.part) ∧
    s.ready.system.pollInterval = s.system.pollInterval := by
  have hserve := State.ready_before_service h
  rw [State.ready, State.enterService_eq]
  simp only [hserve]
  simp

end Sys2Proof.Machine

namespace Sys2Proof.Machine

/-! # The reports of a frame start, and the beginning of its pass (R15, R28, R63) -/

/-! ## Reports, notice and response as a pass is to begin -/

/-- The closing of the previous frame touches neither problem mark nor attempt count nor DIRECT command of a chain. -/
theorem State.closed_chain_same (s : State) (c : Nat) :
    (s.closed.chain c).tripped = (s.chain c).tripped ∧ (s.closed.chain c).attempts = (s.chain c).attempts ∧
      (s.closed.chain c).directOutstanding = (s.chain c).directOutstanding := by
  rw [State.chain, s.closed_chains]
  by_cases hc : c < s.chains.length
  · rw [State.chain_mapIdx _ _ hc, s.closedChain_eq]
    exact ⟨rfl, rfl, rfl⟩
  · simp [State.chain, hc]

/-- The reports of a frame start, in order (R45, R121, R71). -/
def State.frameReports (s : State) : List ReportEntry :=
  s.overrunReports ++ ((List.range 8).filter fun c => (s.chain c).tripped).map (fun c =>
    s.recoveryEntry c .problemFrames) ++ s.holdReports

theorem State.ready_books (s : State) : s.ready.books = s.frameReports.foldl bookReport s.books := by
  have hservice : s.ready.books = s.closed.endPeriods.moveHold.books := by simp [State.ready, State.books]
  have hhold : s.closed.endPeriods.holdReports = s.holdReports := by
    simp [State.holdReports, Schedule.holdExpires, State.entry]
  have hentry : ∀ c, s.closed.recoveryEntry c .problemFrames = s.recoveryEntry c .problemFrames := by
    simp [State.recoveryEntry, State.entry, State.closed_chain_same]
  rw [hservice, State.moveHold_books, hhold, State.endPeriods_eq, State.periodsEnded_books, State.closed_books,
    State.frameReports, List.foldl_append, List.foldl_append]
  simp only [hentry, State.closed_chain_same]

theorem State.ready_port (s : State) :
    s.ready.port = if s.schedule.holdExpires then s.markHoldEnded.port else s.port := by
  have hservice : s.ready.port = s.closed.endPeriods.moveHold.port := by simp [State.ready, State.port]
  have hexp : s.closed.endPeriods.schedule.holdExpires = s.schedule.holdExpires := by
    simp [Schedule.holdExpires]
  rw [hservice, State.moveHold_port, hexp]
  simp [State.port, State.markHoldEnded, State.servePanel, State.endPeriods_counters]

theorem State.ready_response (s : State) :
    (s.answerDropped 8 → s.ready.system.response =
      ⟨true, s.system.response.command, some .linkError, .none, none⟩) ∧
    (¬ s.answerDropped 8 → s.ready.system.response = s.system.response) := by
  have hservice : s.ready.system.response = s.closed.endPeriods.system.response := by
    rw [State.ready, State.enterService_eq]
    simp
  have hsys : s.closed.system = s.system := by simp
  have hdropped : s.closed.answerDropped 8 ↔ s.answerDropped 8 := by
    simp [State.answerDropped, State.closed_chain_same]
  have hresponse := s.closed.periodsEnded_response 8
  rwa [hdropped, hsys, ← State.endPeriods_eq, ← hservice] at hresponse

/-! ## The beginning of a pass (R15, R28, R63) -/

/-- The state with the inputs of a pass sampled and the points of the frame laid out, none yet reached. -/
def State.laid (s : State) : State :=
  { s with
    request := { s.request with slot := none, current := s.request.slot.getD s.request.current }
    counters := { s.counters with
      stale := if s.request.slot = none then sat16 s.counters.stale else s.counters.stale }
    zones := s.zones.map Zone.beginPass
    windows := markSampled s.windows
    pass := { s.pass with
      phase := .composing
      sample := s.takeSlot.takeSample s.request.slot.isSome
      work := List.replicate s.grid.count ⟨0, 0, 0, 0⟩
      power := 0
      blocks := 0 }
    schedule := { s.schedule with points := s.layPoints } }

/-- The groups whose computed commit points lie at or before the frame start (R63). -/
def State.startGroups (s : State) : List Nat := s.laid.commitsAt s.timebase.lastStart

theorem State.takeSlot_eq (s : State) : s.takeSlot = { s with
    request := { s.request with slot := none, current := s.request.slot.getD s.request.current }
    counters := { s.counters with
      stale := if s.request.slot = none then sat16 s.counters.stale else s.counters.stale } } := by
  cases h : s.request.slot with
  | none =>
    have hrequest : { s.request with slot := none, current := s.request.current } = s.request := by rw [← h]
    simp [State.takeSlot, State.count, h, hrequest]
  | some x => simp [State.takeSlot, h]

theorem State.beginPass_eq (s : State) : s.beginPass = s.laid.commitGroups s.startGroups := by
  simp only [State.beginPass, State.startGroups, State.laid, State.takeSlot_eq]
  rfl

/-- A state that a pass may begin from: eight chains, no group emitted, no RUNNING chain departed since the frame
start. -/
structure State.Quiet (s : State) : Prop where
  eight : s.chains.length = 8
  unemitted : ∀ k, s.emittedMark k = false
  present : ∀ c, (s.chain c).state = .running → (s.chain c).leftFrame = false

/-! ## What a pass samples (R11, R28) -/

theorem State.laid_sampledZone (s : State) {i : Nat} (hi : i < s.zones.length) :
    s.laid.sampledZone i = s.sampleZone (s.zone i) := by
  simp [State.sampledZone, State.laid, State.takeSample, State.zone, hi, State.sampleZone, State.zoneState,
    State.running, State.chain]

theorem State.laid_sampledZone_beyond (s : State) {i : Nat} (hi : s.zones.length ≤ i) :
    (s.laid.sampledZone i).state = .unmapped := by
  simp [State.sampledZone, State.laid, State.takeSample, hi]

theorem State.laid_sampledChain (s : State) {c : Nat} (hc : c < s.chains.length) :
    s.laid.sampledChain c = s.sampleChain c (s.chain c) := by
  simp [State.sampledChain, State.laid, State.takeSample, State.sampleChain, State.chain, hc]

theorem State.Quiet.laid_servesFrame {s : State} (h : s.Quiet) {c : Nat} (hc : c < 8) :
    s.laid.servesFrame c = true ↔ (s.chain c).state = .running := by
  have hlen : c < s.chains.length := h.eight ▸ hc
  have hpresent := h.present c
  have hchain : s.laid.chain c = s.chain c := rfl
  simp only [State.servesFrame, State.running, hchain, s.laid_sampledChain hlen, State.sampleChain, Bool.and_eq_true,
    decide_eq_true_eq, Bool.not_eq_true']
  tauto

/-- The outcome of a group whose commit point is reached as the frame starts. -/
theorem State.Quiet.laid_outcome {s : State} (h : s.Quiet) (k : Nat) {c : Nat} (hc : c < 8) :
    outcomeOf (s.laid.outcomes k) c = if (s.laid.sampledChain c).carries.getLsbD k = false then .notCarried
      else if (s.chain c).state = .running then .late else .absent := by
  rw [State.outcomeOf_outcomes _ k hc, State.outcomeFor_unemitted (s := s.laid) (h.unemitted k)]
  exact if_congr Iff.rfl rfl (if_congr (h.laid_servesFrame hc) rfl rfl)

/-! ## The points of the frame (R63) -/

theorem State.laid_point (s : State) {k : Nat} (hk : k < 8) :
    s.laid.point k = if k < s.schedule.groups ∧ s.grid.rowsOf s.schedule.groups k ≠ [] then
      some (layPoint s.timebase.lastStart (s.schedule.offsets.getD k 0) s.timebase.predicted s.schedule.lead)
    else none := by
  simp [State.point, State.laid, State.layPoints, hk]

/-- A commit point stands at the frame start if its computed moment is not after it. -/
theorem layPoint_commitAt_iff (start offset predicted lead : Nat) :
    (layPoint start offset predicted lead).commitAt = start ↔ offset * predicted / 1024 ≤ lead := by
  simp only [layPoint, us]
  omega

theorem State.mem_startGroups_iff (s : State) (k : Nat) :
    k ∈ s.startGroups ↔ k < 8 ∧ (k < s.schedule.groups ∧ s.grid.rowsOf s.schedule.groups k ≠ []) ∧
      s.schedule.offsets.getD k 0 * s.timebase.predicted / 1024 ≤ s.schedule.lead := by
  rw [State.startGroups, State.commitsAt, List.mem_filter, List.mem_range]
  refine and_congr_right fun hk => ?_
  rw [s.laid_point hk]
  by_cases hg : k < s.schedule.groups ∧ s.grid.rowsOf s.schedule.groups k ≠ []
  · rw [if_pos hg, ← layPoint_commitAt_iff s.timebase.lastStart]
    simp only [layPoint, Bool.not_false, Bool.true_and]
    exact decide_eq_true_iff.trans (and_iff_right hg).symm
  · simp [hg]

theorem State.layPoints_length (s : State) : s.layPoints.length = 8 := by simp [State.layPoints]

/-! ## What the beginning of a pass writes -/

/-- The groups that chain `c` is LATE for as its frame starts. -/
def State.startLate (s : State) (c : Nat) : List Nat := s.laid.lateOf s.startGroups c

theorem State.Quiet.beginPass_zones {s : State} (h : s.Quiet) : s.beginPass.zones = s.zones.map Zone.beginPass := by
  obtain ⟨hzones, -⟩ := s.laid.commitGroups_unemitted s.startGroups h.unemitted
  rw [s.beginPass_eq]
  exact hzones

theorem State.Quiet.beginPass_schedule {s : State} (h : s.Quiet) : s.beginPass.schedule = { s.schedule with
    points := s.startGroups.foldl (fun l k => l.modify k (s.laid.reach k)) s.layPoints } := by
  obtain ⟨-, hschedule, -⟩ := s.laid.commitGroups_unemitted s.startGroups h.unemitted
  rw [s.beginPass_eq]
  exact hschedule

theorem State.Quiet.beginPass_chains {s : State} (h : s.Quiet) :
    s.beginPass.chains = s.chains.mapIdx fun c ch => ch.lateForAll (s.startLate c) := by
  obtain ⟨-, -, hchains, -⟩ := s.laid.commitGroups_unemitted s.startGroups h.unemitted
  rw [s.beginPass_eq]
  exact hchains

theorem State.Quiet.beginPass_port {s : State} (h : s.Quiet) :
    s.beginPass.port = (s.startGroups.map s.laid.sectionOf).foldl (queueAt s.now) s.port := by
  obtain ⟨-, -, -, hport, -⟩ := s.laid.commitGroups_unemitted s.startGroups h.unemitted
  rw [s.beginPass_eq]
  exact hport

theorem State.Quiet.beginPass_counters {s : State} (h : s.Quiet) :
    s.beginPass.counters.overruns = s.counters.overruns ∧
    s.beginPass.counters.stale = (if s.request.slot = none then sat16 s.counters.stale else s.counters.stale) ∧
    s.beginPass.counters.reportsLost = s.counters.reportsLost := by
  obtain ⟨-, -, -, -, hcounters⟩ := s.laid.commitGroups_unemitted s.startGroups h.unemitted
  rw [s.beginPass_eq]
  exact hcounters

theorem State.beginPass_rest (s : State) : s.beginPass.request = s.laid.request ∧
    s.beginPass.windows = markSampled s.windows ∧ s.beginPass.pass = s.laid.pass := by
  rw [s.beginPass_eq]
  simp [State.laid]

theorem State.Quiet.beginPass_chain {s : State} (h : s.Quiet) {c : Nat} (hc : c < 8) :
    s.beginPass.chain c = (s.chain c).lateForAll (s.startLate c) := by
  rw [State.chain, h.beginPass_chains]
  exact s.chain_mapIdx _ (h.eight ▸ hc)

/-- The point of a group as the pass has begun. -/
theorem State.Quiet.beginPass_point {s : State} (h : s.Quiet) {k : Nat} (hk : k < 8) :
    s.beginPass.point k = if k ∈ s.startGroups then s.laid.reach k (s.laid.point k) else s.laid.point k := by
  rw [State.point, h.beginPass_schedule]
  refine foldl_modify_getD s.laid.reach (fun j p => ?_) none s.startGroups s.layPoints (s.layPoints_length ▸ hk)
  cases p <;> rfl

/-- The commit point of the group is reached. -/
def State.reached (s : State) (k : Nat) : Bool := match s.point k with | some q => q.reached | none => false

/-- A group is reached as the pass begins if its commit point is at or before the frame start. -/
theorem State.Quiet.beginPass_reached {s : State} (h : s.Quiet) {k : Nat} (hk : k < 8) :
    s.beginPass.reached k = decide (k ∈ s.startGroups) := by
  rw [State.reached, h.beginPass_point hk]
  by_cases hm : k ∈ s.startGroups
  · obtain ⟨-, hg, -⟩ := (s.mem_startGroups_iff k).1 hm
    rw [if_pos hm, s.laid_point hk, if_pos hg]
    simp [State.reach, hm]
  · rw [if_neg hm, s.laid_point hk]
    by_cases hg : k < s.schedule.groups ∧ s.grid.rowsOf s.schedule.groups k ≠ []
    · rw [if_pos hg]
      simp [layPoint, hm]
    · rw [if_neg hg]
      simp [hm]

theorem State.startGroups_eq (s : State) :
    s.startGroups = (List.range 8).filter fun j => decide (j ∈ s.startGroups) := by
  conv_lhs => rw [State.startGroups, State.commitsAt]
  refine List.filter_congr fun j hj => ?_
  rw [Bool.eq_iff_iff, decide_eq_true_eq, State.startGroups, State.commitsAt, List.mem_filter]
  exact (and_iff_right hj).symm

theorem State.Quiet.startLate_eq {s : State} (h : s.Quiet) {c : Nat} (hc : c < 8) :
    s.startLate c = (List.range 8).filter fun j => (s.laid.sampledChain c).carries.getLsbD j &&
      decide ((s.chain c).state = .running) && s.beginPass.reached j := by
  rw [State.startLate, State.lateOf]
  conv_lhs => rw [s.startGroups_eq, List.filter_filter]
  refine List.filter_congr fun j hj => ?_
  rw [h.beginPass_reached (List.mem_range.1 hj), h.laid_outcome j hc]
  by_cases hr : (s.chain c).state = .running <;> cases (s.laid.sampledChain c).carries.getLsbD j <;> simp [hr]

end Sys2Proof.Machine

namespace Sys2Proof.Machine

/-! # The delivery of a frame start as a whole (R52)

One account for each part of the state once the lines are served; the obligation is assembled from them. -/

/-! ## Chain engines once the frame start is delivered -/

theorem Chain.serve_state (ch : Chain) (now : Nat) : (ch.serve now).state = ch.state := by
  rcases ch.serve_cases now with h | ⟨x, retry, rest, -, -, h, ⟨-, hp⟩ | ⟨-, -, -, rfl⟩⟩
  · rw [h]
  · rw [h]
    rcases ch.pick_cases x retry rest hp with ⟨_, _, _, _, _, rfl⟩ | ⟨_, _, _, _, rfl⟩ | ⟨_, _, _, _, rfl⟩ |
      ⟨_, _, _, _, _, _, _, rfl⟩ <;> rfl
  · rw [h]
    rfl

theorem Chain.serve_applied (ch : Chain) (now : Nat) : (ch.serve now).applied = ch.applied :=
  congrArg Prod.fst (ch.serve_tally now)

theorem State.ready_quiet {s : State} (h : ChainsSound s) : s.ready.Quiet := by
  refine ⟨by simp [State.ready_chains h.eight, h.eight], fun k => ?_, fun c hr => ?_⟩
  · rw [State.emittedMark, State.ready_pass h]
    exact getD_all (p := (· = false)) _ k _ (fun x hx => List.eq_of_mem_replicate hx) rfl
  · by_cases hc : c < 8
    · rw [State.ready_chain h.eight hc] at hr ⊢
      exact s.readyChain_leftFrame c _ hr
    · simp [State.chain, State.ready_chains h.eight, h.eight, hc, Chain.powerOn]

/-- A pass begins with this frame start (R25). -/
abbrev State.passBegins (s : State) : Prop := s.ready.system.part = .running ∧ s.ready.schedule.hold ≠ .inForce

/-- The groups that chain `c` is LATE for at once. -/
def State.begunLate (s : State) (c : Nat) : List Nat := if s.passBegins then s.ready.startLate c else []

theorem State.maybePass_chain {s : State} (h : ChainsSound s) {c : Nat} (hc : c < 8) :
    s.ready.maybePass.chain c = (s.readyChain c (s.chain c)).lateForAll (s.begunLate c) := by
  rw [State.maybePass, State.begunLate, ← State.ready_chain h.eight hc]
  by_cases hb : s.passBegins
  · rw [if_pos hb, if_pos hb]
    exact (State.ready_quiet h).beginPass_chain hc
  · rw [if_neg hb, if_neg hb, Chain.lateForAll_nil]

theorem State.deliverFrame_chains_length {s : State} (h : ChainsSound s) : s.deliverFrame.chains.length = 8 := by
  have hq := State.ready_quiet h
  rw [s.deliverFrame_eq]
  simp only [State.serveAll, State.mapChains_chains, List.length_map, State.maybePass]
  split
  · simp [hq.beginPass_chains, hq.eight]
  · exact hq.eight

theorem State.deliverFrame_chain {s : State} (h : ChainsSound s) {c : Nat} (hc : c < 8) :
    s.deliverFrame.chain c = ((s.readyChain c (s.chain c)).lateForAll (s.begunLate c)).serve s.now := by
  have hlen := State.deliverFrame_chains_length h
  have hnow : s.ready.maybePass.now = s.now := by simp
  rw [s.deliverFrame_eq] at hlen ⊢
  rw [← State.maybePass_chain h hc, State.chain]
  simp only [State.serveAll, State.mapChains_chains, List.length_map, hnow] at hlen ⊢
  simp [State.chain, hlen, hc]

theorem State.deliverFrame_chain_state {s : State} (h : ChainsSound s) {c : Nat} (hc : c < 8) :
    (s.deliverFrame.chain c).state = (s.ready.chain c).state := by
  rw [State.deliverFrame_chain h hc, Chain.serve_state, State.ready_chain h.eight hc]
  rfl

/-- The applied factor has moved toward its target (R158), and nothing else has moved it. -/
theorem State.deliverFrame_chain_applied {s : State} (h : ChainsSound s) {c : Nat} (hc : c < 8) :
    (s.deliverFrame.chain c).applied = (s.slewed (s.chain c)).applied := by
  rw [State.deliverFrame_chain h hc, Chain.serve_applied]
  show (s.readyChain c (s.chain c)).applied = _
  cases ht : (s.chain c).tripped with
  | true => rw [s.readyChain_tripped c ht, Chain.recovered_eq, s.closedChain_eq]
  | false => rw [s.readyChain_untripped c ht, s.closedChain_eq]

theorem State.serveAll_point (s : State) (k : Nat) : s.serveAll.point k = s.point k := rfl

theorem State.serveAll_sampledChain (s : State) (c : Nat) : s.serveAll.sampledChain c = s.sampledChain c := rfl

theorem State.deliverFrame_point (s : State) (k : Nat) : s.deliverFrame.point k = s.ready.maybePass.point k := by
  rw [s.deliverFrame_eq, State.serveAll_point]

theorem State.deliverFrame_reached (s : State) (k : Nat) : s.deliverFrame.reached k = s.ready.maybePass.reached k := by
  rw [State.reached, s.deliverFrame_point, State.reached]

theorem State.deliverFrame_sampledChain (s : State) (c : Nat) :
    s.deliverFrame.sampledChain c = s.ready.maybePass.sampledChain c := by
  rw [s.deliverFrame_eq, State.serveAll_sampledChain]

/-- With no pass begun the frame has no points. -/
theorem State.deliverFrame_point_idle {s : State} (hb : ¬ s.passBegins) (k : Nat) :
    s.deliverFrame.point k = none := by
  rw [s.deliverFrame_point, State.maybePass, if_neg hb, State.point, s.ready_schedule]
  exact getD_all (p := (· = none)) _ k _ (fun x hx => List.eq_of_mem_replicate hx) rfl

theorem State.begunLate_eq {s : State} (h : ChainsSound s) {c : Nat} (hc : c < 8) :
    s.begunLate c = (List.range 8).filter fun j => (s.deliverFrame.sampledChain c).carries.getLsbD j &&
      decide ((s.deliverFrame.chain c).state = .running) && s.deliverFrame.reached j := by
  have hq := State.ready_quiet h
  rw [State.begunLate, State.deliverFrame_chain_state h hc]
  by_cases hb : s.passBegins
  · have hpass : s.ready.maybePass = s.ready.beginPass := if_pos hb
    have hsampled : s.ready.beginPass.sampledChain c = s.ready.laid.sampledChain c := by
      simp only [State.sampledChain, s.ready.beginPass_rest]
    simp only [State.deliverFrame_reached, State.deliverFrame_sampledChain, hpass, hsampled]
    rw [if_pos hb, hq.startLate_eq hc]
  · rw [if_neg hb]
    simp [State.reached, State.deliverFrame_point_idle hb]

theorem Chain.lateForAll_mirror_length (ch : Chain) (ks : List Nat) :
    (ch.lateForAll ks).mirror.length = ch.mirror.length := by simp [Chain.lateForAll]

/-- A discarded retry leaves its record unknown (R65, R98). -/
theorem Chain.lateForAll_mirror_getD (ch : Chain) (ks : List Nat) {a : Nat} (ha : a < ch.mirror.length) :
    (ch.lateForAll ks).mirror.getD a Mirror.powerOn = { ch.record a with
      known := (ch.record a).known && !retryWaits ch.staging ks a } := by
  simp [Chain.lateForAll, Chain.record, ha]

/-- What a LATE outcome writes depends on nothing but the mirror, the staging queue and the counter. -/
theorem Chain.lateForAll_of_same {x y : Chain} (ks : List Nat) (hm : x.mirror = y.mirror) (hs : x.staging = y.staging)
    (hl : x.late = y.late) : x.lateForAll ks = { x with
      mirror := (y.lateForAll ks).mirror
      staging := (y.lateForAll ks).staging
      late := (y.lateForAll ks).late } := by
  simp [Chain.lateForAll, hm, hs, hl]

/-- The groups that chain `c` has been LATE for: of the previous frame, then of this one. -/
def State.lateInAll (s : State) (c : Nat) : List Nat := s.lateGroups c ++ s.begunLate c

theorem State.delivered_untripped (s : State) (c : Nat) {ch : Chain} (h : ch.tripped = false) :
    (s.readyChain c ch).lateForAll (s.begunLate c) = { ch with
      applied := (s.slewed ch).applied
      latchSource := if s.committedMask c owedLatch ≠ 0 ∧ ch.state = .running ∧ ch.leftFrame = false then
        ch.latchSource ++ [⟨s.committedMask c owedLatch, false⟩] else ch.latchSource
      staging := (ch.lateForAll (s.lateInAll c)).staging
      late := (ch.lateForAll (s.lateInAll c)).late
      mirror := (ch.lateForAll (s.lateInAll c)).mirror
      settle := List.replicate 8 Settle.clear
      leftFrame := false
      problem := false
      problemCount := if ch.problem = true then ch.problemCount + 1 else 0 } := by
  rw [s.readyChain_untripped c h, s.closedChain_eq, State.lateInAll, ← Chain.lateForAll_append,
    Chain.lateForAll_of_same (y := ch.lateForAll (s.lateGroups c)) (s.begunLate c)]
  all_goals rfl

/-- A chain that has left RUNNING serves no group of the frame that begins. -/
theorem State.begunLate_tripped {s : State} (h : ChainsSound s) {c : Nat} (hc : c < 8)
    (ht : (s.chain c).tripped = true) : s.begunLate c = [] := by
  have hr : (s.deliverFrame.chain c).state ≠ .running := by
    rw [State.deliverFrame_chain_state h hc, State.ready_chain h.eight hc, s.readyChain_state, if_pos ht]
    split <;> simp
  rw [State.begunLate_eq h hc]
  simp [hr]

theorem State.deliverFrame_chain_tripped {s : State} (h : ChainsSound s) {c : Nat} (hc : c < 8)
    (ht : (s.chain c).tripped = true) :
    s.deliverFrame.chain c = ((s.closedChain c (s.chain c)).recovered s.now .problemFrames) := by
  rw [State.deliverFrame_chain h hc, State.begunLate_tripped h hc ht, Chain.lateForAll_nil, s.readyChain_tripped c ht]
  refine Chain.serve_idle _ _ ?_ ?_
  · rw [Chain.recovered_eq]
    dsimp only
    split <;> simp
  · rw [Chain.recovered_eq]

theorem Chain.lateForAll_unassign (ch : Chain) (ks : List Nat) :
    (ch.lateForAll ks).mirror.map Mirror.unassign = ch.mirror.map Mirror.unassign :=
  List.ext_getElem (by simp [Chain.lateForAll]) (by simp [Chain.lateForAll, Mirror.unassign])

/-- Chain `c`'s engine once its third problem frame has taken it out of RUNNING (R103, R121). -/
def State.droppedChain (s : State) (c : Nat) : Chain :=
  { s.chain c with
    state := if (s.chain c).attempts < 3 then .recovering else .failed
    wait := if (s.chain c).attempts < 3 then some (s.now + ms 1) else none
    cause := some .problemFrames
    attempt := none
    resend := none
    announce := true
    leftFrame := true
    recoveries := sat16 (s.chain c).recoveries
    mirror := (s.chain c).mirror.map Mirror.unassign
    inflight := []
    staging := []
    latchSource := []
    direct := none
    poll := none
    settle := List.replicate 8 Settle.clear
    problem := false
    problemCount := 0
    pollDue := none
    runDue := none
    latched := false
    applied := (s.slewed (s.chain c)).applied
    late := ((s.chain c).lateForAll (s.lateInAll c)).late }

theorem State.delivered_tripped {s : State} (h : ChainsSound s) {c : Nat} (hc : c < 8)
    (ht : (s.chain c).tripped = true) : s.deliverFrame.chain c = s.droppedChain c := by
  obtain ⟨hp, -⟩ := (Chain.tripped_iff _).1 ht
  have hrunning := (State.chain_sound h hc).running_of_problem hp
  rw [State.deliverFrame_chain_tripped h hc ht, Chain.recovered_eq, s.closedChain_eq]
  simp only [State.droppedChain, State.lateInAll, State.begunLate_tripped h hc ht, List.append_nil, hrunning,
    Chain.lateForAll_unassign, decide_true, Bool.or_true]

theorem State.slewed_target (s : State) (hd : DerateSound s) (ch : Chain) :
    ∃ h, DerateTarget s.thermal ch.sensor (∃ m ∈ ch.mirror, m.assigned = true ∧ m.hot = true) h ∧
      (s.slewed ch).applied = if s.thermal.converting = true ∧ s.system.part ≠ .config then
          (if ch.applied < h then min (ch.applied + 8) h else max (ch.applied - 8) h) else ch.applied :=
  ⟨_, targetFactor_spec hd.params ch, rfl⟩

/-! ## The light sections of a frame start (R66, R177) -/

/-- The point of a group taken at once stands reached, with its outcomes. -/
theorem State.Quiet.beginPass_point_reached {s : State} (h : s.Quiet) {k : Nat} (hk : k ∈ s.startGroups) :
    s.beginPass.point k = some { layPoint s.timebase.lastStart (s.schedule.offsets.getD k 0) s.timebase.predicted
      s.schedule.lead with reached := true, outcomes := s.laid.outcomes k } := by
  obtain ⟨h8, hg, -⟩ := (s.mem_startGroups_iff k).1 hk
  rw [h.beginPass_point h8, if_pos hk, s.laid_point h8, if_pos hg]
  rfl

theorem State.zoneState_lit {s : State} {z : Zone} (h : s.zoneState z = .lit) :
    ∃ x, z.channel = some x ∧ (s.chain x.chain).state = .running ∧ s.claims.any = false := by
  rw [s.zoneState_eq] at h
  cases hx : z.channel with
  | none => simp [hx] at h
  | some x =>
    refine ⟨x, rfl, ?_⟩
    rw [← Bool.not_eq_true, Claims.any_iff]
    by_cases hf : z.fault = .none <;> by_cases hr : (s.chain x.chain).state = .running <;> simp_all

/-- The chain of a zone that is LIT is RUNNING, so that it is not ABSENT. -/
theorem State.Quiet.lit_not_absent {s : State} (h : s.Quiet) (k : Nat) {z : Zone} {x : Channel}
    (hx : z.channel = some x) (hr : (s.chain x.chain).state = .running) :
    zoneOutcome (s.laid.outcomes k) (s.sampleZone z) ≠ .absent := by
  have hout : zoneOutcome (s.laid.outcomes k) (s.sampleZone z) = outcomeOf (s.laid.outcomes k) x.chain := by
    simp [zoneOutcome, State.sampleZone, hx]
  rw [hout]
  by_cases hc : x.chain < 8
  · rw [h.laid_outcome k hc, if_pos hr]
    split <;> simp
  · simp [outcomeOf, State.outcomes, hc]

/-- A zone shows its level in its section if it is LIT (R66). -/
theorem State.Quiet.section_value {s : State} (h : s.Quiet) (k i : Nat) :
    sectionValue (s.laid.outcomes k) s.claims.any (s.laid.sampledZone i) (s.laid.zone i).shown =
      if (s.laid.sampledZone i).state = .lit then (s.zone i).shown else 0 := by
  by_cases hlit : (s.laid.sampledZone i).state = .lit
  · by_cases hi : i < s.zones.length
    · have hshown : (s.laid.zone i).shown = (s.zone i).shown := by simp [State.zone, State.laid, hi, Zone.beginPass]
      rw [if_pos hlit, hshown]
      rw [s.laid_sampledZone hi] at hlit ⊢
      obtain ⟨x, hx, hr, hclaims⟩ := State.zoneState_lit hlit
      refine if_neg ?_
      rw [hclaims, hlit]
      simpa using h.lit_not_absent k hx hr
    · rw [s.laid_sampledZone_beyond (Nat.le_of_not_lt hi)] at hlit
      exact absurd hlit (by decide)
  · rw [if_neg hlit, sectionValue, if_pos (Or.inl hlit)]

theorem State.Quiet.section_lateMask {s : State} (h : s.Quiet) {k c : Nat} (hk : k ∈ s.startGroups) (hc : c < 8) :
    (s.laid.sectionOf k).lateMask.getLsbD c = true ↔ ∃ q, s.beginPass.point k = some q ∧
      (q.outcomes.getD c .notCarried = .late ∨ q.outcomes.getD c .notCarried = .absent) := by
  have hne : outcomeOf (s.laid.outcomes k) c ≠ .committed :=
    State.outcomeOf_ne_committed (s := s.laid) (h.unemitted k) c
  rw [h.beginPass_point_reached hk]
  simp only [Option.some.injEq, exists_eq_left']
  refine (lateMask_iff _ _ hc).trans ?_
  simp only [hne, false_and, or_false]
  rfl

/-- The light sections that a frame start queues. -/
def State.frameSections (s : State) : List LightSection :=
  if s.passBegins then s.ready.startGroups.map s.ready.laid.sectionOf else []

theorem State.serveAll_port (s : State) : s.serveAll.port = s.port := rfl

theorem State.frameSections_port {s : State} (h : ChainsSound s) :
    s.deliverFrame.port = s.frameSections.foldl (queueAt s.now) s.ready.port := by
  have hport : s.deliverFrame.port = s.ready.maybePass.port := by rw [s.deliverFrame_eq, State.serveAll_port]
  have hnow : s.ready.now = s.now := by simp
  rw [hport, State.maybePass, State.frameSections]
  by_cases hb : s.passBegins
  · rw [if_pos hb, if_pos hb, (State.ready_quiet h).beginPass_port, hnow]
  · rw [if_neg hb, if_neg hb, List.foldl_nil]

/-- The light sections join the panel line behind the HOLD ENDED notice, where HOLD ends by expiry (R177, R178). -/
theorem State.deliverFrame_port {s x : State} (h : ChainsSound s)
    (hx : x = if s.schedule.holdExpires then s.markHoldEnded else s) :
    s.deliverFrame.port = (s.frameSections.foldl State.queueSection x).port := by
  have hready : s.ready.port = x.port := by rw [s.ready_port, hx, apply_ite State.port]
  have hnow : x.now = s.now := by
    rw [hx, apply_ite State.now]
    simp
  rw [State.foldl_queueSection_port, State.frameSections_port h, hready, hnow]

theorem State.frameSections_groups {s : State} (h : ChainsSound s) :
    s.frameSections.map LightSection.group = (List.range 8).filter s.deliverFrame.reached := by
  have hq := State.ready_quiet h
  rw [State.frameSections]
  by_cases hb : s.passBegins
  · have hpass : s.ready.maybePass = s.ready.beginPass := if_pos hb
    rw [if_pos hb, funext s.deliverFrame_reached, hpass, List.map_map]
    have hgroup : LightSection.group ∘ s.ready.laid.sectionOf = id := rfl
    rw [hgroup, List.map_id]
    conv_lhs => rw [State.startGroups_eq]
    exact List.filter_congr fun j hj => (hq.beginPass_reached (List.mem_range.1 hj)).symm
  · rw [if_neg hb]
    simp [State.reached, State.deliverFrame_point_idle hb]

/-! ## The state once the frame start is delivered -/

/-- Serving the lines changes the chain engines alone. -/
theorem State.serveAll_rest (s : State) : s.serveAll.zones = s.zones ∧ s.serveAll.request = s.request ∧
    s.serveAll.windows = s.windows ∧ s.serveAll.pass = s.pass ∧ s.serveAll.schedule = s.schedule ∧
    s.serveAll.system = s.system ∧ s.serveAll.counters = s.counters ∧ s.serveAll.reports = s.reports ∧
    s.serveAll.panel = s.panel := by
  simp [State.serveAll]

theorem State.deliverFrame_idle {s : State} (hb : ¬ s.passBegins) : s.deliverFrame = s.ready.serveAll := by
  rw [s.deliverFrame_eq, State.maybePass, if_neg hb]

theorem State.deliverFrame_begun {s : State} (hb : s.passBegins) : s.deliverFrame = s.ready.beginPass.serveAll := by
  rw [s.deliverFrame_eq, State.maybePass, if_pos hb]

/-- What HOLD becomes at a frame start (R71). -/
theorem Schedule.moveHold_fields (x : Schedule) :
    x.moveHold.groups = x.groups ∧ x.moveHold.offsets = x.offsets ∧ x.moveHold.lead = x.lead ∧
    x.moveHold.holdMax = x.holdMax ∧
    x.moveHold.resumeMark = (if x.hold = .inForce then false else x.resumeMark) ∧
    x.moveHold.holdCount = (match x.hold with
      | .none => x.holdCount
      | .pending => 0
      | .inForce => if x.resumeMark = true then x.holdCount
        else if x.holdMax ≤ x.holdCount + 1 then 0
        else x.holdCount + 1) ∧
    x.moveHold.hold = (match x.hold with
      | .none => .none
      | .pending => .inForce
      | .inForce => if x.resumeMark = true ∨ x.holdMax ≤ x.holdCount + 1 then .none else .inForce) := by
  cases hh : x.hold with
  | none => simp [Schedule.moveHold, hh]
  | pending => simp [Schedule.moveHold, hh]
  | inForce =>
    cases hr : x.resumeMark with
    | true => simp [Schedule.moveHold, hh, hr]
    | false => by_cases hm : x.holdMax ≤ x.holdCount + 1 <;> simp [Schedule.moveHold, hh, hr, hm]

theorem State.deliverFrame_schedule {s : State} (h : ChainsSound s) :
    ∃ ps, s.deliverFrame.schedule = { s.schedule.moveHold with points := ps } := by
  by_cases hb : s.passBegins
  · rw [State.deliverFrame_begun hb]
    simp only [State.serveAll_rest, (State.ready_quiet h).beginPass_schedule, s.ready_schedule]
    exact ⟨_, rfl⟩
  · rw [State.deliverFrame_idle hb]
    simp only [State.serveAll_rest, s.ready_schedule]
    exact ⟨_, rfl⟩

theorem State.deliverFrame_system (s : State) : s.deliverFrame.system = s.ready.system := by
  rw [s.deliverFrame_eq]
  simp [State.serveAll]

theorem State.deliverFrame_books {s : State} (h : ChainsSound s) :
    s.deliverFrame.books = s.frameReports.foldl bookReport s.books := by
  rw [← s.ready_books]
  by_cases hb : s.passBegins
  · rw [State.deliverFrame_begun hb]
    simp [State.books, State.serveAll, (State.ready_quiet h).beginPass_counters]
  · rw [State.deliverFrame_idle hb]
    simp [State.books, State.serveAll]

theorem State.deliverFrame_overruns {s : State} (h : ChainsSound s) : s.deliverFrame.counters.overruns =
    if s.pass.phase = .idle then s.counters.overruns else sat16 s.counters.overruns := by
  by_cases hb : s.passBegins
  · rw [State.deliverFrame_begun hb]
    simp only [State.serveAll_rest, (State.ready_quiet h).beginPass_counters, s.ready_counters]
  · rw [State.deliverFrame_idle hb]
    simp only [State.serveAll_rest, s.ready_counters]

/-- What of the pass engine does not depend on whether a pass begins. -/
theorem State.deliverFrame_pass {s : State} (h : ChainsSound s) :
    s.deliverFrame.pass.buffer = s.pass.buffer ∧ s.deliverFrame.pass.scale = s.pass.scale ∧
    s.deliverFrame.pass.emitted = List.replicate 8 false ∧
    s.deliverFrame.pass.entryMark = (if s.entersService then true else s.pass.entryMark) ∧
    s.deliverFrame.pass.rise = s.pass.rise ∧ s.deliverFrame.pass.fall = s.pass.fall ∧
    s.deliverFrame.pass.budget = s.pass.budget ∧ s.deliverFrame.request.openSet = s.request.openSet := by
  by_cases hb : s.passBegins
  · rw [State.deliverFrame_begun hb]
    simp only [State.serveAll_rest, State.beginPass_rest, State.laid, State.ready_pass h, State.ready_frame, and_self]
  · rw [State.deliverFrame_idle hb]
    simp only [State.serveAll_rest, State.ready_pass h, State.ready_frame, and_self]

/-- A message begun leaves no more sections waiting. -/
theorem PanelPort.serve_sections_le (p : PanelPort) (now : Nat) :
    (p.serve now).sections.length ≤ p.sections.length := by
  cases hs : p.sending with
  | some x => rw [p.serve_busy now x hs]
  | none =>
    obtain ⟨hended, hrest⟩ := p.serve_idle now hs
    cases hh : p.holdEnded with
    | true => rw [hended hh]
    | false =>
      obtain ⟨hnotice, hnone⟩ := hrest hh
      cases hn : p.notices with
      | cons n rest => rw [hnotice n rest hn]
      | nil =>
        obtain ⟨hsection, hidle⟩ := hnone hn
        cases hb : p.sections with
        | cons b rest => simp [hsection b rest hb]
        | nil => rw [hidle hb, hb]

theorem State.port_fst (s : State) : s.port.1 = s.panel := rfl

/-- Where no pass begins, nothing of it is written. -/
theorem State.deliverFrame_no_pass {s : State} (h : ChainsSound s) (hb : ¬ s.passBegins) :
    s.deliverFrame.zones = s.zones ∧ s.deliverFrame.pass.phase = .idle ∧ s.deliverFrame.request = s.request ∧
    s.deliverFrame.windows = s.windows ∧ s.deliverFrame.counters.stale = s.counters.stale ∧
    s.deliverFrame.schedule.points = List.replicate 8 none ∧
    s.deliverFrame.panel.sections.length ≤ s.panel.sections.length := by
  have hpanel : s.ready.panel.sections.length ≤ s.panel.sections.length := by
    rw [← State.port_fst, s.ready_port]
    split
    · exact PanelPort.serve_sections_le _ _
    · exact le_refl _
  rw [State.deliverFrame_idle hb]
  simp only [State.serveAll_rest, State.ready_frame, State.ready_pass h, s.ready_counters, s.ready_schedule, hpanel,
    and_self]

/-! ## What a pass that begins has sampled -/

theorem State.deliverFrame_state {s : State} (h : ChainsSound s) (c : Nat) :
    (s.deliverFrame.chain c).state = (s.ready.chain c).state := by
  by_cases hc : c < 8
  · exact State.deliverFrame_chain_state h hc
  · simp [State.chain, State.deliverFrame_chains_length h, State.ready_chains h.eight, h.eight, hc]

/-- Neither LATE outcomes nor the arbiter move a factor. -/
theorem State.deliverFrame_applied {s : State} (h : ChainsSound s) {c : Nat} (hc : c < 8) :
    (s.deliverFrame.chain c).applied = (s.ready.chain c).applied := by
  rw [State.deliverFrame_chain h hc, Chain.serve_applied, State.ready_chain h.eight hc, Chain.lateForAll]

theorem State.ready_chain_weight {s : State} (h : ChainsSound s) {c : Nat} (hc : c < 8) :
    (s.ready.chain c).weight = (s.chain c).weight := by
  rw [State.ready_chain h.eight hc]
  cases ht : (s.chain c).tripped with
  | true => rw [s.readyChain_tripped c ht, Chain.recovered_eq, s.closedChain_eq]
  | false => rw [s.readyChain_untripped c ht, s.closedChain_eq]

theorem State.begun_sampledZone {s : State} (hb : s.passBegins) (i : Nat) :
    s.deliverFrame.sampledZone i = s.ready.laid.sampledZone i := by
  rw [State.deliverFrame_begun hb]
  simp only [State.sampledZone, State.serveAll_rest, State.beginPass_rest]

theorem State.begun_sampledChain {s : State} (hb : s.passBegins) (c : Nat) :
    s.deliverFrame.sampledChain c = s.ready.laid.sampledChain c := by
  rw [State.deliverFrame_begun hb]
  simp only [State.sampledChain, State.serveAll_rest, State.beginPass_rest]

/-- A zone as the pass samples it, its state that of Table 1-8. -/
theorem State.begun_zone {s : State} (h : ChainsSound s) (hb : s.passBegins) {i : Nat} (hi : i < s.zones.length) :
    (s.deliverFrame.sampledZone i).channel = (s.zone i).channel ∧
    (s.deliverFrame.sampledZone i).gain = (s.zone i).gain ∧
    (s.deliverFrame.sampledZone i).override = (s.zone i).override ∧
    (s.deliverFrame.sampledZone i).state = (match (s.zone i).channel with
      | none => .unmapped
      | some x =>
        if (s.zone i).fault ≠ .none then .faulted
        else if (s.deliverFrame.chain x.chain).state ≠ .running then .dark .chain
        else if s.claims.picture = true ∨ s.claims.panel = true ∨ s.claims.system = true then .dark .blank
        else .lit) := by
  have hzone : s.ready.zone i = s.zone i := by simp [State.zone]
  rw [State.begun_sampledZone hb, s.ready.laid_sampledZone (by simpa using hi), hzone]
  refine ⟨rfl, rfl, rfl, ?_⟩
  have hstate := s.ready.zoneState_eq (s.zone i)
  simp only [State.deliverFrame_state h]
  refine hstate.trans ?_
  cases (s.zone i).channel with
  | none => rfl
  | some x => simp only [State.ready_frame]

theorem State.sampleChain_eq (s : State) (c : Nat) (ch : Chain) : s.sampleChain c ch =
    ⟨decide (ch.state = .running), ch.weight, ch.applied,
      carriedMask s.grid s.schedule.groups c (s.zones.map Zone.channel)⟩ := rfl

/-- A chain as the pass samples it (R28). -/
theorem State.begun_chain {s : State} (h : ChainsSound s) (hb : s.passBegins) {k : Nat} (hk : k < 8) :
    ((s.deliverFrame.sampledChain k).running = true ↔ (s.deliverFrame.chain k).state = .running) ∧
    (s.deliverFrame.sampledChain k).weight = (s.chain k).weight ∧
    (s.deliverFrame.sampledChain k).factor = (s.deliverFrame.chain k).applied ∧
    ∀ g, g < 8 → ((s.deliverFrame.sampledChain k).carries.getLsbD g = true ↔
      ∃ i x, (s.zone i).channel = some x ∧ x.chain = k ∧ s.grid.zoneGroup s.schedule.groups i = g) := by
  have hlen : k < s.ready.chains.length := by simpa [State.ready_chains h.eight, h.eight] using hk
  rw [State.begun_sampledChain hb, s.ready.laid_sampledChain hlen, State.deliverFrame_state h,
    State.deliverFrame_applied h hk, ← State.ready_chain_weight h hk, State.sampleChain_eq]
  dsimp only
  refine ⟨decide_eq_true_iff, rfl, rfl, fun g hg => ?_⟩
  have hgroups : s.ready.schedule.groups = s.schedule.groups := by
    rw [s.ready_schedule]
    exact s.schedule.moveHold_fields.1
  refine (carriedMask_iff _ _ _ _ hg).trans ?_
  simp only [s.zone_channel_eq_some_iff, hgroups, State.ready_frame, List.getElem?_map, Option.map_eq_some_iff]

/-- The points of the frame's groups, and their outcomes where they are reached at once (R63, R64). -/
theorem State.begun_point {s : State} (h : ChainsSound s) (hb : s.passBegins) {k : Nat} (hk : k < 8) :
    (¬ (k < s.schedule.groups ∧ s.grid.rowsOf s.schedule.groups k ≠ []) → s.deliverFrame.point k = none) ∧
    (k < s.schedule.groups → s.grid.rowsOf s.schedule.groups k ≠ [] → ∃ q l, s.deliverFrame.point k = some q ∧
      l = s.schedule.offsets.getD k 0 * s.timebase.predicted / 1024 ∧ q.latchAt = s.timebase.lastStart + us l ∧
      q.commitAt = s.timebase.lastStart + us (l - s.schedule.lead) ∧ q.latched = false ∧
      (q.reached = true ↔ l ≤ s.schedule.lead) ∧
      (q.reached = true → ∀ c, c < 8 → q.outcomes.getD c .notCarried =
        if (s.deliverFrame.sampledChain c).carries.getLsbD k = false then .notCarried
        else if (s.deliverFrame.chain c).state = .running then .late else .absent)) := by
  have hq := State.ready_quiet h
  have hpoint : s.deliverFrame.point k = s.ready.beginPass.point k := by
    rw [s.deliverFrame_point, State.maybePass, if_pos hb]
  have hlaid := s.ready.laid_point hk
  have hmem := s.ready.mem_startGroups_iff k
  obtain ⟨hgroups, hoffsets, hlead, -⟩ := s.schedule.moveHold_fields
  simp only [s.ready_schedule, State.ready_frame, hgroups, hoffsets, hlead] at hlaid hmem
  rw [hpoint, hq.beginPass_point hk, hlaid]
  constructor
  · intro hno
    rw [if_neg hno, if_neg (mt hmem.1 fun ⟨_, hg, _⟩ => hno hg)]
  · intro hk1 hk2
    by_cases hm : k ∈ s.ready.startGroups
    · rw [if_pos hm, if_pos ⟨hk1, hk2⟩]
      refine ⟨_, _, rfl, rfl, rfl, rfl, rfl, iff_of_true rfl (hmem.1 hm).2.2, fun _ c hc => ?_⟩
      rw [State.begun_sampledChain hb, State.deliverFrame_state h]
      exact hq.laid_outcome k hc
    · rw [if_neg hm, if_pos ⟨hk1, hk2⟩]
      refine ⟨_, _, rfl, rfl, rfl, rfl, rfl, ?_, fun hr => absurd hr (by simp [layPoint])⟩
      exact iff_of_false (by simp [layPoint]) fun hl => hm (hmem.2 ⟨hk, ⟨hk1, hk2⟩, hl⟩)

/-! ## What a pass that begins writes -/

theorem State.begun_rest {s : State} (h : ChainsSound s) (hb : s.passBegins) :
    s.deliverFrame.zones = s.zones.map Zone.beginPass ∧ s.deliverFrame.pass.phase = .composing ∧
    s.deliverFrame.request.slot = none ∧
    s.deliverFrame.request.current = s.request.slot.getD s.request.current ∧
    s.deliverFrame.counters.stale =
      (if s.request.slot = none then sat16 s.counters.stale else s.counters.stale) ∧
    s.deliverFrame.windows = markSampled s.windows := by
  have hq := State.ready_quiet h
  rw [State.deliverFrame_begun hb]
  simp only [State.serveAll_rest, hq.beginPass_zones, hq.beginPass_counters, State.beginPass_rest, State.laid,
    State.ready_frame, s.ready_counters, and_self]

/-- The sample of the pass (Table 2-2), but for its zones and chains. -/
theorem State.begun_sample {s : State} (h : ChainsSound s) (hb : s.passBegins) :
    s.deliverFrame.pass.sample.start = s.timebase.lastStart ∧
    s.deliverFrame.pass.sample.counter = s.timebase.counter ∧
    s.deliverFrame.pass.sample.taken = s.request.slot.isSome ∧
    s.deliverFrame.pass.sample.tag = (s.request.slot.getD s.request.current).tag ∧
    s.deliverFrame.pass.sample.sceneCut = (s.request.slot.getD s.request.current).sceneCut ∧
    s.deliverFrame.pass.sample.entryMark = (if s.entersService then true else s.pass.entryMark) ∧
    s.deliverFrame.pass.sample.windows = markSampled s.windows ∧
    s.deliverFrame.pass.sample.rise = s.pass.rise ∧ s.deliverFrame.pass.sample.fall = s.pass.fall ∧
    s.deliverFrame.pass.sample.budget = s.pass.budget ∧
    s.deliverFrame.pass.sample.claimed = s.claims.any := by
  rw [State.deliverFrame_begun hb]
  simp only [State.serveAll_rest, State.beginPass_rest, State.laid, State.takeSample, State.takeSlot_eq,
    State.ready_pass h, State.ready_frame, and_self]

/-- A part that is RUNNING as the pass begins was STARTING before only if it has just entered RUNNING. -/
theorem State.starting_iff_entersService {s : State} (h : ChainsSound s) (hb : s.passBegins) :
    s.entersService ↔ s.system.part = .starting := by
  refine ⟨fun hs => hs.1, fun hs => ?_⟩
  obtain ⟨hpart, -⟩ := State.ready_system h
  by_contra hno
  rw [if_neg hno, hs, hb.1] at hpart
  simp at hpart

/-- The light section of a group as the pass begins: it shows the zones that are LIT (R66). -/
theorem State.Quiet.sectionOf_eq {s : State} (h : s.Quiet) (k : Nat) : s.laid.sectionOf k =
    { group := k
      counter := s.timebase.counter
      tag := (s.request.slot.getD s.request.current).tag
      lateMask := (s.laid.sectionOf k).lateMask
      firstRow := (s.grid.rowsOf s.schedule.groups k).headD 0
      rowCount := (s.grid.rowsOf s.schedule.groups k).length
      cols := s.grid.cols
      values := ((List.range s.grid.count).filter fun i => decide (s.grid.zoneGroup s.schedule.groups i = k)).map
        fun i => if (s.laid.sampledZone i).state = .lit then (s.zone i).shown else 0 } := by
  have htag : s.laid.pass.sample.tag = (s.request.slot.getD s.request.current).tag := by
    simp only [State.laid, State.takeSample, State.takeSlot_eq]
  rw [← htag, ← funext (h.section_value k)]
  rfl

/-- A light section of the frame start (R66). -/
theorem State.frameSection_fields {s : State} (h : ChainsSound s) {b : LightSection} (hb : b ∈ s.frameSections) :
    b.counter = s.timebase.counter ∧ b.tag = s.deliverFrame.request.current.tag ∧ b.cols = s.grid.cols ∧
    b.rowCount = (s.grid.rowsOf s.schedule.groups b.group).length ∧
    b.firstRow = (s.grid.rowsOf s.schedule.groups b.group).headD 0 ∧
    (∀ c, c < 8 → (b.lateMask.getLsbD c = true ↔ ∃ q, s.deliverFrame.point b.group = some q ∧
      (q.outcomes.getD c .notCarried = .late ∨ q.outcomes.getD c .notCarried = .absent))) ∧
    b.values = ((List.range s.grid.count).filter fun i =>
      decide (s.grid.zoneGroup s.schedule.groups i = b.group)).map fun i =>
        if (s.deliverFrame.sampledZone i).state = .lit then (s.zone i).shown else 0 := by
  have hq := State.ready_quiet h
  have hzone : s.ready.zone = s.zone := by
    funext i
    simp [State.zone]
  by_cases hp : s.passBegins
  · rw [State.frameSections, if_pos hp] at hb
    obtain ⟨k, hk, rfl⟩ := List.mem_map.1 hb
    have hgroups : s.ready.schedule.groups = s.schedule.groups := by
      rw [s.ready_schedule]
      exact s.schedule.moveHold_fields.1
    have hpoint : ∀ j, s.deliverFrame.point j = s.ready.beginPass.point j := by
      intro j
      rw [s.deliverFrame_point, State.maybePass, if_pos hp]
    obtain ⟨-, -, -, hcurrent, -⟩ := State.begun_rest h hp
    rw [funext hpoint, hcurrent, funext (State.begun_sampledZone hp)]
    have hmask := fun c hc => hq.section_lateMask (c := c) hk hc
    rw [hq.sectionOf_eq k] at hmask ⊢
    simp only [hgroups, hzone, State.ready_frame] at hmask ⊢
    exact ⟨trivial, trivial, trivial, trivial, trivial, hmask, trivial⟩
  · simp [State.frameSections, hp] at hb

/-! ## The obligation -/

theorem State.entersService_mark (s : State) :
    (if s.entersService then true else s.pass.entryMark) = true ↔ s.pass.entryMark = true ∨ s.entersService := by
  by_cases h : s.entersService
  · rw [if_pos h]
    exact iff_of_true rfl (.inr h)
  · rw [if_neg h]
    exact (or_iff_left h).symm

theorem State.answerDropped_iff (s : State) : s.answerDropped 8 ↔ ∃ k, k < 8 ∧ (s.chain k).problem = true ∧
    2 ≤ (s.chain k).problemCount ∧ s.directWaits k ∧ s.system.response.waitsFor = some k := by
  simp only [State.answerDropped, Chain.tripped_iff, Chain.directOutstanding_iff, and_assoc]

/-- The predicted period is the one that R62 names. -/
theorem Timebase.predicted_unique (tb : Timebase) {p : Nat}
    (hp : tb.state = .locked ∨ tb.state = .holdover → tb.period = some p)
    (hf : tb.state = .free ∨ tb.state = .acquire → p = tb.freePeriod) : p = tb.predicted := by
  cases hs : tb.state with
  | free => simp [Timebase.predicted, hs, hf (.inl hs)]
  | acquire => simp [Timebase.predicted, hs, hf (.inr hs)]
  | locked => simp [Timebase.predicted, hs, hp (.inl hs)]
  | holdover => simp [Timebase.predicted, hs, hp (.inr hs)]

/-- Settles O46: `u` stays a name throughout, and each of its parts is rewritten by the account of that part above; the
last two cases are whether a pass begins. -/
theorem frameStartsAreDelivered : Obligations.FrameStartsAreDelivered := by
  intro s h hd u hu
  obtain ⟨hnow, hgrid, hprobe, htimebase, hclaims, hthermal, hpicture, hpending⟩ := hu ▸ s.deliverFrame_frame
  obtain ⟨hbuffer, hscale, hemitted, hmark, hrise, hfall, hbudget, hopen⟩ := hu ▸ State.deliverFrame_pass h
  obtain ⟨ps, hschedule⟩ := hu ▸ State.deliverFrame_schedule h
  obtain ⟨hgroups, hoffsets, hlead, hmax, hresume, hcount, hhold⟩ := s.schedule.moveHold_fields
  obtain ⟨hpart, hpoll⟩ := State.ready_system h
  have hsystem : u.system = s.ready.system := hu ▸ s.deliverFrame_system
  obtain ⟨hyes, hno⟩ := s.ready_response
  have happlied : ∀ k, k < 8 → (u.chain k).applied = (s.slewed (s.chain k)).applied :=
    fun k hk => hu ▸ State.deliverFrame_chain_applied h hk
  have hchain : ∀ k, k < 8 → u.chain k = ((s.readyChain k (s.chain k)).lateForAll (s.begunLate k)).serve s.now :=
    fun k hk => hu ▸ State.deliverFrame_chain h hk
  have htripped : ∀ k, k < 8 → (s.chain k).tripped = true → u.chain k = s.droppedChain k :=
    fun k hk ht => hu ▸ State.delivered_tripped h hk ht
  have hbegan : ∀ k, k < 8 → s.begunLate k = (List.range 8).filter fun j => (u.sampledChain k).carries.getLsbD j &&
      decide ((u.chain k).state = .running) && u.reached j := fun k hk => hu ▸ State.begunLate_eq h hk
  have hsections : s.frameSections.map LightSection.group = (List.range 8).filter u.reached :=
    hu ▸ State.frameSections_groups h
  have hport : ∀ x, x = (if s.schedule.holdExpires then s.markHoldEnded else s) →
      u.port = (s.frameSections.foldl State.queueSection x).port := fun x hx => hu ▸ State.deliverFrame_port h hx
  have hbegins : s.passBegins ↔ u.system.part = .running ∧ u.schedule.hold ≠ .inForce := by
    rw [hsystem, hschedule, State.passBegins, s.ready_schedule]
  refine ⟨hnow, htimebase, hgrid, hclaims, hthermal, hpicture, hprobe, hpending, hopen, hbuffer, hscale, hemitted,
    hu ▸ State.deliverFrame_chains_length h, hu ▸ State.deliverFrame_overruns h, fun k hk => ?_, fun k hk => ?_,
    fun reports hreports => ?_, ?_, ?_, fun hx => ?_, fun hx => ?_, ?_, hrise, hfall, hbudget,
    (congrArg Schedule.groups hschedule).trans hgroups, (congrArg Schedule.offsets hschedule).trans hoffsets,
    (congrArg Schedule.lead hschedule).trans hlead, (congrArg Schedule.holdMax hschedule).trans hmax,
    (congrArg Schedule.resumeMark hschedule).trans hresume, (congrArg Schedule.holdCount hschedule).trans hcount,
    ?_, (congrArg Schedule.hold hschedule).trans hhold, fun hidle => ?_, fun hrun hforce => ?_⟩
  · rw [happlied k hk]
    exact s.slewed_target hd (s.chain k)
  · refine ⟨s.committedMask k owedLatch, s.lateGroups k, s.begunLate k,
      ((s.chain k).lateForAll (s.lateInAll k)).late, fun j hj => s.committedMask_owed_iff k hj, rfl, hbegan k hk, rfl,
      fun hn => ?_, fun hp hn => ?_⟩
    · have ht : (s.chain k).tripped = false := by
        rw [← Bool.not_eq_true, Chain.tripped_iff]
        rintro ⟨hp, hn'⟩
        rcases hn with hn | hn
        · simp [hp] at hn
        · omega
      refine ⟨((s.chain k).lateForAll (s.lateInAll k)).mirror, ?_, Chain.lateForAll_mirror_length _ _, ?_⟩
      · rw [happlied k hk, hchain k hk, s.delivered_untripped k ht]
        rfl
      · rintro a m ha rfl
        exact Chain.lateForAll_mirror_getD _ _ (Chain.lateForAll_mirror_length _ _ ▸ ha)
    · rw [happlied k hk, htripped k hk ((Chain.tripped_iff _).2 ⟨hp, hn⟩)]
      rfl
  · have hframe : reports = s.frameReports := by
      rw [hreports, State.frameReports, State.holdReports, if_congr s.schedule.holdExpires_iff rfl rfl]
      rfl
    have hbooks : u.books = (reports.foldl (fun x e => x.queueReport [e]) s).books := by
      rw [State.foldl_queueReport_books, hframe, hu, State.deliverFrame_books h]
    exact Prod.mk.inj hbooks
  · rw [hsystem, hpart]
  · rw [hsystem, hpoll]
  · rw [hsystem, hyes (s.answerDropped_iff.2 hx)]
  · rw [hsystem, hno (mt s.answerDropped_iff.1 hx)]
  · rw [hmark]
    exact s.entersService_mark
  · refine ⟨s.frameSections, hsections, fun b hb => ?_, fun x hx => ?_⟩
    · obtain ⟨hcounter, htag, hcols, hrows, hfirst, hlate, hvalues⟩ := hu ▸ State.frameSection_fields h hb
      refine ⟨hcounter, htag, hcols, hrows, fun r rest hr => ?_, hlate, hvalues⟩
      rw [hfirst, hr]
      rfl
    · rw [← if_congr s.schedule.holdExpires_iff rfl rfl] at hx
      exact Prod.mk.inj (hport x hx)
  · have hb : ¬ s.passBegins := by
      rw [hbegins]
      exact fun ⟨hrun, hforce⟩ => hidle.elim (fun hx => hx hrun) hforce
    have hnone := State.deliverFrame_no_pass h hb
    rw [← hu] at hnone
    exact hnone
  · have hb : s.passBegins := hbegins.2 ⟨hrun, hforce⟩
    obtain ⟨hzones, hphase, hslot, hcurrent, hstale, hwindows⟩ := hu ▸ State.begun_rest h hb
    obtain ⟨hstart, hcounter, htaken, htag, hcut, hsmark, hswindows, hsrise, hsfall, hsbudget, hclaimed⟩ :=
      hu ▸ State.begun_sample h hb
    refine ⟨hzones, hphase, hslot, hcurrent, hstale, hwindows, hstart, hcounter, ?_, ?_, ?_, ?_, ?_, hsrise, hsfall,
      hsbudget, ?_, fun i hi => ?_, fun k hk => ?_, fun k predicted hk hp hf => ?_⟩
    · rw [htaken, Option.isSome_iff_ne_none]
    · rw [htag, hcurrent]
    · rw [hcut, hcurrent]
    · rw [hsmark, s.entersService_mark, State.starting_iff_entersService h hb]
    · rw [hswindows, hwindows]
    · rw [hclaimed, Claims.any_iff]
    · have hzone := State.begun_zone h hb hi
      rw [← hu] at hzone
      exact hzone
    · have hsampled := State.begun_chain h hb hk
      rw [← hu] at hsampled
      exact hsampled
    · have hpoint := State.begun_point h hb hk
      rw [← hu] at hpoint
      rw [s.timebase.predicted_unique hp hf]
      exact hpoint

end Sys2Proof.Machine

namespace Sys2Proof.Machine

/-! # The budget of a pass (R26, R37 to R39)

Only the grid, the part's operating state and five fields of the pass engine bear on the budget, so most operations keep
it by leaving these alone. The end of limiting is where it is met: rounding down each limited drive loses power. -/

/-! ## What the budget looks at -/

/-- The stage of a pass, what it sampled, composed and demanded, and the scale it fixed. -/
@[simp] def PassEngine.account (p : PassEngine) : PassPhase × Sample × List Composed × Nat × Nat :=
  (p.phase, p.sample, p.work, p.power, p.scale)

theorem BudgetSound.of_same {s u : State} (h : BudgetSound s) (grid : u.grid = s.grid)
    (account : u.pass.account = s.pass.account) (part : s.system.part ≠ .config → u.system.part ≠ .config) :
    BudgetSound u := by
  obtain ⟨hphase, hsample, hwork, hpower, hscale⟩ : u.pass.phase = s.pass.phase ∧ u.pass.sample = s.pass.sample ∧
      u.pass.work = s.pass.work ∧ u.pass.power = s.pass.power ∧ u.pass.scale = s.pass.scale := by
    simpa using account
  have hzone : u.sampledZone = s.sampledZone := by funext i; simp [State.sampledZone, hsample]
  have hchain : u.zoneChain = s.zoneChain := by funext z; simp [State.zoneChain, State.sampledChain, hsample]
  have hcomposed : u.composed = s.composed := by funext i; simp [State.composed, hwork]
  have hdrive : u.driveOf = s.driveOf := by funext i; simp [State.driveOf, hzone, hcomposed, hscale]
  refine ⟨fun hp => part (h.inService (hphase ▸ hp)), fun hp => ?_, fun hp => ?_⟩
  · rw [hpower, grid, hzone, hchain, hcomposed]
    exact h.demand (hphase ▸ hp)
  · rw [hsample, grid, hzone, hchain, hdrive]
    exact h.limited (hphase ▸ hp)

/-- No pass is in progress. -/
theorem BudgetSound.of_idle {s : State} (h : s.pass.phase = .idle) : BudgetSound s := by
  constructor <;> simp [h]

/-- A pass that is still composing has neither demand nor limited drives. -/
theorem BudgetSound.of_composing {s : State} (h : s.pass.phase = .composing) (hp : s.system.part ≠ .config) :
    BudgetSound s := by
  constructor <;> simp [h, hp]

/-- In CONFIG no pass is in progress. -/
theorem BudgetSound.idle_of_config {s : State} (h : BudgetSound s) (hp : s.system.part = .config) :
    s.pass.phase = .idle :=
  not_not.1 fun hne => h.inService hne hp

/-! ## The stages (R37 to R39) -/

/-- The end of composition holds the demand of what it composed. -/
theorem BudgetSound.compositionEnd {s : State} (h : BudgetSound s) (hp : s.pass.phase = .composing) (t : Nat)
    (ws : List Window) : BudgetSound { s.arrive t with
      pass := { s.pass with
        phase := .limiting
        work := (List.range s.grid.count).map s.composeZone
        power := ((List.range s.grid.count).map s.powerShare).sum }
      windows := ws } where
  inService _ := h.inService (by simp [hp])
  demand _ := by
    refine congrArg List.sum (List.map_congr_left fun i hi => (s.powerShare_eq i).trans ?_)
    rw [← s.composed_getD (List.mem_range.1 hi)]
    rfl
  limited hl := by simp at hl

/-- The scale brings the demand down to the budget limit (R38). -/
theorem mul_budgetScale_le (b p : Nat) : p * budgetScale b p ≤ budgetLimit b * 65536 := by
  unfold budgetScale
  split
  next h => exact Nat.mul_le_mul_right _ h
  next => exact Nat.mul_div_le _ _

theorem limitedDrive_mul_le (d f w : Nat) : limitedDrive d f * w * 65536 ≤ d * w * f :=
  calc limitedDrive d f * w * 65536 = limitedDrive d f * 65536 * w := Nat.mul_right_comm _ _ _
    _ ≤ d * f * w := Nat.mul_le_mul_right _ (Nat.div_mul_le_self _ _)
    _ = d * w * f := Nat.mul_right_comm _ _ _

/-- Drives limited by the scale of their demand meet the budget limit: rounding down only loses power (R38, R39). -/
theorem sum_limitedDrive_le (b : Nat) (zs : List Nat) (lit : Nat → Prop) [DecidablePred lit] (d w : Nat → Nat) {p : Nat}
    (hp : p = (zs.map fun i => if lit i then d i * w i else 0).sum) :
    (zs.map fun i => (if lit i then limitedDrive (d i) (budgetScale b p) else 0) * w i).sum ≤ budgetLimit b := by
  have hzones : (zs.map fun i => (if lit i then limitedDrive (d i) (budgetScale b p) else 0) * w i * 65536).sum ≤
      (zs.map fun i => (if lit i then d i * w i else 0) * budgetScale b p).sum := by
    refine List.sum_le_sum fun i _ => ?_
    by_cases h : lit i
    · simpa only [if_pos h] using limitedDrive_mul_le (d i) (budgetScale b p) (w i)
    · simp [h]
  rw [List.sum_map_mul_right, List.sum_map_mul_right, ← hp] at hzones
  exact Nat.le_of_mul_le_mul_right (hzones.trans (mul_budgetScale_le b p)) (by decide)

/-- The end of limiting meets the budget. -/
theorem BudgetSound.limitingEnd {s : State} (h : BudgetSound s) (hp : s.pass.phase = .limiting) (t : Nat) :
    BudgetSound { s.arrive t with
      pass := { s.pass with
        phase := .emitting
        blocks := 0
        scale := budgetScale s.pass.sample.budget s.pass.power } } where
  inService _ := h.inService (by simp [hp])
  demand hl := by simp at hl
  limited _ := sum_limitedDrive_le s.pass.sample.budget (List.range s.grid.count)
    (fun i => (s.sampledZone i).state = .lit) (fun i => (s.composed i).dt)
    (fun i => (s.zoneChain (s.sampledZone i)).weight) (h.demand hp)

/-- An emission block changes no drive; the last one ends the pass. -/
theorem BudgetSound.afterBlock {s : State} (h : BudgetSound s) (hp : s.pass.phase = .emitting) :
    BudgetSound s.afterBlock := by
  by_cases hlast : (s.grid.count + 15) / 16 ≤ s.pass.blocks + 1
  · exact .of_idle (if_pos hlast)
  · have hphase : s.afterBlock.pass.phase = s.pass.phase := (if_neg hlast).trans hp.symm
    refine h.of_same rfl ?_ id
    rw [PassEngine.account, hphase]
    rfl

/-! ## Frame starts (R25, R44) -/

theorem State.overrun_phase (s : State) : s.overrun.pass.phase = .idle := by
  unfold State.overrun
  split
  next h => exact h
  next => simp [PassEngine.abandon]

theorem State.enterService_phase (s : State) : s.enterService.pass.phase = s.pass.phase := by
  unfold State.enterService
  split <;> rfl

theorem State.beginPass_phase (s : State) : s.beginPass.pass.phase = .composing := by
  simp [State.beginPass]

/-- A frame start abandons a pass still in progress, and begins another in service only. -/
theorem State.deliverFrame_budgetSound (s : State) : BudgetSound s.deliverFrame := by
  have hidle : s.ready.pass.phase = .idle := by
    simp [State.ready, State.enterService_phase, State.closed, State.clearFrame, State.overrun_phase]
  rw [State.deliverFrame_eq]
  refine BudgetSound.of_same (s := s.ready.maybePass) ?_ (by simp) (by simp) (by simp)
  unfold State.maybePass
  split
  next h => exact .of_composing (State.beginPass_phase _) (by simp [h.1])
  next => exact .of_idle hidle

theorem State.frameStart_budgetSound (s : State) : BudgetSound s.frameStart := State.deliverFrame_budgetSound _

end Sys2Proof.Machine

namespace Sys2Proof.Machine

/-! # The levels of one chain engine (R43, R93, R97)

A level reaches an engine as a duty of a hand-over, waits in the staging queue, flies in a STAGE and comes to rest in a
mirror record. Every operation on an engine moves duties along this way or drops them; none makes a new one but the
hand-over. -/

/-! ## Lists of levels -/

theorem levelsOk_replicate_zero (n : Nat) : levelsOk (List.replicate n 0) := fun x hx => by
  simp [List.eq_of_mem_replicate hx]

theorem levelsOk_append {l m : List Nat} (hl : levelsOk l) (hm : levelsOk m) : levelsOk (l ++ m) :=
  List.forall_mem_append.2 ⟨hl, hm⟩

theorem levelsOk.getD {l : List Nat} (h : levelsOk l) (i : Nat) : l.getD i 0 ≤ 4095 :=
  getD_all l i 0 h (Nat.zero_le _)

theorem levelsOk.of_subset {l m : List Nat} (h : levelsOk l) (hs : m ⊆ l) : levelsOk m := fun x hx => h x (hs hx)

/-! ## What an operation on an engine keeps -/

/-- An engine's levels and its applied derate factor are in range. -/
structure Chain.Ranged (ch : Chain) : Prop extends ch.LevelsOk where
  applied : ch.applied ≤ 256

theorem Mirror.unassign_shadow (m : Mirror) : levelsOk m.unassign.shadow := levelsOk_replicate_zero 16

theorem Chain.Ranged.powerOn : Chain.powerOn.Ranged where
  mirror m hm := by
    rw [List.eq_of_mem_replicate hm]
    exact levelsOk_replicate_zero 16
  staging := by simp [Chain.powerOn]
  inflight := by simp [Chain.powerOn]
  resend := by simp [Chain.powerOn]
  applied := le_refl 256

/-- Mirror records changed, each keeping its duties in range. -/
theorem Chain.Ranged.mapMirror {ch : Chain} (h : ch.Ranged) {f : Mirror → Mirror}
    (hf : ∀ m, levelsOk m.shadow → levelsOk (f m).shadow) : { ch with mirror := ch.mirror.map f }.Ranged :=
  { h with mirror := List.forall_mem_map.2 fun m hm => hf m (h.mirror m hm) }

theorem Chain.Ranged.updRecord {ch : Chain} (h : ch.Ranged) (a : Nat) {f : Mirror → Mirror}
    (hf : ∀ m, levelsOk m.shadow → levelsOk (f m).shadow) : (ch.updRecord a f).Ranged :=
  { h with mirror := modify_all _ a f h.mirror fun m hm => hf m (h.mirror m hm) }

theorem Chain.Ranged.updSettle {ch : Chain} (h : ch.Ranged) (k : Nat) (f : Settle → Settle) :
    (ch.updSettle k f).Ranged := { h with }

theorem Chain.Ranged.forgetGroups {ch : Chain} (h : ch.Ranged) (mask : BitVec 8) : (ch.forgetGroups mask).Ranged :=
  h.mapMirror fun m hm => by
    split
    · split <;> exact hm
    · exact hm

theorem Chain.Ranged.markProblem {ch : Chain} (h : ch.Ranged) : ch.markProblem.Ranged := { h with }

theorem Chain.Ranged.unassignAll {ch : Chain} (h : ch.Ranged) : ch.unassignAll.Ranged :=
  h.mapMirror fun m _ => m.unassign_shadow

/-! ## Sending (R100 to R104) -/

theorem Chain.Ranged.send {ch : Chain} (h : ch.Ranged) (now : Nat) {x : Sent} (hx : levelsOk x.duties) (retry : Bool) :
    (ch.send now x retry).Ranged :=
  { h with inflight := List.forall_mem_append.2 ⟨h.inflight, List.forall_mem_singleton.2 hx⟩ }

/-- A frame that the arbiter picks carries levels in range, and leaves an engine that does. -/
theorem Chain.Ranged.pick {ch : Chain} (h : ch.Ranged) {x : Sent} {retry : Bool} {rest : Chain}
    (hp : ch.pick = some (x, retry, rest)) : rest.Ranged ∧ levelsOk x.duties := by
  rcases ch.pick_cases x retry rest hp with ⟨l, ls, -, rfl, -, rfl⟩ | ⟨d, -, rfl, -, rfl⟩ | ⟨p, -, rfl, -, rfl⟩ |
    ⟨before, e, after, hl, -, rfl, -, rfl⟩
  · exact ⟨{ h with }, List.forall_mem_nil _⟩
  · exact ⟨{ h with }, List.forall_mem_nil _⟩
  · exact ⟨{ h with }, List.forall_mem_nil _⟩
  · obtain ⟨hbefore, he, hafter⟩ : (∀ y ∈ before, levelsOk y.duties) ∧ levelsOk e.duties ∧
        ∀ y ∈ after, levelsOk y.duties := by
      simpa only [hl, List.forall_mem_append, List.forall_mem_cons] using h.staging
    exact ⟨{ h with staging := List.forall_mem_append.2 ⟨hbefore, hafter⟩ }, he⟩

theorem Chain.Ranged.serve {ch : Chain} (h : ch.Ranged) (now : Nat) : (ch.serve now).Ranged := by
  rcases ch.serve_cases now with hs | ⟨x, retry, rest, -, -, hs, ⟨-, hp⟩ | ⟨-, hx, -, rfl⟩⟩
  · rwa [hs]
  · obtain ⟨hrest, hx⟩ := h.pick hp
    rw [hs, ← Chain.send_eq]
    exact hrest.send now hx retry
  · rw [hs, ← Chain.send_eq]
    exact Chain.Ranged.send (ch := { ch with resend := none }) { h with resend := nofun } now (h.resend x hx) retry

/-- A frame sent again joins its own source (R101). -/
theorem Chain.Ranged.requeue {ch : Chain} (h : ch.Ranged) {x : Sent} (hx : levelsOk x.duties) :
    (ch.requeue x).Ranged := by
  cases x with
  | stage e =>
    refine { h with staging := fun y hy => ?_ }
    rcases List.mem_append.1 hy with hy | hy
    · exact h.staging y ((List.takeWhile_sublist _).subset hy)
    · rcases List.mem_cons.1 hy with rfl | hy
      · exact hx
      · exact h.staging y ((List.dropWhile_sublist _).subset hy)
  | latch | poll | direct => exact { h with }
  | assign | clear => exact { h with resend := fun y hy => Option.some.inj hy ▸ hx }

theorem Chain.Ranged.oweLatch {ch : Chain} (h : ch.Ranged) (mask : BitVec 8) : (ch.oweLatch mask).Ranged := by
  unfold Chain.oweLatch
  split
  · exact { h with }
  · exact h

theorem Chain.Ranged.pollTick {ch : Chain} (h : ch.Ranged) : ch.pollTick.Ranged := by
  unfold Chain.pollTick
  split
  · exact h
  · split
    · exact { h with }
    · exact h

theorem Chain.Ranged.restartTick {ch : Chain} (h : ch.Ranged) (due : Nat) : (ch.restartTick due).Ranged := by
  unfold Chain.restartTick
  split
  · exact { h with }
  · exact h

/-! ## Accepted and given-up STAGEs (R87, R99) -/

theorem Mirror.takeStage_shadow {m : Mirror} (hm : levelsOk m.shadow) {e : StageEntry} (he : levelsOk e.duties) :
    levelsOk (m.takeStage e).shadow :=
  levelsOk_append (levelsOk_append (hm.of_subset (List.take_subset _ _)) he) (hm.of_subset (List.drop_subset _ _))

theorem Chain.Ranged.acceptStage {ch : Chain} (h : ch.Ranged) {e : StageEntry} (he : levelsOk e.duties) (n : Nat) :
    (ch.acceptStage e n).Ranged := by
  have hrecord := h.updRecord e.address (f := fun m => m.takeStage e) fun m hm => m.takeStage_shadow hm he
  unfold Chain.acceptStage
  dsimp only
  split
  · exact hrecord.updSettle _ _
  · exact hrecord

theorem Chain.Ranged.giveUpStage {ch : Chain} (h : ch.Ranged) (e : StageEntry) (n : Nat) :
    (ch.giveUpStage e n).Ranged := by
  have hrecord := h.updRecord e.address (f := fun m => { m with known := false }) fun _ hm => hm
  unfold Chain.giveUpStage
  dsimp only
  split
  · exact hrecord.updSettle _ _
  · exact hrecord

/-! ## Hand-over and LATE groups (R65, R95, R96) -/

/-- A duty is a drive of the hand-over, or 0. -/
theorem levelsOk_newDuties {ho : List HandedZone} (h : ∀ z ∈ ho, z.drive ≤ 4095) (a : Nat) :
    levelsOk (newDuties ho a) := by
  refine List.forall_mem_map.2 fun k _ => ?_
  split
  next z hz => exact h z (List.mem_of_find?_eq_some hz)
  next => exact Nat.zero_le _

/-- A STAGE queued by a hand-over carries some of the new duties, or all of them. -/
theorem Chain.stageFor_duties {ch : Chain} {k n a : Nat} {duties : List Nat} {e : StageEntry}
    (h : ch.stageFor k n a duties = some e) : e.duties ⊆ duties := by
  unfold Chain.stageFor at h
  split at h
  · obtain rfl := Option.some.inj h
    exact List.Subset.refl _
  · split at h
    · simp at h
    · obtain rfl := Option.some.inj h
      exact ((List.take_sublist _ _).trans (List.drop_sublist _ _)).subset

theorem Chain.Ranged.takeHandOver {ch : Chain} (h : ch.Ranged) (k n : Nat) (late : Bool) {ho : List HandedZone}
    (hd : ∀ z ∈ ho, z.drive ≤ 4095) : (ch.takeHandOver k n late ho).Ranged := by
  rw [Chain.takeHandOver_eq]
  split
  · refine { h with staging := List.forall_mem_append.2 ⟨h.staging, fun e he => ?_⟩ }
    obtain ⟨a, -, ha⟩ := List.mem_filterMap.1 he
    exact (levelsOk_newDuties hd a).of_subset (Chain.stageFor_duties ha)
  · exact h

theorem Chain.Ranged.lateFor {ch : Chain} (h : ch.Ranged) (k : Nat) : (ch.lateFor k).Ranged where
  mirror m hm := by
    obtain ⟨a, ha, rfl⟩ := List.mem_mapIdx.1 hm
    have hrecord := h.mirror _ (List.getElem_mem ha)
    split <;> exact hrecord
  staging e he := h.staging e (List.mem_of_mem_filter he)
  inflight := h.inflight
  resend := h.resend
  applied := h.applied

/-! ## Chain states (R113 to R125) -/

theorem Chain.Ranged.discard {ch : Chain} (h : ch.Ranged) : ch.discard.Ranged :=
  { h with
    staging := List.forall_mem_nil _
    inflight := List.forall_mem_nil _
    resend := fun _ hx => nomatch hx }

theorem Chain.Ranged.enterRecovering {ch : Chain} (h : ch.Ranged) (x : Cause) : (ch.enterRecovering x).Ranged :=
  { h.discard.unassignAll with }

theorem Chain.Ranged.enterRunning {ch : Chain} (h : ch.Ranged) (now poll n : Nat) :
    (ch.enterRunning now poll n).Ranged :=
  { h with staging := List.forall_mem_nil _ }

theorem Chain.Ranged.beginAttempt {ch : Chain} (h : ch.Ranged) (now : Nat) : (ch.beginAttempt now).Ranged :=
  have hfresh : Chain.Ranged { ch with sentCount := 0 } := { h with }
  { hfresh.send now (x := .clear) (List.forall_mem_nil _) false with }

theorem Chain.Ranged.beginEnumeration {ch : Chain} (h : ch.Ranged) (now : Nat) (b : Bool) :
    (ch.beginEnumeration now b).Ranged := { h.discard.unassignAll with }

theorem Chain.Ranged.startUp {ch : Chain} (h : ch.Ranged) (now : Nat) : (ch.startUp now).Ranged := by
  unfold Chain.startUp
  split
  · exact h
  · exact h.beginEnumeration now false

theorem Chain.Ranged.halt {ch : Chain} (h : ch.Ranged) (now : Nat) : (ch.halt now).Ranged := by
  unfold Chain.halt
  split
  · exact h
  · exact { h.discard.unassignAll with }

theorem Chain.Ranged.restart {ch : Chain} (h : ch.Ranged) (now : Nat) : (ch.restart now).Ranged :=
  { h.halt now with applied := le_refl 256 }

/-! ## Derate factors (R156 to R158) -/

theorem derateCurve_le {p : ThermalParams} (h : p.hMin ≤ 256) (t : Int) : derateCurve p t ≤ 256 := by
  unfold derateCurve
  split
  · exact le_refl 256
  · split
    · exact h
    · exact Nat.sub_le _ _

theorem targetFactor_le {th : Thermal} (h : th.params.hMin ≤ 256) (ch : Chain) : targetFactor th ch ≤ 256 := by
  have hcurve : th.curveTarget ch.sensor ≤ 256 := by
    unfold Thermal.curveTarget
    split
    · exact le_refl 256
    · split
      · exact h
      · exact derateCurve_le h _
  unfold targetFactor
  split <;> omega

end Sys2Proof.Machine

namespace Sys2Proof.Machine

/-! # The levels of the part under the shared operations (R43)

Most operations leave the levels where they are, but for zone records, engines or the panel line: `LevelsSound.move`
takes what each of these three keeps, and the rest as one equation; `LevelsSound.of_same` is for those that move
no level. -/

/-! ## Records and ports -/

/-- The levels of a zone record are in range. -/
structure Zone.LevelsOk (z : Zone) : Prop where
  eased : z.eased ≤ 4095
  shown : z.shown ≤ 4095
  override : ∀ l, z.override = some l → l ≤ 4095

/-- The levels that wait on the panel port or are being sent are in range. -/
structure PanelPort.LevelsOk (p : PanelPort) : Prop where
  sections : ∀ b ∈ p.sections, levelsOk b.values
  sending : ∀ x, p.sending = some x → levelsOk x.message.values

/-- What the levels look at in the pass engine. -/
@[simp] def PassEngine.store (p : PassEngine) : Sample × List Composed × List Nat × Nat :=
  (p.sample, p.work, p.buffer, p.scale)

/-- What the levels look at outside zone records, engines and the panel line. -/
@[simp] def State.levelStore (s : State) :
    RequestStore × List Window × (Sample × List Composed × List Nat × Nat) × Probe × ThermalParams :=
  (s.request, s.windows, s.pass.store, s.probe, s.thermal.params)

theorem LevelsSound.zoneLevels {s : State} (h : LevelsSound s) : ∀ z ∈ s.zones, z.LevelsOk := fun z hz =>
  ⟨(h.zones z hz).1, (h.zones z hz).2, h.overrides z hz⟩

theorem LevelsSound.ranged {s : State} (h : LevelsSound s) : ∀ ch ∈ s.chains, ch.Ranged := fun ch hch =>
  { h.chains ch hch with applied := h.applied ch hch }

/-- An engine read by number. -/
theorem LevelsSound.chain {s : State} (h : LevelsSound s) (c : Nat) : (s.chain c).Ranged :=
  getD_all s.chains c Chain.powerOn h.ranged .powerOn

/-- Levels that stand where they were, but in zone records, engines and the panel line. -/
theorem LevelsSound.move {s u : State} (h : LevelsSound s) (store : u.levelStore = s.levelStore)
    (zones : (∀ z ∈ s.zones, z.LevelsOk) → ∀ z ∈ u.zones, z.LevelsOk)
    (chains : (∀ ch ∈ s.chains, ch.Ranged) → ∀ ch ∈ u.chains, ch.Ranged)
    (panel : s.panel.LevelsOk → u.panel.LevelsOk) : LevelsSound u := by
  simp only [State.levelStore, PassEngine.store, Prod.mk.injEq] at store
  obtain ⟨request, windows, ⟨hsample, hwork, hbuffer, hscale⟩, probe, params⟩ := store
  have hzones := zones h.zoneLevels
  have hchains := chains h.ranged
  have hpanel := panel ⟨h.sections, h.sending⟩
  exact
    { openSet := request ▸ h.openSet
      slot := request ▸ h.slot
      current := request ▸ h.current
      windows := windows ▸ h.windows
      zones := fun z hz => ⟨(hzones z hz).eased, (hzones z hz).shown⟩
      overrides := fun z hz => (hzones z hz).override
      sampledWindows := hsample ▸ h.sampledWindows
      sampledOverrides := hsample ▸ h.sampledOverrides
      work := hwork ▸ h.work
      buffer := hbuffer ▸ h.buffer
      chains := fun ch hch => (hchains ch hch).toLevelsOk
      sections := hpanel.sections
      sending := hpanel.sending
      probe := probe ▸ h.probe
      scale := hscale ▸ h.scale
      factors := hsample ▸ h.factors
      applied := fun ch hch => (hchains ch hch).applied
      floor := params ▸ h.floor }

/-- Every part of the state that holds a level. -/
@[simp] def State.levelParts (s : State) :
    (RequestStore × List Window × (Sample × List Composed × List Nat × Nat) × Probe × ThermalParams) ×
      List Zone × List Chain × PanelPort :=
  (s.levelStore, s.zones, s.chains, s.panel)

theorem LevelsSound.of_same {s u : State} (h : LevelsSound s) (same : u.levelParts = s.levelParts) : LevelsSound u := by
  obtain ⟨hstore, hzones, hchains, hpanel⟩ : u.levelStore = s.levelStore ∧ u.zones = s.zones ∧ u.chains = s.chains ∧
      u.panel = s.panel := by
    simpa only [State.levelParts, Prod.mk.injEq] using same
  exact h.move hstore (hzones ▸ id) (hchains ▸ id) (hpanel ▸ id)

theorem LevelsSound.foldl {α : Type} {f : State → α → State} (hf : ∀ s a, LevelsSound s → LevelsSound (f s a))
    (as : List α) :
    ∀ {s}, LevelsSound s → LevelsSound (as.foldl f s) := by
  induction as with
  | nil => exact fun h => h
  | cons a as ih => exact fun h => ih (hf _ a h)

/-! ## Operations on engines -/

theorem LevelsSound.updChain {s : State} (h : LevelsSound s) (c : Nat) {f : Chain → Chain}
    (hf : ∀ ch : Chain, ch.Ranged → (f ch).Ranged) : LevelsSound (s.updChain c f) :=
  h.move rfl id (fun hc => modify_all _ c f hc fun ch hch => hf ch (hc ch hch)) id

theorem LevelsSound.mapChains {s : State} (h : LevelsSound s) {f : Chain → Chain}
    (hf : ∀ ch : Chain, ch.Ranged → (f ch).Ranged) : LevelsSound (s.mapChains f) :=
  h.move rfl id (fun hc => List.forall_mem_map.2 fun ch hch => hf ch (hc ch hch)) id

theorem forall_mem_mapIdx {α β : Type} {p : β → Prop} {xs : List α} {f : Nat → α → β} (h : ∀ i, ∀ x ∈ xs, p (f i x)) :
    ∀ y ∈ xs.mapIdx f, p y := by
  intro y hy
  obtain ⟨i, hi, rfl⟩ := List.mem_mapIdx.1 hy
  exact h i _ (List.getElem_mem hi)

theorem LevelsSound.serve {s : State} (h : LevelsSound s) (c : Nat) : LevelsSound (s.serve c) :=
  h.updChain c fun _ hc => hc.serve _

theorem LevelsSound.serveAll {s : State} (h : LevelsSound s) : LevelsSound s.serveAll :=
  h.mapChains fun _ hc => hc.serve _

theorem LevelsSound.moveClaims {s : State} (h : LevelsSound s) (x : Claims) (b : Bool) :
    LevelsSound (s.moveClaims x b) := by
  cases b
  · exact h.of_same rfl
  · exact h.move rfl id (fun hc => List.forall_mem_map.2 fun ch hch => { hc ch hch with }) id

theorem LevelsSound.chainReport {s : State} (h : LevelsSound s) (c n : Nat) (e : ReportEvent) (r : RecoveryState) :
    LevelsSound (s.chainReport c n e r) := h.of_same (by simp)

theorem LevelsSound.queueSnapReport {s : State} (h : LevelsSound s) (c p : Nat) (carry : Option (Option SnapTag))
    (es : List ReportEntry) : LevelsSound (s.queueSnapReport c p carry es).1 := h.of_same (by simp)

theorem LevelsSound.enterFailed {s : State} (h : LevelsSound s) (c : Nat) (x : Cause) :
    LevelsSound (s.enterFailed c x) := by
  refine (h.updChain c ?_).chainReport c 0 _ _
  exact fun _ hc => { hc.unassignAll with }

theorem LevelsSound.recover {s : State} (h : LevelsSound s) (c : Nat) (x : Cause) : LevelsSound (s.recover c x) := by
  have hleave : LevelsSound ((s.dropDirect c).updChain c fun ch => ch.enterRecovering x) :=
    LevelsSound.updChain (h.of_same (u := s.dropDirect c) (by simp)) c fun _ hc => hc.enterRecovering x
  unfold State.recover
  dsimp only
  split
  · refine (hleave.updChain c ?_).chainReport c 0 _ _
    exact fun _ hc => { hc with }
  · exact hleave.enterFailed c x

theorem LevelsSound.failAttempt {s : State} (h : LevelsSound s) (c : Nat) (x : Cause) :
    LevelsSound (s.failAttempt c x) := by
  have hend : LevelsSound
      (s.updChain c fun ch => { ch with inflight := [], attempt := none, resend := none, cause := some x }) :=
    h.updChain c fun _ hc => { hc with inflight := List.forall_mem_nil _, resend := nofun }
  unfold State.failAttempt
  dsimp only
  split
  · exact hend.updChain c fun _ hc => { hc with }
  · exact hend.enterFailed c x

theorem LevelsSound.linkFailure {s : State} (h : LevelsSound s) (c : Nat) (x : Cause) :
    LevelsSound (s.linkFailure c x) := by
  unfold State.linkFailure
  split
  · exact h.recover c x
  · split
    · exact h.failAttempt c x
    · exact h

/-! ## Operations on zone records -/

theorem LevelsSound.updZone {s : State} (h : LevelsSound s) (i : Nat) {f : Zone → Zone}
    (hf : ∀ z : Zone, z.LevelsOk → (f z).LevelsOk) : LevelsSound (s.updZone i f) :=
  h.move rfl (fun hz => modify_all _ i f hz fun z hm => hf z (hz z hm)) id id

theorem LevelsSound.mapZones {s : State} (h : LevelsSound s) {f : Zone → Zone}
    (hf : ∀ z : Zone, z.LevelsOk → (f z).LevelsOk) : LevelsSound { s with zones := s.zones.map f } :=
  h.move rfl (fun hz => List.forall_mem_map.2 fun z hm => hf z (hz z hm)) id id

theorem Zone.LevelsOk.clearMissing {z : Zone} (h : z.LevelsOk) (c : Nat) : (clearMissing c z).LevelsOk := by
  unfold Machine.clearMissing
  split
  · split
    · exact { h with }
    · exact h
  · exact h

theorem Zone.LevelsOk.setMissing {z : Zone} (h : z.LevelsOk) (c n d : Nat) : (setMissing c n d z).LevelsOk := by
  unfold Machine.setMissing
  split
  · split
    · exact { h with }
    · exact h
  · exact h

theorem Zone.LevelsOk.relight {z : Zone} (h : z.LevelsOk) (c : Nat) : (relight c z).LevelsOk :=
  ⟨by simpa using h.eased, by simpa using h.shown, by simpa using h.override⟩

theorem Zone.LevelsOk.beginPass {z : Zone} (h : z.LevelsOk) : z.beginPass.LevelsOk where
  eased := by
    rw [Zone.beginPass_eased]
    split
    · exact Nat.zero_le _
    · exact h.eased
  shown := h.shown
  override := h.override

theorem setFaults_levels (found : List (Nat × ZoneFault)) : ∀ {zs : List Zone},
    (∀ z ∈ zs, z.LevelsOk) → ∀ z ∈ setFaults zs found, z.LevelsOk := by
  induction found with
  | nil => exact fun h => h
  | cons x found ih => exact fun h => ih (modify_all _ x.1 _ h fun z hz => { h z hz with })

theorem storeGains_levels {zs : List Zone} (h : ∀ z ∈ zs, z.LevelsOk) (start : Nat) (gains : List Nat) :
    ∀ z ∈ storeGains zs start gains, z.LevelsOk :=
  storeGains_all gains (fun _ _ hz => { hz with }) zs start h

/-! ## Attempts (R117 to R120) -/

theorem LevelsSound.compareDrivers {s : State} (h : LevelsSound s) (c n : Nat) :
    LevelsSound (s.compareDrivers c n) := by
  unfold State.compareDrivers
  dsimp only
  split
  · exact (h.mapZones fun _ hz => hz.setMissing c n _).chainReport c _ _ _
  · split
    · exact h.chainReport c _ _ _
    · exact h

theorem LevelsSound.succeed {s : State} (h : LevelsSound s) (c n : Nat) : LevelsSound (s.succeed c n) := by
  have henter := ((h.compareDrivers c n).updChain c fun _ hc => hc.enterRunning s.now s.system.pollInterval n).mapZones
    fun _ hz => hz.relight c
  unfold State.succeed
  dsimp only
  split
  · exact henter.chainReport c 0 _ _
  · exact henter

theorem LevelsSound.continueAttempt {s : State} (h : LevelsSound s) (c n a : Nat) :
    LevelsSound (s.continueAttempt c n a) := by
  unfold State.continueAttempt
  split
  · exact h.updChain c fun _ hc => { hc.send s.now (x := .assign a _) (List.forall_mem_nil _) false with }
  · exact h.succeed c n

/-! ## The fault monitor (R132 to R140) -/

theorem LevelsSound.updRecord {s : State} (h : LevelsSound s) (c p : Nat) {f : Mirror → Mirror}
    (hf : ∀ m, (f m).shadow = m.shadow) : LevelsSound (s.updChain c fun ch => ch.updRecord p f) :=
  h.updChain c fun _ hc => hc.updRecord p fun m hm => (hf m).symm ▸ hm

theorem LevelsSound.compareHot {s : State} (h : LevelsSound s) (c p : Nat) (b : Bool) :
    LevelsSound (s.compareHot c p b) := by
  unfold State.compareHot
  split
  · exact h
  · exact LevelsSound.of_same (h.updRecord c p (f := fun m => { m with hot := b }) fun _ => rfl) (by simp)

theorem LevelsSound.compareSupply {s : State} (h : LevelsSound s) (c p : Nat) (b : Bool) :
    LevelsSound (s.compareSupply c p b) := by
  unfold State.compareSupply
  split
  · exact h
  · exact LevelsSound.of_same (h.updRecord c p (f := fun m => { m with supplyLow := b }) fun _ => rfl) (by simp)

theorem LevelsSound.statusCheck {s : State} (h : LevelsSound s) (c p : Nat) : LevelsSound (s.statusCheck c p) :=
  have hcount := h.updChain c (f := fun ch => { ch with damaged := sat16 ch.damaged }) fun _ hc => { hc with }
  hcount.queueSnapReport c p none _

theorem LevelsSound.interpret {s : State} (h : LevelsSound s) (c p : Nat) (r : PollReply) :
    LevelsSound (s.interpret c p r) := by
  have hfaults : LevelsSound { s with zones := setFaults s.zones (confirmedBy s.zones c p ((s.chain c).record p) r) } :=
    h.move rfl (setFaults_levels _) id id
  have hmarks := hfaults.updRecord c p (f := examineRecord s.zones c p r) fun _ => rfl
  exact (LevelsSound.compareHot (hmarks.of_same (by simp)) c p r.hot).compareSupply c p r.supplyLow

theorem LevelsSound.takeReply {s : State} (h : LevelsSound s) (c p : Nat) (r : PollReply) :
    LevelsSound (s.takeReply c p r) := by
  have htake := h.updRecord c p (f := fun m => m.takeReply r s.timebase.counter) fun _ => rfl
  unfold State.takeReply
  dsimp only
  split
  · exact htake.interpret c p r
  · exact htake.statusCheck c p

/-! ## Echoes (R86 to R94) -/

theorem LevelsSound.giveUp {s : State} (h : LevelsSound s) (c : Nat) (x : Sent) : LevelsSound (s.giveUp c x) := by
  cases x with
  | stage e => exact h.updChain c fun _ hc => (hc.giveUpStage e _).markProblem
  | latch m => exact h.updChain c fun _ hc => (hc.forgetGroups m).markProblem
  | poll a => exact h.updChain c fun _ hc => hc.markProblem
  | direct a k =>
    have hfix : LevelsSound (s.fixDirect c .linkError .none) := h.of_same (by simp)
    exact hfix.updChain c fun _ hc => hc.markProblem
  | assign a g => exact h.failAttempt c _
  | clear => exact h.failAttempt c _

/-- The frames still in flight once the oldest has left the list. -/
theorem Chain.Ranged.dropOldest {ch : Chain} (h : ch.Ranged) : { ch with inflight := ch.inflight.drop 1 }.Ranged :=
  { h with inflight := fun f hf => h.inflight f (List.mem_of_mem_drop hf) }

theorem LevelsSound.echoDamaged {s : State} (h : LevelsSound s) (c : Nat) {f : InFlight} (hf : levelsOk f.sent.duties) :
    LevelsSound (s.echoDamaged c f) := by
  have hcount : LevelsSound
      (s.updChain c fun ch => { ch with inflight := ch.inflight.drop 1, damaged := sat16 ch.damaged }) :=
    h.updChain c fun _ hc => { hc.dropOldest with }
  unfold State.echoDamaged
  dsimp only
  split
  · exact hcount.giveUp c _
  · exact hcount.updChain c fun _ hc => hc.requeue hf

theorem LevelsSound.acceptLatch {s : State} (h : LevelsSound s) (c : Nat) (m : BitVec 8) (n : Nat) :
    LevelsSound (s.acceptLatch c m n) := by
  have hlatched : LevelsSound
      (s.updChain c fun ch => { ch with latched := ch.latched || decide (ch.state = .running) }) :=
    h.updChain c fun _ hc => { hc with }
  unfold State.acceptLatch
  dsimp only
  split
  · exact (hlatched.updChain c fun _ hc => (hc.forgetGroups m).markProblem).chainReport c 0 _ _
  · exact hlatched

theorem LevelsSound.acceptClear {s : State} (h : LevelsSound s) (c n : Nat) : LevelsSound (s.acceptClear c n) :=
  (h.updChain c fun _ hc => hc.mapMirror (f := Mirror.cleared) fun m _ => m.unassign_shadow).continueAttempt c n 0

theorem LevelsSound.acceptAssign {s : State} (h : LevelsSound s) (c a : Nat) (g : Option Nat) (b : Bool) :
    LevelsSound (s.acceptAssign c a g b) := by
  unfold State.acceptAssign
  split
  · split
    · exact (h.updRecord c a (f := fun m => { m with assigned := true, group := g }) fun _ => rfl).continueAttempt c _ _
    · exact h.failAttempt c _
  · exact h

/-- Of the accepted frames only a STAGE brings levels, its own (R99). -/
theorem LevelsSound.acceptReply {s : State} (h : LevelsSound s) (c : Nat) {x : Sent} (hx : levelsOk x.duties)
    (r : Reply) :
    LevelsSound (s.acceptReply c x r) := by
  unfold State.acceptReply
  split
  · exact h.updChain c fun _ hc => hc.acceptStage hx _
  · exact h.acceptLatch c _ _
  · exact h.takeReply c _ _
  · exact h.acceptAssign c _ _ _
  next a code =>
    have htrim := h.updRecord c a (f := fun m => { m with trim := code }) fun _ => rfl
    exact htrim.of_same (by simp)
  · exact h.of_same (by simp)
  · split
    · exact h.acceptClear c _
    · exact h
  · exact h

theorem LevelsSound.checkEcho {s : State} (h : LevelsSound s) (c : Nat) (bits : List Bool) :
    LevelsSound (s.checkEcho c bits) := by
  unfold State.checkEcho
  split
  · exact h.linkFailure c _
  next f rest hflight =>
    have hf : levelsOk f.sent.duties := (h.chain c).inflight f (by simp [hflight])
    split
    · exact h.echoDamaged c hf
    · exact h.linkFailure c _
    · exact (h.updChain c fun _ hc => hc.dropOldest).acceptReply c hf _

/-! ## The panel line (R66, R177 to R179) -/

/-- The levels of the message begun next, and those that go on waiting, waited before. -/
theorem PanelPort.LevelsOk.next {p q : PanelPort} (h : p.LevelsOk) {m : PanelMessage} (hn : p.next = some (m, q)) :
    levelsOk m.values ∧ q.LevelsOk := by
  unfold PanelPort.next at hn
  split at hn
  · obtain ⟨rfl, rfl⟩ : _ ∧ _ := by simpa using hn
    exact ⟨List.forall_mem_nil _, { h with }⟩
  · split at hn
    · obtain ⟨rfl, rfl⟩ : _ ∧ _ := by simpa using hn
      exact ⟨List.forall_mem_nil _, { h with }⟩
    · split at hn
      next b rest hb =>
        obtain ⟨rfl, rfl⟩ : _ ∧ _ := by simpa using hn
        obtain ⟨hfirst, hrest⟩ : levelsOk b.values ∧ ∀ x ∈ rest, levelsOk x.values := by
          simpa only [hb, List.forall_mem_cons] using h.sections
        exact ⟨hfirst, { h with sections := hrest }⟩
      next => simp at hn

theorem PanelPort.LevelsOk.serve {p : PanelPort} (h : p.LevelsOk) (now : Nat) : (p.serve now).LevelsOk := by
  unfold PanelPort.serve
  split
  · exact h
  · split
    · exact h
    next m q hn =>
      obtain ⟨hm, hq⟩ := h.next hn
      exact ⟨hq.sections, fun x hx => Option.some.inj hx ▸ hm⟩

theorem LevelsSound.servePanel {s : State} (h : LevelsSound s) : LevelsSound s.servePanel :=
  h.move rfl id id fun hp => hp.serve _

theorem LevelsSound.placeNotice {s : State} (h : LevelsSound s) (n : WindowNotice) : LevelsSound (s.placeNotice n) := by
  unfold State.placeNotice
  split
  · exact LevelsSound.servePanel (h.move rfl id id fun hp => { hp with })
  · exact h.servePanel

theorem LevelsSound.markHoldEnded {s : State} (h : LevelsSound s) : LevelsSound s.markHoldEnded :=
  LevelsSound.servePanel (h.move rfl id id fun hp => { hp with })

theorem LevelsSound.queueSection {s : State} (h : LevelsSound s) {b : LightSection} (hb : levelsOk b.values) :
    LevelsSound (s.queueSection b) := by
  have hone : ∀ x ∈ [b], levelsOk x.values := List.forall_mem_singleton.2 hb
  unfold State.queueSection
  split
  · exact LevelsSound.servePanel
      (h.move rfl id id fun hp => { hp with sections := List.forall_mem_append.2 ⟨hp.sections, hone⟩ })
  · exact LevelsSound.servePanel (h.move rfl id id fun hp =>
      { hp with sections := List.forall_mem_append.2 ⟨fun x hx => hp.sections x (List.mem_of_mem_drop hx), hone⟩ })

/-! ## The schedule (R64 to R71) -/

theorem LevelsSound.zone_shown {s : State} (h : LevelsSound s) (i : Nat) : (s.zone i).shown ≤ 4095 :=
  (getD_all s.zones i Zone.fresh h.zoneLevels ⟨Nat.zero_le _, Nat.zero_le _, nofun⟩ : (s.zone i).LevelsOk).shown

/-- A section shows shown levels or 0 (R66). -/
theorem LevelsSound.buildSection {s : State} (h : LevelsSound s) (k : Nat) (outcomes : List CommitOutcome) :
    levelsOk (s.buildSection k outcomes).values := by
  refine List.forall_mem_map.2 fun i _ => ?_
  unfold sectionValue
  split
  · exact Nat.zero_le _
  · exact h.zone_shown i

/-- A commit point shows buffered levels (R64) and puts the shown ones into a section (R66). -/
theorem LevelsSound.commitGroup {s : State} (h : LevelsSound s) (k : Nat) : LevelsSound (s.commitGroup k) := by
  have hcommit : LevelsSound { s with
      schedule := s.schedule.updPoint k fun p => { p with reached := true, outcomes := s.outcomes k }
      zones := s.zones.mapIdx (s.commitZone k (s.outcomes k))
      chains := s.chains.mapIdx fun c ch => if outcomeOf (s.outcomes k) c = .late then ch.lateFor k else ch } := by
    refine h.move rfl (fun hz => forall_mem_mapIdx fun i z hm => ?_) (fun hc => forall_mem_mapIdx fun c ch hm => ?_) id
    · unfold State.commitZone
      split
      · exact { hz z hm with shown := h.buffer.getD i }
      · exact hz z hm
    · split
      · exact (hc ch hm).lateFor k
      · exact hc ch hm
  exact hcommit.queueSection (hcommit.buildSection k _)

theorem LevelsSound.commitGroups {s : State} (h : LevelsSound s) (ks : List Nat) : LevelsSound (s.commitGroups ks) :=
  LevelsSound.foldl (fun _ k hs => hs.commitGroup k) ks h

theorem LevelsSound.latchAt {s : State} (h : LevelsSound s) (t : Nat) : LevelsSound (s.latchAt t) :=
  h.move rfl id (fun hc => forall_mem_mapIdx fun _ ch hm => (hc ch hm).oweLatch _) id

theorem LevelsSound.moveHold {s : State} (h : LevelsSound s) : LevelsSound s.moveHold := by
  have hmove : LevelsSound { s with schedule := s.schedule.moveHold } := h.of_same rfl
  unfold State.moveHold
  dsimp only
  split
  · exact hmove.markHoldEnded.of_same (by simp)
  · exact hmove

/-! ## The stages of a pass (R31 to R42, R50) -/

theorem foldl_le_of_forall {f : Nat → Nat → Nat} (hf : ∀ a b, f a b ≤ max a b) (ls : List Nat) :
    ∀ {l : Nat}, levelsOk ls → l ≤ 4095 → ls.foldl f l ≤ 4095 := by
  induction ls with
  | nil => exact fun _ hl => hl
  | cons a ls ih =>
    intro l hls hl
    obtain ⟨ha, hls⟩ := List.forall_mem_cons.1 hls
    exact ih hls ((hf l a).trans (max_le hl ha))

theorem levelsOk_coveringLevels {ws : List Window} (h : ∀ w ∈ ws, w.level ≤ 4095) (kind : WindowKind) (col row : Nat) :
    levelsOk (coveringLevels ws kind col row) :=
  List.forall_mem_map.2 fun w hw => h w (List.mem_of_mem_filter hw)

theorem boundedLevel_le {ws : List Window} (hws : ∀ w ∈ ws, w.level ≤ 4095) {override : Option Nat}
    (ho : ∀ l, override = some l → l ≤ 4095) (col row : Nat) {lr : Nat} (hlr : lr ≤ 4095) :
    boundedLevel ws override col row lr ≤ 4095 := by
  unfold boundedLevel
  split
  · exact ho _ rfl
  · rw [lowerToCeilings_eq, raiseToFloors_eq]
    exact foldl_le_of_forall (fun a b => min_le_max) _ (levelsOk_coveringLevels hws .ceiling col row)
      (foldl_le_of_forall (fun a b => le_refl _) _ (levelsOk_coveringLevels hws .floor col row) hlr)

/-- An eased level lies between the bounded level and the one before it (R33). -/
theorem easedLevel_le (bypass : Bool) (lb p rise fall : Nat) : easedLevel bypass lb p rise fall ≤ max lb p := by
  unfold easedLevel
  split
  · exact le_max_left _ _
  · split <;> omega

theorem deratedDrive_le {h : Nat} (hh : h ≤ 256) (dc : Nat) : deratedDrive dc h ≤ dc :=
  Nat.div_le_of_le_mul (by rw [Nat.mul_comm 256]; exact Nat.mul_le_mul_left dc hh)

theorem limitedDrive_le {f : Nat} (hf : f ≤ 65536) (dt : Nat) : limitedDrive dt f ≤ dt :=
  Nat.div_le_of_le_mul (by rw [Nat.mul_comm 65536]; exact Nat.mul_le_mul_left dt hf)

theorem budgetScale_le (b p : Nat) : budgetScale b p ≤ 65536 := by
  unfold budgetScale
  split
  · exact le_refl _
  · exact Nat.div_le_of_le_mul (Nat.mul_le_mul_right _ (by omega))

theorem LevelsSound.sampledFactor {s : State} (h : LevelsSound s) (z : SampledZone) : (s.zoneChain z).factor ≤ 256 := by
  unfold State.zoneChain
  split
  · exact getD_all (p := fun x : SampledChain => x.factor ≤ 256) _ _ _ h.factors (Nat.zero_le _)
  · exact Nat.zero_le _

theorem LevelsSound.sampledOverride {s : State} (h : LevelsSound s) (i : Nat) :
    ∀ l, (s.sampledZone i).override = some l → l ≤ 4095 :=
  getD_all (p := fun z : SampledZone => ∀ l, z.override = some l → l ≤ 4095) _ _ _ h.sampledOverrides nofun

theorem LevelsSound.zone_eased {s : State} (h : LevelsSound s) (i : Nat) : (s.zone i).eased ≤ 4095 :=
  (getD_all s.zones i Zone.fresh h.zoneLevels ⟨Nat.zero_le _, Nat.zero_le _, nofun⟩ : (s.zone i).LevelsOk).eased

end Sys2Proof.Machine

namespace Sys2Proof.Machine

/-! # The levels of the part through a pass and a frame start (R13 to R20, R31 to R52) -/

/-! ## Composition and limiting (R31 to R38) -/

theorem Composed.levelsOk_iff (x : Composed) :
    levelsOk x.levels ↔ x.lb ≤ 4095 ∧ x.le ≤ 4095 ∧ x.dc ≤ 4095 ∧ x.dt ≤ 4095 := by
  simp [levelsOk, Composed.levels]

theorem ProbeRecord.levelsOk_iff (r : ProbeRecord) : levelsOk r.levels ↔ r.lr ≤ 4095 ∧ r.lb ≤ 4095 ∧ r.le ≤ 4095 ∧
    r.dc ≤ 4095 ∧ r.dt ≤ 4095 ∧ r.dl ≤ 4095 ∧ r.lm ≤ 4095 := by
  simp [levelsOk, ProbeRecord.levels]

/-- Each composed value is bounded by the one before it, and the bounded level by the levels it is chosen from. -/
theorem LevelsSound.composeZone {s : State} (h : LevelsSound s) (i : Nat) : levelsOk (s.composeZone i).levels := by
  by_cases hlit : (s.sampledZone i).state = .lit
  · rw [s.composeZone_lit hlit, Composed.levelsOk_iff]
    have hlb := boundedLevel_le h.sampledWindows (h.sampledOverride i) (i % s.grid.cols) (i / s.grid.cols)
      (h.current.getD i)
    have hle := (easedLevel_le s.pass.sample.bypass _ (s.zone i).eased s.pass.sample.rise s.pass.sample.fall).trans
      (max_le hlb (h.zone_eased i))
    have hdc : ∀ le, calibratedDrive le (s.sampledZone i).gain ≤ 4095 := fun le => min_le_left _ _
    exact ⟨hlb, hle, hdc _, (deratedDrive_le (h.sampledFactor _) _).trans (hdc _)⟩
  · rw [s.composeZone_dark hlit]
    exact levelsOk_replicate_zero 4

theorem countdownWindows_levels {ws : List Window} (h : ∀ w ∈ ws, w.level ≤ 4095) :
    ∀ w ∈ countdownWindows ws, w.level ≤ 4095 := by
  intro x hx
  obtain ⟨w, hw, hwx⟩ := List.mem_filterMap.1 hx
  rw [countWindow_eq] at hwx
  split at hwx
  · simp at hwx
  · split at hwx <;> obtain rfl := Option.some.inj hwx <;> exact h w hw

theorem LevelsSound.compositionEnd {s : State} (h : LevelsSound s) (t power : Nat) :
    LevelsSound { s.arrive t with
      pass := { s.pass with
        phase := .limiting
        work := (List.range s.grid.count).map s.composeZone
        power := power }
      windows := countdownWindows s.windows } :=
  { h with
    windows := countdownWindows_levels h.windows
    work := List.forall_mem_map.2 fun i _ => h.composeZone i }

theorem LevelsSound.limitingEnd {s : State} (h : LevelsSound s) (t : Nat) :
    LevelsSound { s.arrive t with
      pass := { s.pass with
        phase := .emitting
        blocks := 0
        scale := budgetScale s.pass.sample.budget s.pass.power } } :=
  { h with scale := budgetScale_le _ _ }

/-! ## Emission and hand-over (R39 to R42, R50, R95) -/

theorem LevelsSound.composed {s : State} (h : LevelsSound s) (i : Nat) : levelsOk (s.composed i).levels :=
  getD_all (p := fun x : Composed => levelsOk x.levels) _ _ _ h.work (levelsOk_replicate_zero 4)

theorem LevelsSound.driveOf {s : State} (h : LevelsSound s) (i : Nat) : s.driveOf i ≤ 4095 := by
  unfold State.driveOf
  split
  · exact (limitedDrive_le h.scale _).trans ((Composed.levelsOk_iff _).1 (h.composed i)).2.2.2
  · exact Nat.zero_le _

theorem State.lightOf_le (s : State) (i : Nat) : s.lightOf i ≤ 4095 := by
  unfold State.lightOf
  split
  · exact min_le_left _ _
  · exact Nat.zero_le _

theorem LevelsSound.probeRecord {s : State} (h : LevelsSound s) (i : Nat) : levelsOk (s.probeRecord i).levels := by
  obtain ⟨hlb, hle, hdc, hdt⟩ := (Composed.levelsOk_iff _).1 (h.composed i)
  exact (ProbeRecord.levelsOk_iff _).2 ⟨h.current.getD i, hlb, hle, hdc, hdt, h.driveOf i, s.lightOf_le i⟩

theorem LevelsSound.emitZone {s : State} (h : LevelsSound s) (i : Nat) : LevelsSound (s.emitZone i) := by
  have hzone : LevelsSound (s.updZone i fun z => { z with eased := (s.composed i).le }) :=
    h.updZone i fun _ hz => { hz with eased := ((Composed.levelsOk_iff _).1 (h.composed i)).2.1 }
  refine { hzone with buffer := fun x hx => ?_, probe := fun r hr => ?_ }
  · rcases List.mem_or_eq_of_mem_set hx with hx | rfl
    · exact h.buffer x hx
    · exact s.lightOf_le i
  · replace hr : (s.probeAfter i).record = some r := hr
    unfold State.probeAfter at hr
    split at hr
    · obtain rfl := Option.some.inj hr
      exact h.probeRecord i
    · exact h.probe r hr

/-- A hand-over holds limited drives (R41). -/
theorem LevelsSound.handOver {s : State} (h : LevelsSound s) (k c : Nat) : ∀ z ∈ s.handOver k c, z.drive ≤ 4095 := by
  intro z hz
  obtain ⟨i, -, hi⟩ := List.mem_filterMap.1 hz
  split at hi
  · split at hi
    · obtain rfl := Option.some.inj hi
      exact h.driveOf i
    · simp at hi
  · simp at hi

theorem LevelsSound.emitGroup {s : State} (h : LevelsSound s) (k : Nat) : LevelsSound (s.emitGroup k) := by
  refine h.move rfl id (fun hc => forall_mem_mapIdx fun c ch hm => ?_) id
  split
  · exact (hc ch hm).takeHandOver k _ _ (h.handOver k c)
  · exact hc ch hm

theorem PassEngine.blockDone_store (p : PassEngine) (n : Nat) : (p.blockDone n).store = p.store := by
  unfold PassEngine.blockDone
  split <;> rfl

theorem LevelsSound.afterBlock {s : State} (h : LevelsSound s) (hp : s.pass.phase = .emitting) :
    LevelsSound s.afterBlock := by
  have hzones := LevelsSound.foldl (f := State.emitZone) (fun _ i hs => hs.emitZone i) (s.blockZones s.pass.blocks)
    (h.of_same (u := s.arrive s.emitDue) rfl)
  have hgroups := LevelsSound.foldl (f := State.emitGroup) (fun _ k hs => hs.emitGroup k)
    (s.groupsOfBlock s.pass.blocks) hzones
  rw [← Host.Outcome.next.inj ((if_pos hp).symm.trans (execEmissionBlock_emitting hp))]
  refine LevelsSound.serveAll (hgroups.move ?_ id id id)
  simp only [State.levelStore, PassEngine.blockDone_store]

/-! ## The beginning of a pass (R15, R28) -/

theorem LevelsSound.takeSlot {s : State} (h : LevelsSound s) : LevelsSound s.takeSlot := by
  unfold State.takeSlot
  split
  next x hx => exact { h with slot := nofun, current := h.slot x hx }
  next => exact h.of_same rfl

theorem markSampled_levels {ws : List Window} (h : ∀ w ∈ ws, w.level ≤ 4095) : ∀ w ∈ markSampled ws, w.level ≤ 4095 :=
  List.forall_mem_map.2 fun w hw => h w hw

/-- A pass samples what is in range. -/
theorem LevelsSound.laid {s : State} (h : LevelsSound s) : LevelsSound s.laid := by
  have htake := h.takeSlot
  have hrequest : s.takeSlot.request = s.laid.request := by rw [s.takeSlot_eq]; rfl
  refine LevelsSound.mk
    (openSet := hrequest ▸ htake.openSet)
    (slot := hrequest ▸ htake.slot)
    (current := hrequest ▸ htake.current)
    (windows := markSampled_levels h.windows)
    (zones := List.forall_mem_map.2 fun z hz => ?_)
    (overrides := List.forall_mem_map.2 h.overrides)
    (sampledWindows := markSampled_levels htake.windows)
    (sampledOverrides := List.forall_mem_map.2 htake.overrides)
    (work := fun x hx => ?_)
    (factors := forall_mem_mapIdx fun _ => htake.applied)
    (buffer := h.buffer) (chains := h.chains) (sections := h.sections) (sending := h.sending) (probe := h.probe)
    (scale := h.scale) (applied := h.applied) (floor := h.floor)
  · exact ⟨(h.zoneLevels z hz).beginPass.eased, (h.zoneLevels z hz).beginPass.shown⟩
  · rw [List.eq_of_mem_replicate hx]
    exact levelsOk_replicate_zero 4

theorem LevelsSound.maybePass {s : State} (h : LevelsSound s) : LevelsSound s.maybePass := by
  unfold State.maybePass
  split
  · rw [State.beginPass_eq]
    exact h.laid.commitGroups _
  · exact h

/-! ## Frame starts (R52) -/

theorem LevelsSound.slewAll {s : State} (h : LevelsSound s) : LevelsSound s.slewAll := by
  unfold State.slewAll
  split
  · refine h.mapChains fun ch hc => { hc with applied := ?_ }
    exact (slew_range _ _ 0 256 ⟨Nat.zero_le _, hc.applied⟩ ⟨Nat.zero_le _, targetFactor_le h.floor ch⟩).2
  · exact h

theorem LevelsSound.closeFrame {s : State} (h : LevelsSound s) : LevelsSound s.closeFrame := by
  refine h.move rfl id (fun hc => forall_mem_mapIdx fun c ch hm => ?_) id
  rw [State.closeChain_eq, ← Chain.foldl_lateFor]
  generalize s.unreached.filter _ = ks
  have hlate : ∀ x : Chain, x.Ranged → (ks.foldl Chain.lateFor x).Ranged := by
    induction ks with
    | nil => exact fun _ hx => hx
    | cons k ks ih => exact fun x hx => ih _ (hx.lateFor k)
  exact hlate _ ((hc ch hm).oweLatch _)

theorem LevelsSound.overrun {s : State} (h : LevelsSound s) : LevelsSound s.overrun := by
  unfold State.overrun
  split
  · exact h
  · exact h.of_same (by simp [PassEngine.abandon])

theorem LevelsSound.clearFrame {s : State} (h : LevelsSound s) : LevelsSound s.clearFrame :=
  h.move rfl id (fun hc => List.forall_mem_map.2 fun ch hm => { hc ch hm with }) id

theorem LevelsSound.endPeriod {s : State} (h : LevelsSound s) (c : Nat) : LevelsSound (s.endPeriod c) := by
  unfold State.endPeriod
  dsimp only
  split
  · exact h.updChain c fun _ hc => { hc with }
  · split
    · exact h.recover c _
    · exact h.updChain c fun _ hc => { hc with }

theorem LevelsSound.enterService {s : State} (h : LevelsSound s) : LevelsSound s.enterService := by
  unfold State.enterService
  split
  · exact h.of_same rfl
  · exact h

theorem LevelsSound.deliverFrame {s : State} (h : LevelsSound s) : LevelsSound s.deliverFrame :=
  have hperiods := LevelsSound.foldl (fun _ c hs => hs.endPeriod c) (List.range 8)
    h.slewAll.closeFrame.overrun.clearFrame
  hperiods.moveHold.enterService.maybePass.serveAll

theorem LevelsSound.frameStart {s : State} (h : LevelsSound s) : LevelsSound s.frameStart :=
  LevelsSound.deliverFrame (h.of_same (by simp))

/-! ## The request store and the window list (R13 to R20, R165 to R170) -/

theorem writeRun_levels {fs : List (Nat → Nat)} (hf : ∀ f ∈ fs, ∀ l, l ≤ 4095 → f l ≤ 4095) :
    ∀ {l : List Nat} (start : Nat), levelsOk l → levelsOk (writeRun l start fs) := by
  induction fs with
  | nil => exact fun _ hl => hl
  | cons f fs ih =>
    obtain ⟨hfirst, hrest⟩ := List.forall_mem_cons.1 hf
    exact fun start hl => ih hrest (start + 1) (modify_all _ start f hl fun x hx => hfirst x (hl x hx))

theorem LevelsSound.writeOpen {s : State} (h : LevelsSound s) {levels : List Nat} (hl : levelsOk levels) :
    LevelsSound { s with request := { s.request with openSet := levels } } := { h with openSet := hl }

theorem LevelsSound.takeRun {s : State} (h : LevelsSound s) (fine : Bool) (start : Nat) {writes : List (Nat → Nat)}
    (hw : ∀ f ∈ writes, ∀ l, l ≤ 4095 → f l ≤ 4095) : LevelsSound (s.takeRun fine start writes) := by
  have hwrite := h.writeOpen (writeRun_levels hw start h.openSet)
  unfold State.takeRun
  split
  · exact hwrite.of_same (by simp)
  · exact hwrite.of_same (by simp)
  · exact h.of_same (by simp)

theorem run12Level_le (v : BitVec 12) (l : Nat) : run12Level v l ≤ 4095 := Nat.le_of_lt_succ v.isLt

theorem run8Level_le (v : BitVec 8) (l : Nat) : run8Level v l ≤ 4095 := by
  have := v.isLt
  unfold run8Level
  omega

theorem fine4Level_le (v : BitVec 4) {l : Nat} (h : l ≤ 4095) : fine4Level v l ≤ 4095 := by
  have := v.isLt
  unfold fine4Level
  omega

theorem nudgeLevel_le (delta : BitVec 8) (l : Nat) : nudgeLevel delta l ≤ 4095 := by
  unfold nudgeLevel
  omega

theorem nudgeLevels_levels {l : List Nat} (h : levelsOk l) (g : Grid) (r : Rect) (delta : BitVec 8) :
    levelsOk (nudgeLevels g r delta l) :=
  forall_mem_mapIdx fun _ x hx => by
    split
    · exact nudgeLevel_le delta x
    · exact h x hx

theorem LevelsSound.closeSet {s : State} (h : LevelsSound s) (tag : Nat) (cut : Bool) :
    LevelsSound (s.closeSet tag cut) :=
  { h with slot := fun _ hx => Option.some.inj hx ▸ h.openSet }

theorem LevelsSound.setWindows {s : State} (h : LevelsSound s) {ws : List Window} (hw : ∀ w ∈ ws, w.level ≤ 4095) :
    LevelsSound { s with windows := ws } := { h with windows := hw }

/-- R18 lets no level above 4095 into the list. -/
theorem LevelsSound.placeWindow {s : State} (h : LevelsSound s) {owner : WindowOwner} {w : WindowFields}
    {ws : List Window} (hok : placeWindow s.grid owner w s.windows = .ok ws) :
    LevelsSound { s with windows := ws } := by
  have hcases := placeWindow_cases s.grid owner w s.windows
  simp only [hok, reduceCtorEq, and_false, false_or, or_false, Except.ok.injEq] at hcases
  obtain ⟨-, -, hlevel, -, -, -, ⟨-, rfl⟩ | ⟨-, -, rfl⟩⟩ := hcases
  · refine h.setWindows (List.forall_mem_map.2 fun x hx => ?_)
    split
    · exact hlevel
    · exact h.windows x hx
  · exact h.setWindows (List.forall_mem_append.2 ⟨h.windows, List.forall_mem_singleton.2 hlevel⟩)

theorem LevelsSound.removeWindow {s : State} (h : LevelsSound s) (owner : WindowOwner) (n : Nat) :
    LevelsSound { s with windows := removeWindow owner n s.windows } :=
  h.setWindows fun w hw => h.windows w (List.mem_of_mem_filter hw)

/-! ## Starting points (R2, R187) -/

theorem Zone.LevelsOk.fresh : Zone.fresh.LevelsOk := ⟨Nat.zero_le _, Nat.zero_le _, nofun⟩

/-- A change of grid makes the request sets, the zone records and the section buffer afresh. -/
theorem LevelsSound.changeGrid {s : State} (h : LevelsSound s) (g : Grid) : LevelsSound (s.changeGrid g) :=
  have hzone : ∀ z ∈ List.replicate g.count Zone.fresh, z.LevelsOk := fun _ hz =>
    List.eq_of_mem_replicate hz ▸ Zone.LevelsOk.fresh
  { h with
    openSet := levelsOk_replicate_zero _
    slot := nofun
    current := levelsOk_replicate_zero _
    windows := List.forall_mem_nil _
    zones := fun z hz => ⟨(hzone z hz).eased, (hzone z hz).shown⟩
    overrides := fun z hz => (hzone z hz).override
    buffer := levelsOk_replicate_zero _
    probe := nofun }

theorem LevelsSound.restart {s : State} (h : LevelsSound s) : LevelsSound s.restart :=
  have hchain : ∀ ch ∈ s.restart.chains, ch.Ranged :=
    List.forall_mem_map.2 fun ch hch => (h.ranged ch hch).restart s.now
  { h with
    openSet := levelsOk_replicate_zero _
    slot := nofun
    current := levelsOk_replicate_zero _
    windows := List.forall_mem_nil _
    zones := List.forall_mem_map.2 fun _ _ => ⟨Nat.zero_le _, Nat.zero_le _⟩
    overrides := List.forall_mem_map.2 fun _ _ => nofun
    work := fun _ hx => List.eq_of_mem_replicate hx ▸ levelsOk_replicate_zero 4
    buffer := levelsOk_replicate_zero _
    chains := fun ch hch => (hchain ch hch).toLevelsOk
    probe := nofun
    scale := le_refl _
    applied := fun ch hch => (hchain ch hch).applied }

theorem levelsSound_powered (t : Nat) (queue : List Instr) : LevelsSound (State.powered t queue) :=
  have hchain : ∀ ch ∈ List.replicate 8 Chain.powerOn, ch.Ranged := fun ch hch =>
    List.eq_of_mem_replicate hch ▸ Chain.Ranged.powerOn
  { openSet := List.forall_mem_nil _
    slot := nofun
    current := List.forall_mem_nil _
    windows := List.forall_mem_nil _
    zones := List.forall_mem_nil _
    overrides := List.forall_mem_nil _
    sampledWindows := List.forall_mem_nil _
    sampledOverrides := List.forall_mem_nil _
    work := List.forall_mem_nil _
    buffer := List.forall_mem_nil _
    chains := fun ch hch => (hchain ch hch).toLevelsOk
    sections := List.forall_mem_nil _
    sending := nofun
    probe := nofun
    scale := le_refl _
    factors := List.forall_mem_nil _
    applied := fun ch hch => (hchain ch hch).applied
    floor := (by decide : 128 ≤ 256) }

end Sys2Proof.Machine

namespace Sys2Proof.Machine

/-! # Every command keeps the levels in range and the budget met (R37 to R39, R43)

`PassSafe s u` is what the two invariants claim of a step from `s` to `u`, each from its own premise. A command
that leaves their fields alone keeps both (`PassSafe.of_same`), and most leave those of the budget alone
(`PassSafe.of_levels`). -/

/-- What a step from `s` to `u` keeps of the levels and of the budget. -/
structure PassSafe (s u : State) : Prop where
  levels : LevelsSound s → LevelsSound u
  budget : BudgetSound s → BudgetSound u

theorem PassSafe.refl (s : State) : PassSafe s s := ⟨id, id⟩

/-- What the budget is about: the account of the pass, under the grid, in service only. -/
@[simp] def State.budgetParts (s : State) : Grid × (PassPhase × Sample × List Composed × Nat × Nat) × PartState :=
  (s.grid, s.pass.account, s.system.part)

/-- A step that moves the levels, but nothing the budget is about. -/
theorem PassSafe.of_levels {s u : State} (same : u.budgetParts = s.budgetParts)
    (levels : LevelsSound s → LevelsSound u) : PassSafe s u := by
  obtain ⟨hgrid, haccount, hpart⟩ : u.grid = s.grid ∧ u.pass.account = s.pass.account ∧
      u.system.part = s.system.part := by
    simpa only [State.budgetParts, Prod.mk.injEq] using same
  exact ⟨levels, fun h => h.of_same hgrid haccount (hpart ▸ id)⟩

/-- A step that leaves what holds a level, and what the budget is about, as it is. -/
theorem PassSafe.of_same {s u : State} (same : u.levelParts = s.levelParts ∧ u.budgetParts = s.budgetParts) :
    PassSafe s u :=
  .of_levels same.2 fun h => h.of_same same.1

theorem Yields.passSafe {s u : State} (h : PassSafe s u) : Yields (.next u) (PassSafe s) := .next h

theorem LevelsSound.arrive {s : State} (h : LevelsSound s) (t : Nat) : LevelsSound (s.arrive t) := h.of_same (by simp)

theorem LevelsSound.answer {s : State} (h : LevelsSound s) (cmd : SysCommand) (r : SysResult) :
    LevelsSound (s.answer cmd r) := h.of_same (by simp)

theorem LevelsSound.pictureResult {s : State} (h : LevelsSound s) (r : PictureResult) :
    LevelsSound (s.pictureResult r) := h.of_same (by simp)

/-- A command that is refused, or has only its answer, at the moment it is taken. -/
theorem State.refused_passSafe (s : State) (t : Nat) (cmd : SysCommand) (r : SysResult) :
    Yields (.next ((s.arrive t).answer cmd r)) (PassSafe s) := .passSafe (.of_same (by simp))

/-! ## System configuration (chapters 1, 3, 8, 11) -/

theorem execSetGrid_passSafe (t cols rows : Nat) (s : State) : Yields (execSetGrid t cols rows s) (PassSafe s) := by
  unfold execSetGrid
  dsimp only
  split
  · exact s.refused_passSafe t _ _
  next hconfig =>
    split
    · exact s.refused_passSafe t _ _
    · split
      · exact s.refused_passSafe t _ _
      · exact .passSafe
          { levels := fun h => ((h.arrive t).changeGrid _).answer _ _
            budget := fun h => .of_idle (h.idle_of_config (not_not.1 hconfig)) }

theorem execSetChain_passSafe (t c d w : Nat) (sensor : Option Nat) (s : State) :
    Yields (execSetChain t c d w sensor s) (PassSafe s) := by
  unfold execSetChain
  dsimp only
  split
  · exact s.refused_passSafe t _ _
  · split
    · exact s.refused_passSafe t _ _
    · refine .passSafe (.of_levels (by simp) fun h => ((h.arrive t).updChain c ?_).answer _ _)
      exact fun _ hc => { hc with }

theorem Zone.LevelsOk.mapTo {z : Zone} (h : z.LevelsOk) (x : Channel) : (z.mapTo x).LevelsOk := by
  rw [Zone.mapTo_eq]
  exact { h with }

theorem Zone.LevelsOk.unmap {z : Zone} (h : z.LevelsOk) : z.unmap.LevelsOk := by
  rw [Zone.unmap_eq]
  exact { h with }

theorem execMapZone_passSafe (t z c p k : Nat) (s : State) : Yields (execMapZone t z c p k s) (PassSafe s) := by
  unfold execMapZone
  dsimp only
  split
  · exact s.refused_passSafe t _ _
  · split
    · exact s.refused_passSafe t _ _
    · split
      · exact s.refused_passSafe t _ _
      · exact .passSafe (.of_levels (by simp) fun h => ((h.arrive t).updZone z fun _ hz => hz.mapTo _).answer _ _)

theorem execUnmapZone_passSafe (t z : Nat) (s : State) : Yields (execUnmapZone t z s) (PassSafe s) := by
  unfold execUnmapZone
  dsimp only
  split
  · exact s.refused_passSafe t _ _
  · split
    · exact s.refused_passSafe t _ _
    · exact .passSafe (.of_levels (by simp) fun h => ((h.arrive t).updZone z fun _ hz => hz.unmap).answer _ _)

theorem execSetGroups_passSafe (t g : Nat) (offsets : List Nat) (lead : Nat) (s : State) :
    Yields (execSetGroups t g offsets lead s) (PassSafe s) := by
  unfold execSetGroups
  dsimp only
  split
  · exact s.refused_passSafe t _ _
  · split
    · exact s.refused_passSafe t _ _
    · exact .passSafe (.of_same (by simp))

theorem execSetProfile_passSafe (t : Nat) (profile : Profile) (s : State) :
    Yields (execSetProfile t profile s) (PassSafe s) := by
  unfold execSetProfile
  dsimp only
  split <;> exact .passSafe (.of_same (by simp))

/-- The settings of the next pass are no part of the one in progress (R28, R30). -/
theorem execSetPower_passSafe (t : Nat) (budget : BitVec 16) (s : State) :
    Yields (execSetPower t budget s) (PassSafe s) :=
  .passSafe (.of_same ⟨rfl, rfl⟩)

theorem execSetEasing_passSafe (t : Nat) (rise fall : BitVec 16) (s : State) :
    Yields (execSetEasing t rise fall s) (PassSafe s) := by
  unfold execSetEasing
  dsimp only
  split
  · exact s.refused_passSafe t _ _
  · exact .passSafe (.of_same ⟨rfl, rfl⟩)

theorem execSetService_passSafe (t pollUs holdMs : Nat) (s : State) :
    Yields (execSetService t pollUs holdMs s) (PassSafe s) := by
  unfold execSetService
  dsimp only
  split
  · exact .passSafe
      (.of_levels (by simp) fun h =>
        h.move rfl id (fun hc => List.forall_mem_map.2 fun ch hm => (hc ch hm).restartTick _) id)
  · exact s.refused_passSafe t _ _

theorem execSetThermal_passSafe (t : Nat) (p : ThermalParams) (s : State) :
    Yields (execSetThermal t p s) (PassSafe s) := by
  unfold execSetThermal
  dsimp only
  split
  next hp =>
    obtain ⟨-, -, -, -, ⟨-, hMin⟩, -⟩ := (thermalInRange_iff p).1 hp
    exact .passSafe (.of_levels (by simp) fun h => { h with floor := hMin })
  next => exact s.refused_passSafe t _ _

theorem execSetTimebase_passSafe (t period : Nat) (s : State) : Yields (execSetTimebase t period s) (PassSafe s) := by
  unfold execSetTimebase
  dsimp only
  split <;> exact .passSafe (.of_same (by simp))

/-! ## Zone service (chapters 1 and 7) -/

theorem execLoadGains_passSafe (t start : Nat) (gains : List Nat) (s : State) :
    Yields (execLoadGains t start gains s) (PassSafe s) := by
  unfold execLoadGains
  dsimp only
  split
  · exact s.refused_passSafe t _ _
  · exact .passSafe (.of_levels (by simp) fun h => h.move rfl (fun hz => storeGains_levels hz start gains) id id)

theorem execSetOverride_passSafe (t z l : Nat) (s : State) : Yields (execSetOverride t z l s) (PassSafe s) := by
  unfold execSetOverride
  dsimp only
  split
  · exact s.refused_passSafe t _ _
  next hrange =>
    have hl : l ≤ 4095 := by omega
    refine .passSafe (.of_levels (by simp) fun h => ((h.arrive t).updZone z ?_).answer _ _)
    exact fun _ hz => { hz with override := fun _ hx => Option.some.inj hx ▸ hl }

theorem execClearOverride_passSafe (t z : Nat) (s : State) : Yields (execClearOverride t z s) (PassSafe s) := by
  unfold execClearOverride
  dsimp only
  split
  · exact s.refused_passSafe t _ _
  · refine .passSafe (.of_levels (by simp) fun h => ((h.arrive t).updZone z ?_).answer _ _)
    exact fun _ hz => { hz with override := nofun }

theorem execClearFault_passSafe (t z : Nat) (s : State) : Yields (execClearFault t z s) (PassSafe s) := by
  have hzone : LevelsSound s → LevelsSound ((s.arrive t).updZone z Zone.clearFault) := fun h =>
    (h.arrive t).updZone z fun _ hz => { hz with }
  unfold execClearFault
  dsimp only
  split
  · exact s.refused_passSafe t _ _
  · split
    · exact .passSafe (.of_levels (by simp) fun h => (hzone h).answer _ _)
    next x _ =>
      refine .passSafe (.of_levels (by simp) fun h => ((hzone h).updRecord x.chain x.position ?_).answer _ _)
      intro m
      split <;> rfl

theorem execProbe_passSafe (t z : Nat) (mode : ProbeMode) (s : State) : Yields (execProbe t z mode s) (PassSafe s) := by
  unfold execProbe
  dsimp only
  split
  · exact s.refused_passSafe t _ _
  · exact .passSafe (.of_levels (by simp) fun h => { h with probe := nofun })

theorem execReadZone_passSafe (t z : Nat) (s : State) : Yields (execReadZone t z s) (PassSafe s) := by
  unfold execReadZone
  dsimp only
  split <;> exact .passSafe (.of_same (by simp))

theorem execReadCounters_passSafe (t : Nat) (s : State) : Yields (execReadCounters t s) (PassSafe s) :=
  .passSafe (.of_levels (by simp) fun h =>
    h.move rfl id (fun hc => List.forall_mem_map.2 fun ch hm => { hc ch hm with }) id)

/-! ## Starting points and chains (chapters 6 and 11) -/

theorem execStart_passSafe (t : Nat) (s : State) : Yields (execStart t s) (PassSafe s) := by
  unfold execStart
  dsimp only
  split
  · exact s.refused_passSafe t _ _
  · split
    · exact s.refused_passSafe t _ _
    · exact .passSafe
        { levels := fun h => h.move rfl id (fun hc => List.forall_mem_map.2 fun ch hm => (hc ch hm).startUp _) id
          budget := fun h => h.of_same rfl rfl (by simp) }

/-- A pass in progress at STOP is abandoned with its working store (R48, R51). -/
theorem PassEngine.stop_eq (p : PassEngine) : p.stop = { p with
    phase := .idle
    work := if p.phase = .idle then p.work else []
    power := if p.phase = .idle then p.power else 0
    entryMark := false
    emitted := List.replicate 8 false } := by
  unfold PassEngine.stop
  split
  next h => rw [← h]
  next => rfl

theorem execStop_passSafe (t : Nat) (s : State) : Yields (execStop t s) (PassSafe s) := by
  unfold execStop
  simp only [State.arrive_pass, PassEngine.stop_eq]
  refine .passSafe { levels := fun h => ?_, budget := fun _ => .of_idle rfl }
  have hchain : ∀ ch ∈ s.chains.map (Chain.halt · (s.arrive t).now), ch.Ranged :=
    List.forall_mem_map.2 fun ch hm => (h.ranged ch hm).halt _
  refine { h with
    work := ?_
    chains := fun ch hm => (hchain ch hm).toLevelsOk
    applied := fun ch hm => (hchain ch hm).applied }
  show ∀ x ∈ if s.pass.phase = .idle then s.pass.work else [], levelsOk x.levels
  split
  · exact h.work
  · exact List.forall_mem_nil _

theorem execRestartChain_passSafe (t c : Nat) (s : State) : Yields (execRestartChain t c s) (PassSafe s) := by
  unfold execRestartChain
  dsimp only
  split
  · exact s.refused_passSafe t _ _
  · split
    · exact s.refused_passSafe t _ _
    · split
      · exact s.refused_passSafe t _ _
      · refine .passSafe (.of_levels (by simp) fun h => ?_)
        have hdrop : LevelsSound ((s.arrive t).dropDirect c) := h.of_same (by simp)
        refine (hdrop.updChain c ?_).answer _ _
        exact fun _ hc => hc.beginEnumeration _ true

theorem execAttemptBegin_passSafe (c : Nat) (s : State) : Yields (execAttemptBegin c s) (PassSafe s) := by
  unfold execAttemptBegin
  split
  · exact .passSafe (.refl s)
  next w _ => exact .passSafe (.of_levels (by simp) fun h =>
      ((h.arrive w).mapZones fun _ hz => hz.clearMissing c).updChain c fun _ hc => hc.beginAttempt _)

theorem execRunningTimerExpiry_passSafe (c : Nat) (s : State) : Yields (execRunningTimerExpiry c s) (PassSafe s) := by
  unfold execRunningTimerExpiry
  split
  · exact .passSafe (.refl s)
  next w _ => exact .passSafe (.of_levels (by simp) fun h => (h.arrive w).updChain c fun _ hc => { hc with })

theorem execPollTick_passSafe (c : Nat) (s : State) : Yields (execPollTick c s) (PassSafe s) := by
  unfold execPollTick
  split
  · exact .passSafe (.refl s)
  next w _ =>
    refine .passSafe (.of_levels (by simp) fun h => ((h.arrive w).updChain c ?_).serve c)
    exact fun _ hc => { hc.pollTick with }

theorem LevelsSound.takeDirect {s : State} (h : LevelsSound s) (cmd : SysCommand) (c a : Nat) (k : DirectKind) :
    LevelsSound (s.takeDirect cmd c a k) := by
  unfold State.takeDirect
  split
  · exact h.answer cmd _
  · refine (LevelsSound.updChain (h.of_same (u := s.respondPending cmd c) (by simp)) c ?_).serve c
    exact fun _ hc => { hc with }

theorem execFrameBoundary_passSafe (c : Nat) (s : State) : Yields (execFrameBoundary c s) (PassSafe s) := by
  unfold execFrameBoundary
  split
  · exact .passSafe (.refl s)
  · exact .passSafe (.of_levels (by simp) fun h => (h.arrive _).serve c)

theorem execEchoBegin_passSafe (t c : Nat) (s : State) : Yields (execEchoBegin t c s) (PassSafe s) := by
  unfold execEchoBegin
  dsimp only
  split
  · exact .passSafe (.of_same (by simp))
  · split
    · exact .passSafe (.of_levels (by simp) fun h => (h.arrive t).linkFailure c _)
    next f rest hflight =>
      refine .passSafe (.of_levels (by simp) fun h => (h.arrive t).updChain c fun _ hc => { hc with inflight := ?_ })
      have hframes := ((h.arrive t).chain c).inflight
      rw [hflight] at hframes
      exact List.forall_mem_cons.2 (List.forall_mem_cons.1 hframes)

theorem execEchoEnd_passSafe (t c : Nat) (bits : List Bool) (s : State) :
    Yields (execEchoEnd t c bits s) (PassSafe s) := by
  unfold execEchoEnd
  dsimp only
  split
  · exact .passSafe (.of_same (by simp))
  · exact .passSafe (.of_levels (by simp) fun h => ((h.arrive t).checkEcho c bits).serve c)

theorem execEchoOverdue_passSafe (c : Nat) (s : State) : Yields (execEchoOverdue c s) (PassSafe s) := by
  unfold execEchoOverdue
  split
  · exact .passSafe (.refl s)
  · split
    · exact .passSafe (.refl s)
    · exact .passSafe (.of_levels (by simp) fun h => (h.arrive _).linkFailure c _)

theorem execLoopLost_passSafe (t c : Nat) (s : State) : Yields (execLoopLost t c s) (PassSafe s) := by
  unfold execLoopLost
  dsimp only
  split
  · exact .passSafe (.of_same (by simp))
  · exact .passSafe (.of_levels (by simp) fun h => (h.arrive t).linkFailure c _)

/-! ## Reports and the thermal unit (chapters 7 and 8) -/

theorem execTakeReport_passSafe (t : Nat) (s : State) : Yields (execTakeReport t s) (PassSafe s) := by
  unfold execTakeReport
  dsimp only
  split <;> exact .passSafe (.of_same (by simp))

theorem execReadSnapshot_passSafe (t b g : Nat) (s : State) : Yields (execReadSnapshot t b g s) (PassSafe s) := by
  unfold execReadSnapshot
  dsimp only
  split
  · exact s.refused_passSafe t _ _
  · split <;> exact .passSafe (.of_same (by simp))

theorem execSnapshotHoldExpiry_passSafe (b : Nat) (s : State) : Yields (execSnapshotHoldExpiry b s) (PassSafe s) := by
  unfold execSnapshotHoldExpiry
  split <;> exact .passSafe (.of_same (by simp))

theorem execConversionComplete_passSafe (code : BitVec 10) (s : State) :
    Yields (execConversionComplete code s) (PassSafe s) := by
  unfold execConversionComplete
  split
  · exact .passSafe (.of_levels (by simp) fun h => h.of_same (by simp [Thermal.convert]))
  · exact .passSafe (.refl s)

/-! ## The ports (chapters 9 to 11) -/

theorem execUnknownCommandWrite_passSafe (t : Nat) (bytes : List Byte) (s : State) :
    Yields (execUnknownCommandWrite t bytes s) (PassSafe s) := by
  unfold execUnknownCommandWrite
  dsimp only
  split <;> exact .passSafe (.of_same (by simp))

theorem State.takeRun_passSafe (s : State) (t : Nat) (fine : Bool) (start : Nat) {writes : List (Nat → Nat)}
    (hw : ∀ f ∈ writes, ∀ l, l ≤ 4095 → f l ≤ 4095) :
    Yields (.next ((s.arrive t).takeRun fine start writes)) (PassSafe s) :=
  .passSafe (.of_levels (by simp) fun h => (h.arrive t).takeRun fine start hw)

theorem execNudge_passSafe (t : Nat) (r : Rect) (delta : BitVec 8) (s : State) :
    Yields (execNudge t r delta s) (PassSafe s) := by
  unfold execNudge
  dsimp only
  split
  · exact .passSafe (.of_same (by simp))
  · split
    · exact .passSafe (.of_same (by simp))
    · exact .passSafe (.of_levels (by simp) fun h =>
        ((h.arrive t).writeOpen (nudgeLevels_levels h.openSet s.grid (clampRect s.grid r) delta)).pictureResult _)

theorem execClose_passSafe (t : Nat) (tag : BitVec 8) (cut : Bool) (s : State) :
    Yields (execClose t tag cut s) (PassSafe s) := by
  unfold execClose
  dsimp only
  split
  · exact .passSafe (.of_same (by simp))
  · exact .passSafe (.of_levels (by simp) fun h => ((h.arrive t).closeSet tag.toNat cut).of_same (by simp))

theorem execPictureWindow_passSafe (t : Nat) (w : WindowFields) (s : State) :
    Yields (execPictureWindow t w s) (PassSafe s) := by
  unfold execPictureWindow
  dsimp only
  split
  next hok => exact .passSafe (.of_levels (by simp) fun h => ((h.arrive t).placeWindow hok).pictureResult _)
  next => exact .passSafe (.of_same (by simp))

theorem execPictureUnwindow_passSafe (t n : Nat) (s : State) : Yields (execPictureUnwindow t n s) (PassSafe s) := by
  unfold execPictureUnwindow
  dsimp only
  split
  · exact .passSafe (.of_same (by simp))
  · exact .passSafe (.of_levels (by simp) fun h => ((h.arrive t).removeWindow .picture n).pictureResult _)

theorem execMalformedMessage_passSafe (t : Nat) (bytes : List Byte) (n : Nat) (s : State) :
    Yields (execMalformedMessage t bytes n s) (PassSafe s) := by
  unfold execMalformedMessage
  dsimp only
  split <;> exact .passSafe (.of_same (by simp))

theorem execHold_passSafe (t : Nat) (m : BitVec 8) (s : State) : Yields (execHold t m s) (PassSafe s) := by
  unfold execHold
  dsimp only
  split <;> exact .passSafe (.of_same (by simp))

theorem execPanelWindow_passSafe (t : Nat) (w : WindowFields) (s : State) :
    Yields (execPanelWindow t w s) (PassSafe s) := by
  unfold execPanelWindow
  dsimp only
  split
  next hok => exact .passSafe (.of_levels (by simp) fun h => (h.arrive t).placeWindow hok)
  next => exact .passSafe (.of_levels (by simp) fun h => (h.arrive t).placeNotice _)

theorem execPanelUnwindow_passSafe (t n : Nat) (s : State) : Yields (execPanelUnwindow t n s) (PassSafe s) := by
  unfold execPanelUnwindow
  dsimp only
  split
  · exact .passSafe (.of_levels (by simp) fun h => (h.arrive t).placeNotice _)
  · exact .passSafe (.of_levels (by simp) fun h => (h.arrive t).removeWindow .panel n)

theorem execOutgoingMessageEnd_passSafe (s : State) : Yields (execOutgoingMessageEnd s) (PassSafe s) := by
  unfold execOutgoingMessageEnd
  split
  · exact .passSafe (.refl s)
  · exact .passSafe (.of_levels (by simp) fun h =>
      LevelsSound.servePanel (h.move rfl id id fun hp => { hp with sending := nofun }))

/-! ## Timebase, pass and schedule (chapters 2 and 3) -/

theorem State.frameStart_passSafe {s t : State} (h : LevelsSound s → LevelsSound t) : PassSafe s t.frameStart where
  levels hs := (h hs).frameStart
  budget _ := t.frameStart_budgetSound

theorem State.deliverFrame_passSafe {s t : State} (h : LevelsSound s → LevelsSound t) : PassSafe s t.deliverFrame where
  levels hs := (h hs).deliverFrame
  budget _ := t.deliverFrame_budgetSound

/-- An edge recorded by the timebase is a frame start or changes nothing more. -/
theorem State.edgeFrame_passSafe (s : State) (tb : Timebase) : PassSafe s (s.setTimebase tb).edgeFrame := by
  unfold State.edgeFrame
  split
  · exact State.frameStart_passSafe fun h => h.of_same (by simp)
  · exact .of_same (by simp)

theorem State.acquireEdge_passSafe (s : State) : PassSafe s s.acquireEdge := by
  unfold State.acquireEdge
  split
  · exact .of_same (by simp)
  · split
    · exact .of_same (by simp)
    · exact s.edgeFrame_passSafe _

theorem State.lockedEdge_passSafe (s : State) : PassSafe s s.lockedEdge := by
  unfold State.lockedEdge
  split <;> exact s.edgeFrame_passSafe _

theorem State.holdoverEdge_passSafe (s : State) : PassSafe s s.holdoverEdge := by
  unfold State.holdoverEdge
  dsimp only
  split
  · exact State.deliverFrame_passSafe fun h => h.of_same (by simp)
  · exact .of_same (by simp)

theorem PassSafe.after_arrive {s u : State} {t : Nat} (h : PassSafe (s.arrive t) u) : PassSafe s u where
  levels hs := h.levels (hs.arrive t)
  budget hs := h.budget (hs.of_same rfl rfl id)

theorem execFsyncEdge_passSafe (t : Nat) (s : State) : Yields (execFsyncEdge t s) (PassSafe s) := by
  unfold execFsyncEdge
  dsimp only
  split
  · exact .passSafe (.of_same (by simp))
  · split
    · exact .passSafe (.of_same (by simp))
    · split
      · exact .passSafe (.of_same (by simp))
      · exact .passSafe (State.acquireEdge_passSafe _).after_arrive
      · exact .passSafe (State.lockedEdge_passSafe _).after_arrive
      · exact .passSafe (State.holdoverEdge_passSafe _).after_arrive

theorem execGeneratedFrameStart_passSafe (s : State) : Yields (execGeneratedFrameStart s) (PassSafe s) := by
  unfold execGeneratedFrameStart
  split
  · exact .passSafe (.refl s)
  · dsimp only
    refine .passSafe ?_
    split <;> exact State.frameStart_passSafe fun h => h.of_same (by simp)

theorem execHoldoverEntry_passSafe (s : State) : Yields (execHoldoverEntry s) (PassSafe s) := by
  unfold execHoldoverEntry
  split
  · exact .passSafe (.refl s)
  · exact .passSafe (State.deliverFrame_passSafe fun h => h.of_same (by simp))

theorem execHoldExpired_passSafe (s : State) : Yields (execHoldExpired s) (PassSafe s) := by
  unfold execHoldExpired
  split
  · exact .passSafe (.of_levels (by simp) fun h => h.moveHold)
  · exact .passSafe (.refl s)

theorem execProblemFrames_passSafe (c : Nat) (s : State) : Yields (execProblemFrames c s) (PassSafe s) := by
  unfold execProblemFrames
  split
  · exact .passSafe (.of_levels (by simp) fun h => h.recover c _)
  · exact .passSafe (.refl s)

theorem execCompositionEnd_passSafe (s : State) : Yields (execCompositionEnd s) (PassSafe s) := by
  unfold execCompositionEnd
  split
  next hp => exact .passSafe { levels := fun h => h.compositionEnd _ _, budget := fun h => h.compositionEnd hp _ _ }
  next => exact .passSafe (.refl s)

theorem execLimitingEnd_passSafe (s : State) : Yields (execLimitingEnd s) (PassSafe s) := by
  unfold execLimitingEnd
  split
  next hp => exact .passSafe { levels := fun h => h.limitingEnd _, budget := fun h => h.limitingEnd hp _ }
  next => exact .passSafe (.refl s)

theorem execEmissionBlock_passSafe (s : State) : Yields (execEmissionBlock s) (PassSafe s) := by
  by_cases hp : s.pass.phase = .emitting
  · rw [execEmissionBlock_emitting hp]
    exact .passSafe { levels := fun h => h.afterBlock hp, budget := fun h => h.afterBlock hp }
  · rw [execEmissionBlock, if_neg hp]
    exact .passSafe (.refl s)

theorem execCommitPoint_passSafe (k : Nat) (s : State) : Yields (execCommitPoint k s) (PassSafe s) := by
  unfold execCommitPoint
  split
  · exact .passSafe (.refl s)
  · split
    · exact .passSafe (.refl s)
    · exact .passSafe (.of_levels (by simp) fun h => (h.arrive _).commitGroups _)

theorem execLatchPoint_passSafe (k : Nat) (s : State) : Yields (execLatchPoint k s) (PassSafe s) := by
  unfold execLatchPoint
  split
  · exact .passSafe (.refl s)
  · split
    · exact .passSafe (.of_levels (by simp) fun h => ((h.arrive _).latchAt _).serveAll)
    · exact .passSafe (.refl s)

/-! ## Every command -/

/-- Each command, from any state, keeps every level in range and the budget met. -/
theorem exec_passSafe (c : Instr) (s : State) : Yields (exec c s) (PassSafe s) := by
  cases c with
  | powerOn t => exact .passSafe { levels := fun _ => levelsSound_powered _ _, budget := fun _ => .of_idle rfl }
  | setGrid t cols rows => exact execSetGrid_passSafe t cols rows s
  | setChain t c d w sensor => exact execSetChain_passSafe t c d w sensor s
  | mapZone t z c p k => exact execMapZone_passSafe t z c p k s
  | unmapZone t z => exact execUnmapZone_passSafe t z s
  | setGroups t g offsets lead => exact execSetGroups_passSafe t g offsets lead s
  | setProfile t profile => exact execSetProfile_passSafe t profile s
  | setPower t budget => exact execSetPower_passSafe t budget s
  | setEasing t rise fall => exact execSetEasing_passSafe t rise fall s
  | setService t pollUs holdMs => exact execSetService_passSafe t pollUs holdMs s
  | setThermal t p => exact execSetThermal_passSafe t p s
  | setTimebase t period => exact execSetTimebase_passSafe t period s
  | followSync t => exact .passSafe (.of_same (by simp))
  | freeRun t => exact .passSafe (.of_same (by simp))
  | loadGains t start gains => exact execLoadGains_passSafe t start gains s
  | setOverride t z l => exact execSetOverride_passSafe t z l s
  | clearOverride t z => exact execClearOverride_passSafe t z s
  | clearFault t z => exact execClearFault_passSafe t z s
  | clearWindows t =>
    exact .passSafe (.of_levels (by simp) fun h => ((h.arrive t).setWindows (List.forall_mem_nil _)).answer _ _)
  | start t => exact execStart_passSafe t s
  | stop t => exact execStop_passSafe t s
  | restartChain t c => exact execRestartChain_passSafe t c s
  | driverTrim t c a code => exact .passSafe (.of_levels (by simp) fun h => (h.arrive t).takeDirect _ c a _)
  | driverIdent t c a => exact .passSafe (.of_levels (by simp) fun h => (h.arrive t).takeDirect _ c a _)
  | systemBlank t on => exact .passSafe (.of_levels (by simp) fun h => ((h.arrive t).moveClaims _ _).answer _ _)
  | takeReport t => exact execTakeReport_passSafe t s
  | readSnapshot t b g => exact execReadSnapshot_passSafe t b g s
  | probe t z mode => exact execProbe_passSafe t z mode s
  | readProbe t => exact .passSafe (.of_same (by simp))
  | readZone t z => exact execReadZone_passSafe t z s
  | readCounters t => exact execReadCounters_passSafe t s
  | readState t => exact .passSafe (.of_same (by simp))
  | softRestart t =>
    exact .passSafe { levels := fun h => (h.arrive t).restart.answer _ _, budget := fun _ => .of_idle rfl }
  | unknownCommandWrite t bytes => exact execUnknownCommandWrite_passSafe t bytes s
  | responseCapture t => exact .passSafe (.of_same (by simp))
  | run12 t start values => exact s.takeRun_passSafe t _ start (List.forall_mem_map.2 fun v _ l _ => run12Level_le v l)
  | run8 t start values => exact s.takeRun_passSafe t _ start (List.forall_mem_map.2 fun v _ l _ => run8Level_le v l)
  | fine4 t start values =>
    exact s.takeRun_passSafe t _ start (List.forall_mem_map.2 fun v _ _ hl => fine4Level_le v hl)
  | nudge t r delta => exact execNudge_passSafe t r delta s
  | close t tag cut => exact execClose_passSafe t tag cut s
  | pictureWindow t w => exact execPictureWindow_passSafe t w s
  | pictureUnwindow t n => exact execPictureUnwindow_passSafe t n s
  | pictureBlank t on => exact .passSafe (.of_levels (by simp) fun h => ((h.arrive t).moveClaims _ _).pictureResult _)
  | status t => exact .passSafe (.of_same (by simp))
  | malformedMessage t bytes n => exact execMalformedMessage_passSafe t bytes n s
  | hold t m => exact execHold_passSafe t m s
  | resume t => exact .passSafe (.of_same (by simp))
  | panelWindow t w => exact execPanelWindow_passSafe t w s
  | panelUnwindow t n => exact execPanelUnwindow_passSafe t n s
  | panelBlank t on => exact .passSafe (.of_levels (by simp) fun h => (h.arrive t).moveClaims _ _)
  | messageDiscarded t reason => exact .passSafe (.of_same (by simp))
  | outgoingMessageEnd => exact execOutgoingMessageEnd_passSafe s
  | fsyncEdge t => exact execFsyncEdge_passSafe t s
  | generatedFrameStart => exact execGeneratedFrameStart_passSafe s
  | holdoverEntry => exact execHoldoverEntry_passSafe s
  | holdExpired => exact execHoldExpired_passSafe s
  | problemFrames c => exact execProblemFrames_passSafe c s
  | compositionEnd => exact execCompositionEnd_passSafe s
  | limitingEnd => exact execLimitingEnd_passSafe s
  | emissionBlock => exact execEmissionBlock_passSafe s
  | commitPoint k => exact execCommitPoint_passSafe k s
  | latchPoint k => exact execLatchPoint_passSafe k s
  | frameBoundary c => exact execFrameBoundary_passSafe c s
  | echoEnd t c bits => exact execEchoEnd_passSafe t c bits s
  | echoOverdue c => exact execEchoOverdue_passSafe c s
  | loopLost t c => exact execLoopLost_passSafe t c s
  | attemptBegin c => exact execAttemptBegin_passSafe c s
  | runningTimerExpiry c => exact execRunningTimerExpiry_passSafe c s
  | pollTick c => exact execPollTick_passSafe c s
  | conversionComplete code => exact execConversionComplete_passSafe code s
  | snapshotHoldExpiry b => exact execSnapshotHoldExpiry_passSafe b s
  | echoBegin t c => exact execEchoBegin_passSafe t c s

theorem step_passSafe {s u : State} (h : step s = .next u) : PassSafe s u := by
  unfold step at h
  split at h
  · exact Yields.passSafe (.refl s) u h
  next c rest _ =>
    have hexec := exec_passSafe c { s with pending := rest } u h
    exact ⟨fun hs => hexec.levels (hs.of_same rfl), fun hs => hexec.budget (hs.of_same rfl rfl id)⟩

/-- Settles O6: reset has every level in range, and each command keeps it there (`exec_passSafe`). -/
theorem levelsStayInRange : Obligations.LevelsStayInRange :=
  ⟨levelsSound_powered 0 [], fun _ _ hs hstep => (step_passSafe hstep).levels hs⟩

/-- Settles O14: each command keeps the demand of a pass and its budget (`exec_passSafe`). -/
theorem limitedDrivesMeetTheBudget : Obligations.LimitedDrivesMeetTheBudget :=
  fun _ _ hs hstep => (step_passSafe hstep).budget hs

end Sys2Proof.Machine

namespace Sys2Proof.Machine

/-! # The timebase and its edges (chapter 3)

What each command and event of the timebase does to the state, one equation for each case of its rule. The obligations
of this chapter, and the invariant of the next, read them off. -/

/-! ## SET THERMAL and SET TIMEBASE (R54, R154) -/

/-- Settles O24. -/
theorem setThermalAndTimebase : Obligations.SetThermalAndTimebase := by
  intro t f p s
  refine ⟨fun hout => if_neg fun h => hout ?_, fun ha ha' hm hm' hstart hstop hlt hmin hmin' => if_pos ?_,
    fun hout => if_pos hout, fun hlo hhi => if_neg (by omega)⟩
  · obtain ⟨⟨ha, ha'⟩, ⟨hm, hm'⟩, ⟨hstart, -⟩, ⟨-, hstop⟩, ⟨hmin, hmin'⟩, hlt⟩ := (thermalInRange_iff p).1 h
    exact ⟨ha, ha', hm, hm', hstart, hstop, hlt, hmin, hmin'⟩
  · exact (thermalInRange_iff p).2 ⟨⟨ha, ha'⟩, ⟨hm, hm'⟩, ⟨hstart, by omega⟩, ⟨by omega, hstop⟩, ⟨hmin, hmin'⟩, hlt⟩

/-! ## FOLLOW SYNC and FREE RUN (R61) -/

theorem Timebase.followSync_free {tb : Timebase} (h : tb.state = .free) :
    tb.followSync = { tb with state := .acquire, lastEdge := none } := if_pos h

theorem Timebase.followSync_marked {tb : Timebase} (h : tb.state ≠ .free) (hf : tb.freeRun = true) :
    tb.followSync = { tb with state := .acquire, freeRun := false, lastEdge := none } := (if_neg h).trans (if_pos hf)

theorem Timebase.followSync_following {tb : Timebase} (h : tb.state ≠ .free) (hf : tb.freeRun = false) :
    tb.followSync = tb := (if_neg h).trans (if_neg (by simp [hf]))

/-- FREE RUN changes nothing in FREE and where the mark is set already. -/
theorem Timebase.markFreeRun_idle {tb : Timebase} (h : tb.state = .free ∨ tb.freeRun = true) (now : Nat) :
    tb.markFreeRun now = tb := if_pos h

theorem Timebase.markFreeRun_following {tb : Timebase} (h : tb.state ≠ .free) (hf : tb.freeRun = false) (now : Nat) :
    tb.markFreeRun now = { tb with
      freeRun := true
      pendingStart := if tb.state = .acquire then tb.pendingStart
        else some (max now (tb.lastStart + us tb.heldPeriod)) } := by
  unfold Timebase.markFreeRun
  rw [if_neg (by simp [h, hf])]
  split <;> rfl

/-- FOLLOW SYNC answers DONE and changes the timebase alone. -/
theorem execFollowSync_eq {t : Nat} {s : State} {tb : Timebase} (h : s.timebase.followSync = tb) :
    exec (.followSync t) s = .next { s.onlyAnswers t .followSync .done with timebase := tb } := by
  rw [← h]
  rfl

/-- FREE RUN answers DONE and changes the timebase alone. -/
theorem execFreeRun_eq {t : Nat} {s : State} {tb : Timebase} (h : s.timebase.markFreeRun (max s.now t) = tb) :
    exec (.freeRun t) s = .next { s.onlyAnswers t .freeRun .done with timebase := tb } := by
  rw [← h]
  rfl

/-- Settles O25. -/
theorem followSyncAndFreeRun : Obligations.FollowSyncAndFreeRun := by
  intro t s
  refine ⟨fun h => ⟨?_, ?_⟩, fun h hf => ⟨?_, ?_⟩, fun h hf => ⟨?_, ?_⟩⟩
  · exact execFollowSync_eq (Timebase.followSync_free h)
  · exact execFreeRun_eq (Timebase.markFreeRun_idle (.inl h) _)
  · exact execFollowSync_eq (Timebase.followSync_marked h hf)
  · exact execFreeRun_eq (Timebase.markFreeRun_idle (.inr hf) _)
  · exact execFollowSync_eq (Timebase.followSync_following h hf)
  · exact execFreeRun_eq (Timebase.markFreeRun_following h hf _)

/-! ## FSYNC edges (R54 to R60) -/

theorem Timebase.isRunt_iff (tb : Timebase) (n : Nat) :
    tb.isRunt n = true ↔ ∃ e, tb.lastEdge = some e ∧ n < e + us 4100 := by
  unfold Timebase.isRunt
  cases tb.lastEdge <;> simp

theorem execFsyncEdge_ignored {t : Nat} {s : State} (h : s.timebase.state = .free ∨ s.timebase.freeRun = true) :
    execFsyncEdge t s = .next (s.arrive t) := if_pos h

theorem execFsyncEdge_runt {t : Nat} {s : State} (hfree : s.timebase.state ≠ .free) (hrun : s.timebase.freeRun = false)
    (hrunt : s.timebase.isRunt (max s.now t) = true) :
    execFsyncEdge t s = .next ((s.arrive t).count fun k => { k with runts := sat16 k.runts }) :=
  (if_neg (by simp [hfree, hrun])).trans (if_pos hrunt)

/-- What an accepted edge does in ACQUIRE, LOCKED and HOLDOVER. -/
theorem execFsyncEdge_accepted {t : Nat} {s : State} (hrun : s.timebase.freeRun = false)
    (hrunt : s.timebase.isRunt (max s.now t) = false) :
    (s.timebase.state = .acquire → execFsyncEdge t s = .next (s.arrive t).acquireEdge) ∧
    (s.timebase.state = .locked → execFsyncEdge t s = .next (s.arrive t).lockedEdge) ∧
    (s.timebase.state = .holdover → execFsyncEdge t s = .next (s.arrive t).holdoverEdge) := by
  simp only [execFsyncEdge, State.arrive_timebase, State.arrive_now, hrunt]
  refine ⟨fun h => ?_, fun h => ?_, fun h => ?_⟩ <;> simp [h, hrun]

/-- The timebase that an edge at moment `n` leaves LOCKED with period `p`. -/
def Timebase.lockedAt (tb : Timebase) (n : Nat) (p : Option Nat) : Timebase :=
  { tb with state := .locked, lastEdge := some n, period := p, pendingStart := none }

/-- In ACQUIRE an edge that no accepted edge precedes within 42,000 µs is recorded (R56). -/
theorem State.acquireEdge_record {s : State} (h : ∀ e, s.timebase.lastEdge = some e → e + us 42000 < s.now) :
    s.acquireEdge = s.setTimebase { s.timebase with lastEdge := some s.now } := by
  unfold State.acquireEdge
  split
  next => rfl
  next e he =>
    have hlate := h e he
    exact if_pos (show us 42000 < s.now - e by omega)

/-- In ACQUIRE an edge within 42,000 µs of the last accepted one locks (R56). -/
theorem State.acquireEdge_lock {s : State} {e : Nat} (he : s.timebase.lastEdge = some e) (h : s.now ≤ e + us 42000) :
    s.acquireEdge = (s.setTimebase (s.timebase.lockedAt s.now (some (wholePeriod (s.now - e))))).edgeFrame := by
  simp only [State.acquireEdge, he]
  exact if_neg (show ¬ us 42000 < s.now - e by omega)

theorem State.lockedEdge_eq {s : State} {e : Nat} (he : s.timebase.lastEdge = some e) :
    s.lockedEdge = (s.setTimebase { s.timebase with
      lastEdge := some s.now, period := some (wholePeriod (s.now - e)) }).edgeFrame := by
  simp only [State.lockedEdge, he]

/-- A return from HOLDOVER with an edge that is a frame start (R59, R60). -/
theorem State.holdoverEdge_frame_start {s : State} (h : s.timebase.lastStart + us 4100 ≤ s.now) :
    s.holdoverEdge = ((s.setTimebase (s.timebase.lockedAt s.now s.timebase.period)).beginFrame.timebaseReport
      .syncRestored .recovered).deliverFrame := if_pos h

/-- A return from HOLDOVER with an edge that is none. -/
theorem State.holdoverEdge_no_frame {s : State} (h : s.now < s.timebase.lastStart + us 4100) :
    s.holdoverEdge = (s.setTimebase (s.timebase.lockedAt s.now s.timebase.period)).timebaseReport
      .syncRestored .recovered := if_neg (Nat.not_le.2 h)

theorem State.edgeFrame_no_frame {s : State} (h : s.now < s.timebase.lastStart + us 4100) : s.edgeFrame = s :=
  if_neg (Nat.not_le.2 h)

theorem State.edgeFrame_frame_start {s : State} (h : s.timebase.lastStart + us 4100 ≤ s.now) :
    s.edgeFrame = s.frameStart := if_pos h

/-- A spacing that is a whole number of microseconds is p, and any other has p beside it (R57, log 5). -/
theorem wholePeriod_spec (d : Nat) :
    wholePeriod d * 48 = d ∨ (d % 48 ≠ 0 ∧ (wholePeriod d = d / 48 ∨ wholePeriod d = d / 48 + 1)) := by
  unfold wholePeriod
  split
  · omega
  next hpart =>
    refine .inr ⟨hpart, ?_⟩
    split
    · exact .inr rfl
    · exact .inl rfl

/-- Settles O44: the cases of the rules are those of `execFsyncEdge`. -/
theorem edgesMoveTheTimebase : Obligations.EdgesMoveTheTimebase := by
  intro t s n tb frame restored
  refine ⟨fun h => execFsyncEdge_ignored h, fun hfree hrun => ⟨fun e he hlt => ?_, fun hedge => ?_⟩⟩
  · exact execFsyncEdge_runt hfree hrun ((tb.isRunt_iff n).2 ⟨e, he, hlt⟩)
  have hrunt : tb.isRunt n = false := by
    rw [← Bool.not_eq_true, tb.isRunt_iff]
    rintro ⟨e, he, hlt⟩
    exact absurd (hedge e he) (Nat.not_le.2 hlt)
  obtain ⟨hacquire, hlocked, hholdover⟩ := execFsyncEdge_accepted hrun hrunt
  refine ⟨fun hs hlate => ?_, fun e he hs => ⟨_, wholePeriod_spec (n - e), ?_⟩, ?_⟩
  · exact (hacquire hs).trans (congrArg _ (State.acquireEdge_record hlate))
  · intro x hx
    have hexec : exec (.fsyncEdge t) s = .next ((s.arrive t).setTimebase x).edgeFrame := by
      rcases hs with hs | ⟨hs, hle⟩
      · have hx' : x = { tb with lastEdge := some n, period := some (wholePeriod (n - e)) } := by
          rw [hx, if_pos hs, ← hs]
        exact hx' ▸ (hlocked hs).trans (congrArg _ (State.lockedEdge_eq he))
      · have hx' : x = tb.lockedAt n (some (wholePeriod (n - e))) := by
          rw [hx, if_neg (by simp [hs])]
          rfl
        exact hx' ▸ (hacquire hs).trans (congrArg _ (State.acquireEdge_lock he hle))
    have hstart : x.lastStart = tb.lastStart := by rw [hx]
    refine ⟨fun hlt => ?_, fun hle => ?_⟩
    · exact hexec.trans (congrArg _ (State.edgeFrame_no_frame (hstart ▸ hlt)))
    · refine hexec.trans (congrArg _ ((State.edgeFrame_frame_start (hstart ▸ hle)).trans ?_))
      rw [hx]
      rfl
  · rintro hs x rfl
    refine ⟨fun hlt => ?_, fun hle => ?_⟩
    · exact (hholdover hs).trans (congrArg _ (State.holdoverEdge_no_frame hlt))
    · exact (hholdover hs).trans (congrArg _ (State.holdoverEdge_frame_start hle))

/-! ## Frame starts that the part generates (R54, R58 to R61) -/

theorem Timebase.nextPending_unlocked {tb : Timebase} (h : tb.state = .free ∨ tb.state = .acquire) (n : Nat) :
    tb.nextPending n = some (n + us tb.freePeriod) := by
  rcases h with h | h <;> simp [Timebase.nextPending, h]

theorem Timebase.nextPending_locked {tb : Timebase} (h : tb.state = .locked) (n : Nat) : tb.nextPending n = none := by
  simp [Timebase.nextPending, h]

theorem Timebase.nextPending_holdover {tb : Timebase} {p : Nat} (h : tb.state = .holdover) (hp : tb.period = some p)
    (n : Nat) : tb.nextPending n = some (n + us p) := by
  simp [Timebase.nextPending, h, hp]

/-- The timebase as a generated frame start finds it: the free-run mark, if set, has led to FREE (R61). -/
def Timebase.generating (tb : Timebase) : Timebase :=
  { tb with state := if tb.freeRun = true then .free else tb.state, freeRun := false }

theorem execGeneratedFrameStart_idle {s : State} (h : s.timebase.pendingStart = none) :
    execGeneratedFrameStart s = .next s := by
  simp only [execGeneratedFrameStart, h]

theorem execGeneratedFrameStart_pending {s : State} {d : Nat} (h : s.timebase.pendingStart = some d) :
    execGeneratedFrameStart s = .next ((s.arrive d).setTimebase s.timebase.generating).frameStart := by
  have hunmarked : s.timebase.freeRun = false → (s.arrive d).setTimebase s.timebase.generating = s.arrive d := by
    intro hf
    have hsame : s.timebase.generating = s.timebase := by
      simp only [Timebase.generating, hf, Bool.false_eq_true, if_false]
      rw [← hf]
    rw [hsame]
    rfl
  simp only [execGeneratedFrameStart, h]
  refine congrArg _ ?_
  split
  next hf => simp [Timebase.generating, show s.timebase.freeRun = true from hf]
  next hf => rw [hunmarked (Bool.not_eq_true _ ▸ hf)]

/-- The holdover timer runs in LOCKED only, and not while the free-run mark is set (R58, R61). -/
theorem Timebase.holdoverDue_idle {tb : Timebase} (h : tb.state ≠ .locked ∨ tb.freeRun = true) :
    tb.holdoverDue = none := by
  unfold Timebase.holdoverDue
  split
  next hs hf _ _ => simp [hs, hf] at h
  next => rfl

theorem Timebase.holdoverDue_locked {tb : Timebase} {e p : Nat} (hs : tb.state = .locked) (hf : tb.freeRun = false)
    (he : tb.lastEdge = some e) (hp : tb.period = some p) :
    tb.holdoverDue = some (min (e + us (3 * p / 2)) (tb.lastStart + us 42000)) := by
  simp only [Timebase.holdoverDue, hs, hf, he, hp]

theorem execHoldoverEntry_idle {s : State} (h : s.timebase.holdoverDue = none) : execHoldoverEntry s = .next s := by
  simp only [execHoldoverEntry, h]

theorem execHoldoverEntry_due {s : State} {d : Nat} (h : s.timebase.holdoverDue = some d) :
    execHoldoverEntry s =
      .next (((s.arrive d).setTimebase { s.timebase with state := .holdover }).beginFrame.timebaseReport
        .syncLost .degraded).deliverFrame := by
  unfold execHoldoverEntry
  rw [h]
  rfl

/-- Settles O45. -/
theorem partGeneratesFrameStarts : Obligations.PartGeneratesFrameStarts := by
  intro d p e s tb
  refine ⟨execGeneratedFrameStart_idle, fun hd => ?_, fun h => ?_, fun hs hf he hp n hn => ?_⟩
  · refine ⟨tb.generating.atFrameStart (max s.now d), execGeneratedFrameStart_pending hd, rfl, rfl, rfl, rfl, rfl, rfl,
      rfl, rfl, fun h => ?_, fun h hp => ?_, fun h => ?_⟩
    · exact Timebase.nextPending_unlocked (tb := tb.generating) h _
    · exact Timebase.nextPending_holdover (tb := tb.generating) h hp _
    · exact Timebase.nextPending_locked (tb := tb.generating) h _
  · exact execHoldoverEntry_idle (Timebase.holdoverDue_idle h)
  · have hnext : Timebase.nextPending { tb with state := .holdover } n = some (n + us p) := by
      simp [Timebase.nextPending, hp]
    rw [← hnext, hn]
    exact execHoldoverEntry_due (Timebase.holdoverDue_locked hs hf he hp)

end Sys2Proof.Machine

namespace Sys2Proof.Machine

/-! # The bounds of frame starts (R58)

Few commands move the timebase: `TimeKept s u` says that the others leave it alone and do not turn time back. For those
that move it, each as the equations above say, a sound timebase whose events are not overdue stays sound, and a frame
start lies within the bounds of R58 of the one before (`ClockSafe`). -/

/-! ## Commands that leave the timebase alone -/

/-- The timebase stands as it was, and time has not turned back. -/
structure TimeKept (s u : State) : Prop where
  timebase : u.timebase = s.timebase := by simp
  now : s.now ≤ u.now := by simp

theorem Yields.ite {p : State → Prop} {c : Prop} [Decidable c] {a b : Host.Outcome State Fault Refusal}
    (ha : Yields a p) (hb : Yields b p) : Yields (if c then a else b) p := by
  split
  · exact ha
  · exact hb

theorem execClearFault_timeKept (t z : Nat) (s : State) : Yields (execClearFault t z s) (TimeKept s) := by
  unfold execClearFault
  dsimp only
  refine .ite (.next {}) ?_
  split <;> exact .next {}

theorem execAttemptBegin_timeKept (c : Nat) (s : State) : Yields (execAttemptBegin c s) (TimeKept s) := by
  unfold execAttemptBegin
  split <;> exact .next {}

theorem execRunningTimerExpiry_timeKept (c : Nat) (s : State) : Yields (execRunningTimerExpiry c s) (TimeKept s) := by
  unfold execRunningTimerExpiry
  split <;> exact .next {}

theorem execPollTick_timeKept (c : Nat) (s : State) : Yields (execPollTick c s) (TimeKept s) := by
  unfold execPollTick
  split <;> exact .next {}

theorem execEchoBegin_timeKept (t c : Nat) (s : State) : Yields (execEchoBegin t c s) (TimeKept s) := by
  unfold execEchoBegin
  dsimp only
  refine .ite (.next {}) ?_
  split <;> exact .next {}

theorem execEchoOverdue_timeKept (c : Nat) (s : State) : Yields (execEchoOverdue c s) (TimeKept s) := by
  unfold execEchoOverdue
  split
  · exact .next {}
  · exact .ite (.next {}) (.next {})

theorem execTakeReport_timeKept (t : Nat) (s : State) : Yields (execTakeReport t s) (TimeKept s) := by
  unfold execTakeReport
  dsimp only
  split <;> exact .next {}

theorem execReadSnapshot_timeKept (t b g : Nat) (s : State) : Yields (execReadSnapshot t b g s) (TimeKept s) := by
  unfold execReadSnapshot
  dsimp only
  refine .ite (.next {}) ?_
  split <;> exact .next {}

theorem execSnapshotHoldExpiry_timeKept (b : Nat) (s : State) : Yields (execSnapshotHoldExpiry b s) (TimeKept s) := by
  unfold execSnapshotHoldExpiry
  split <;> exact .next {}

theorem execPictureWindow_timeKept (t : Nat) (w : WindowFields) (s : State) :
    Yields (execPictureWindow t w s) (TimeKept s) := by
  unfold execPictureWindow
  dsimp only
  split <;> exact .next {}

theorem execPanelWindow_timeKept (t : Nat) (w : WindowFields) (s : State) :
    Yields (execPanelWindow t w s) (TimeKept s) := by
  unfold execPanelWindow
  dsimp only
  split <;> exact .next {}

theorem execOutgoingMessageEnd_timeKept (s : State) : Yields (execOutgoingMessageEnd s) (TimeKept s) := by
  unfold execOutgoingMessageEnd
  split <;> exact .next {}

theorem execEmissionBlock_timeKept (s : State) : Yields (execEmissionBlock s) (TimeKept s) := by
  by_cases hp : s.pass.phase = .emitting
  · rw [execEmissionBlock_emitting hp]
    exact .next { timebase := rfl, now := Nat.le_max_left _ _ }
  · rw [execEmissionBlock, if_neg hp]
    exact .next {}

theorem execCommitPoint_timeKept (k : Nat) (s : State) : Yields (execCommitPoint k s) (TimeKept s) := by
  unfold execCommitPoint
  split
  · exact .next {}
  · exact .ite (.next {}) (.next {})

theorem execLatchPoint_timeKept (k : Nat) (s : State) : Yields (execLatchPoint k s) (TimeKept s) := by
  unfold execLatchPoint
  split
  · exact .next {}
  · exact .ite (.next {}) (.next {})

/-! ## Sound timebases (R52 to R58) -/

namespace Timebase.Sound

variable {tb : Timebase} {n : Nat}

/-- A sound timebase is sound at any later moment. -/
theorem later (h : tb.Sound n) {m : Nat} (hm : n ≤ m) : tb.Sound m :=
  { h with
    past := h.past.trans hm
    edge := fun e he => (h.edge e he).trans hm }

/-- While no event of the timebase is overdue the frame lasts no longer than 42,000 µs: the next frame start is pending,
or the holdover timer runs. -/
theorem frame_open (h : tb.Sound n) {m : Nat} (hm : tb.onTime m) : m ≤ tb.lastStart + us 42000 := by
  obtain ⟨hpending, hholdover⟩ := hm
  cases hd : tb.pendingStart with
  | some d => exact (hpending d hd).trans (h.pending d hd).2
  | none =>
    have hs : tb.state = .locked := by
      by_contra hs
      exact h.following hs hd
    have hf : tb.freeRun = false := by
      rw [← Bool.not_eq_true]
      exact fun hf => h.freeRunning hf hd
    obtain ⟨e, p, he, hp, -⟩ := h.locked hs
    exact (hholdover _ (Timebase.holdoverDue_locked hs hf he hp)).trans (Nat.min_le_right _ _)

theorem freePeriod (h : tb.Sound n) {f : Nat} (hf : 4100 ≤ f ∧ f ≤ 42000) :
    Timebase.Sound { tb with freePeriod := f } n := { h with free := hf }

theorem followSync (h : tb.Sound n) : tb.followSync.Sound n := by
  by_cases hs : tb.state = .free
  · rw [Timebase.followSync_free hs]
    have hpending := h.following (by simp [hs])
    exact { h with edge := nofun, locked := nofun, holdover := nofun, quiet := nofun, following := fun _ => hpending }
  · by_cases hf : tb.freeRun = true
    · rw [Timebase.followSync_marked hs hf]
      exact { h with
        edge := nofun, locked := nofun, holdover := nofun, quiet := nofun, freeRunning := nofun
        following := fun _ => h.freeRunning hf }
    · rw [Timebase.followSync_following hs (Bool.not_eq_true _ ▸ hf)]
      exact h

/-- The frame start that FREE RUN schedules comes a free period after the last, or at once where that is past. -/
theorem markFreeRun (h : tb.Sound n) (hn : n ≤ tb.lastStart + us 42000) : (tb.markFreeRun n).Sound n := by
  by_cases hidle : tb.state = .free ∨ tb.freeRun = true
  · rw [Timebase.markFreeRun_idle hidle]
    exact h
  · obtain ⟨hs, hf⟩ : tb.state ≠ .free ∧ tb.freeRun = false := by simpa using hidle
    rw [Timebase.markFreeRun_following hs hf]
    have hheld := h.held
    by_cases ha : tb.state = .acquire
    · rw [if_pos ha]
      have hpending := h.following (by simp [ha])
      exact { h with quiet := nofun, freeRunning := fun _ => hpending }
    · rw [if_neg ha]
      refine { h with pending := ?_, quiet := nofun, freeRunning := nofun, following := nofun }
      rintro d ⟨⟩
      simp only [us] at hn ⊢
      omega

/-- A timebase that an edge leaves LOCKED with a period in range. -/
theorem lockedAt (h : tb.Sound n) (hf : tb.freeRun = false) {p : Nat} (hp : 4100 ≤ p ∧ p ≤ 42000) :
    (tb.lockedAt n (some p)).Sound n :=
  { h with
    edge := by rintro e ⟨⟩; exact le_rfl
    period := by rintro q ⟨⟩; exact hp
    pending := nofun
    locked := fun _ => ⟨n, p, rfl, rfl, h.past⟩
    holdover := nofun
    quiet := fun _ _ => rfl
    freeRunning := fun hrun => by simp [Timebase.lockedAt, hf] at hrun
    following := fun hs => absurd rfl hs }

/-- Outside LOCKED the next frame start is generated, a period in range after this one. -/
theorem nextPending (h : tb.Sound n) (hs : tb.state ≠ .locked) :
    ∃ x, tb.nextPending n = some (n + us x) ∧ 4100 ≤ x ∧ x ≤ 42000 := by
  cases hst : tb.state with
  | free => exact ⟨_, Timebase.nextPending_unlocked (.inl hst) n, h.free⟩
  | acquire => exact ⟨_, Timebase.nextPending_unlocked (.inr hst) n, h.free⟩
  | locked => exact absurd hst hs
  | holdover =>
    obtain ⟨p, hp⟩ := Option.ne_none_iff_exists'.1 (h.holdover hst)
    exact ⟨p, Timebase.nextPending_holdover hst hp n, h.period p hp⟩

/-- A frame start of a sound timebase that is not marked to run free, and in LOCKED is at its last edge. -/
theorem atFrameStart (h : tb.Sound n) (hf : tb.freeRun = false) (hl : tb.state = .locked → tb.lastEdge = some n) :
    (tb.atFrameStart n).Sound n where
  past := le_rfl
  edge := h.edge
  free := h.free
  held := h.free
  period := h.period
  pending d hd := by
    have hs : tb.state ≠ .locked := fun hs => by
      cases (Timebase.nextPending_locked hs n).symm.trans hd
    obtain ⟨x, hx, hlo, hhi⟩ := h.nextPending hs
    obtain rfl : n + us x = d := Option.some.inj (hx.symm.trans hd)
    simp only [Timebase.atFrameStart, us]
    omega
  locked hs := by
    obtain ⟨e, p, -, hp, -⟩ := h.locked hs
    exact ⟨n, p, hl hs, hp, le_rfl⟩
  holdover := h.holdover
  quiet hs _ := Timebase.nextPending_locked hs n
  freeRunning hrun := by simp [Timebase.atFrameStart, hf] at hrun
  following hs := by
    obtain ⟨x, hx, -⟩ := h.nextPending hs
    simp [Timebase.atFrameStart, hx]
  counter := Nat.le_of_lt_succ (Nat.mod_lt _ (by decide))

/-- A generated frame start finds the timebase sound, though the free-run mark has led to FREE (R61). -/
theorem generating (h : tb.Sound n) (hd : tb.pendingStart ≠ none) :
    tb.generating.Sound n ∧ tb.generating.state ≠ .locked := by
  have hs : tb.generating.state ≠ .locked := by
    intro hs
    by_cases hf : tb.freeRun = true
    · simp [Timebase.generating, hf] at hs
    · have hlocked : tb.state = .locked := by simpa [Timebase.generating, hf] using hs
      exact hd (h.quiet hlocked (Bool.not_eq_true _ ▸ hf))
  refine ⟨{ h with
    locked := fun hlocked => absurd hlocked hs
    holdover := fun hholdover => h.holdover ?_
    quiet := fun hlocked => absurd hlocked hs
    freeRunning := nofun
    following := fun _ => hd }, hs⟩
  by_cases hf : tb.freeRun = true
  · simp [Timebase.generating, hf] at hholdover
  · simpa [Timebase.generating, hf] using hholdover

/-- As the holdover timer expires HOLDOVER is entered, a frame start being due within the frame's bounds. -/
theorem enterHoldover (h : tb.Sound n) (hs : tb.state = .locked) :
    Timebase.Sound { tb with state := .holdover, pendingStart := some (tb.lastStart + us 42000) } n :=
  { h with
    pending := by
      rintro d ⟨⟩
      exact ⟨Nat.add_le_add_left (by decide) _, le_rfl⟩
    locked := nofun
    holdover := fun _ => by
      obtain ⟨e, p, -, hp, -⟩ := h.locked hs
      simp [hp]
    quiet := nofun
    freeRunning := nofun
    following := nofun }

/-- The holdover timer expires within the bounds of a frame (R58). -/
theorem holdoverDue_bounds (h : tb.Sound n) {d : Nat} (hd : tb.holdoverDue = some d) :
    tb.state = .locked ∧ tb.freeRun = false ∧ tb.lastStart + us 4100 ≤ d ∧ d ≤ tb.lastStart + us 42000 := by
  have hrunning : ¬ (tb.state ≠ .locked ∨ tb.freeRun = true) := fun hidle => by
    cases (Timebase.holdoverDue_idle hidle).symm.trans hd
  obtain ⟨hs, hf⟩ : tb.state = .locked ∧ tb.freeRun = false := by simpa using hrunning
  obtain ⟨e, p, he, hp, hle⟩ := h.locked hs
  obtain ⟨hlo, -⟩ := h.period p hp
  obtain rfl := Option.some.inj ((Timebase.holdoverDue_locked hs hf he hp).symm.trans hd)
  refine ⟨hs, hf, ?_⟩
  simp only [us]
  omega

end Timebase.Sound

theorem wholePeriod_range {d : Nat} (hlo : us 4100 ≤ d) (hhi : d ≤ us 42000) :
    4100 ≤ wholePeriod d ∧ wholePeriod d ≤ 42000 := by
  have hspec := wholePeriod_spec d
  simp only [us] at hlo hhi
  omega

theorem Timebase.followSync_counter (tb : Timebase) : tb.followSync.counter = tb.counter := by
  unfold Timebase.followSync
  repeat' split
  all_goals rfl

theorem Timebase.markFreeRun_counter (tb : Timebase) (n : Nat) : (tb.markFreeRun n).counter = tb.counter := by
  unfold Timebase.markFreeRun
  repeat' split
  all_goals rfl

/-! ## What a command does to the timebase -/

/-- What a step from timebase `tb` to state `u` keeps: the timebase is sound, and a frame start that has been counted
lies within the bounds of R58 of the last one. -/
structure ClockSafe (tb : Timebase) (u : State) : Prop where
  sound : u.timebase.Sound u.now
  spaced : u.timebase.counter ≠ tb.counter →
    tb.lastStart + us 4100 ≤ u.timebase.lastStart ∧ u.timebase.lastStart ≤ tb.lastStart + us 42000

theorem ClockSafe.of_kept {s u : State} (h : s.timebase.Sound s.now) (k : TimeKept s u) : ClockSafe s.timebase u where
  sound := k.timebase ▸ h.later k.now
  spaced hne := absurd (congrArg _ k.timebase) hne

theorem Yields.clock {s : State} {o : Host.Outcome State Fault Refusal} (h : s.timebase.Sound s.now)
    (k : Yields o (TimeKept s)) : Yields o (ClockSafe s.timebase) := fun u hu => .of_kept h (k u hu)

/-- A step to another sound timebase that counts no frame start. -/
theorem ClockSafe.uncounted {tb : Timebase} {u : State} (h : u.timebase.Sound u.now)
    (hsame : u.timebase.counter = tb.counter) : ClockSafe tb u where
  sound := h
  spaced hne := absurd hsame hne

/-- A frame start at moment `n` of timebase `x`, between 4,100 and 42,000 µs after the one before. -/
theorem ClockSafe.frame {tb x : Timebase} {n : Nat} {u : State} (htb : u.timebase = x.atFrameStart n) (hnow : u.now = n)
    (hx : (x.atFrameStart n).Sound n) (hlo : tb.lastStart + us 4100 ≤ n) (hhi : n ≤ tb.lastStart + us 42000) :
    ClockSafe tb u where
  sound := by
    rw [htb, hnow]
    exact hx
  spaced _ := by
    rw [htb]
    exact ⟨hlo, hhi⟩

/-- An edge just recorded is a frame start, or changes nothing more. -/
theorem State.edgeFrame_clockSafe {tb : Timebase} {s : State} (h : s.timebase.Sound s.now)
    (hf : s.timebase.freeRun = false) (hl : s.timebase.lastEdge = some s.now)
    (hcounter : s.timebase.counter = tb.counter) (hstart : s.timebase.lastStart = tb.lastStart)
    (hopen : s.now ≤ tb.lastStart + us 42000) :
    ClockSafe tb s.edgeFrame := by
  rcases Nat.lt_or_ge s.now (s.timebase.lastStart + us 4100) with hlt | hle
  · rw [State.edgeFrame_no_frame hlt]
    exact .uncounted h hcounter
  · rw [State.edgeFrame_frame_start hle]
    exact .frame (x := s.timebase) (by simp [State.frameStart]) (by simp) (h.atFrameStart hf fun _ => hl)
      (hstart ▸ hle) hopen

section
variable {s : State} (h : s.timebase.Sound s.now) (hf : s.timebase.freeRun = false)
  (hopen : s.now ≤ s.timebase.lastStart + us 42000)
include h hf hopen

/-- An edge that leaves the timebase LOCKED is a frame start, or only recorded. -/
theorem State.lockedAt_clockSafe {p : Nat} (hp : 4100 ≤ p ∧ p ≤ 42000) :
    ClockSafe s.timebase (s.setTimebase (s.timebase.lockedAt s.now (some p))).edgeFrame :=
  State.edgeFrame_clockSafe (h.lockedAt hf hp) hf rfl rfl rfl hopen

/-- An edge that locks ACQUIRE, or is only recorded there (R56). -/
theorem State.acquireEdge_clockSafe (hs : s.timebase.state = .acquire)
    (hspaced : ∀ e, s.timebase.lastEdge = some e → e + us 4100 ≤ s.now) : ClockSafe s.timebase s.acquireEdge := by
  by_cases hlate : ∀ e, s.timebase.lastEdge = some e → e + us 42000 < s.now
  · rw [State.acquireEdge_record hlate]
    refine .uncounted ?_ rfl
    exact { h with
      edge := by rintro e ⟨⟩; exact le_rfl
      locked := fun hlocked => by cases hs.symm.trans hlocked }
  · obtain ⟨e, he, hle⟩ : ∃ e, s.timebase.lastEdge = some e ∧ s.now ≤ e + us 42000 := by simpa using hlate
    rw [State.acquireEdge_lock he hle]
    have hspacing := hspaced e he
    exact State.lockedAt_clockSafe h hf hopen (wholePeriod_range (by omega) (by omega))

/-- An edge that measures p in LOCKED, where no more than 42,000 µs part it from the last (R57). -/
theorem State.lockedEdge_clockSafe (hs : s.timebase.state = .locked)
    (hspaced : ∀ e, s.timebase.lastEdge = some e → e + us 4100 ≤ s.now) : ClockSafe s.timebase s.lockedEdge := by
  obtain ⟨e, -, he, -, hstart⟩ := h.locked hs
  have hspacing := hspaced e he
  have hlocked : s.timebase.lockedAt s.now (some (wholePeriod (s.now - e))) = { s.timebase with
      lastEdge := some s.now, period := some (wholePeriod (s.now - e)) } := by
    rw [Timebase.lockedAt, ← hs, ← h.quiet hs hf]
  rw [State.lockedEdge_eq he, ← hlocked]
  exact State.lockedAt_clockSafe h hf hopen (wholePeriod_range (by omega) (by omega))

/-- An edge that ends HOLDOVER, its period kept (R59). -/
theorem State.holdoverEdge_clockSafe (hs : s.timebase.state = .holdover) : ClockSafe s.timebase s.holdoverEdge := by
  obtain ⟨p, hp⟩ := Option.ne_none_iff_exists'.1 (h.holdover hs)
  have hsound := h.lockedAt hf (h.period p hp)
  rw [← hp] at hsound
  rcases Nat.lt_or_ge s.now (s.timebase.lastStart + us 4100) with hlt | hle
  · rw [State.holdoverEdge_no_frame hlt]
    exact .uncounted (by simpa using hsound) (by simp [Timebase.lockedAt])
  · rw [State.holdoverEdge_frame_start hle]
    exact .frame (x := s.timebase.lockedAt s.now s.timebase.period) (by simp) (by simp)
      (hsound.atFrameStart hf fun _ => rfl) hle hopen

end

/-- An FSYNC edge that no event of the timebase should have come before (R54 to R60). -/
theorem execFsyncEdge_clockSafe {t : Nat} {s : State} (h : s.timebase.Sound s.now)
    (hn : s.timebase.onTime (max s.now t)) : Yields (execFsyncEdge t s) (ClockSafe s.timebase) := by
  have harrive : Timebase.Sound (s.arrive t).timebase (s.arrive t).now := h.later (Nat.le_max_left _ _)
  have hopen := h.frame_open hn
  by_cases hignored : s.timebase.state = .free ∨ s.timebase.freeRun = true
  · rw [execFsyncEdge_ignored hignored]
    exact .next (.of_kept h {})
  obtain ⟨hfree, hf⟩ : s.timebase.state ≠ .free ∧ s.timebase.freeRun = false := by simpa using hignored
  cases hrunt : s.timebase.isRunt (max s.now t) with
  | true =>
    rw [execFsyncEdge_runt hfree hf hrunt]
    exact .next (.of_kept h {})
  | false =>
    have hspaced : ∀ e, s.timebase.lastEdge = some e → e + us 4100 ≤ max s.now t := by
      intro e he
      rw [← Bool.not_eq_true, Timebase.isRunt_iff] at hrunt
      exact Nat.not_lt.1 fun hlt => hrunt ⟨e, he, hlt⟩
    obtain ⟨hacquire, hlocked, hholdover⟩ := execFsyncEdge_accepted hf hrunt
    cases hs : s.timebase.state with
    | free => exact absurd hs hfree
    | acquire =>
      rw [hacquire hs]
      exact .next (State.acquireEdge_clockSafe harrive hf hopen hs hspaced)
    | locked =>
      rw [hlocked hs]
      exact .next (State.lockedEdge_clockSafe harrive hf hopen hs hspaced)
    | holdover =>
      rw [hholdover hs]
      exact .next (State.holdoverEdge_clockSafe harrive hf hopen hs)

/-- The pending frame start falls due (R54, R61). -/
theorem execGeneratedFrameStart_clockSafe {s : State} (h : s.timebase.Sound s.now) (hn : s.timebase.onTime s.now) :
    Yields (execGeneratedFrameStart s) (ClockSafe s.timebase) := by
  cases hd : s.timebase.pendingStart with
  | none =>
    rw [execGeneratedFrameStart_idle hd]
    exact .next (.of_kept h {})
  | some d =>
    obtain ⟨hlo, hhi⟩ := h.pending d hd
    have hle : s.now ≤ d := hn.1 d hd
    have hdue : max s.now d = d := Nat.max_eq_right hle
    obtain ⟨hsound, hs⟩ := (h.later hle).generating (by simp [hd])
    rw [execGeneratedFrameStart_pending hd]
    exact .next (.frame (x := s.timebase.generating) (n := d) (by simp [State.frameStart, hdue]) (by simp [hdue])
      (hsound.atFrameStart rfl fun hlocked => absurd hlocked hs) hlo hhi)

/-- The holdover timer expires (R58). -/
theorem execHoldoverEntry_clockSafe {s : State} (h : s.timebase.Sound s.now) (hn : s.timebase.onTime s.now) :
    Yields (execHoldoverEntry s) (ClockSafe s.timebase) := by
  cases hd : s.timebase.holdoverDue with
  | none =>
    rw [execHoldoverEntry_idle hd]
    exact .next (.of_kept h {})
  | some d =>
    obtain ⟨hs, hf, hlo, hhi⟩ := h.holdoverDue_bounds hd
    have hle : s.now ≤ d := hn.2 d hd
    have hdue : max s.now d = d := Nat.max_eq_right hle
    have hsound := ((h.later hle).enterHoldover hs).atFrameStart hf nofun
    rw [execHoldoverEntry_due hd]
    exact .next (.frame (x := { s.timebase with state := .holdover }) (n := d) (by simp [hdue]) (by simp [hdue]) hsound
      hlo hhi)

theorem execSetTimebase_clockSafe {t f : Nat} {s : State} (h : s.timebase.Sound s.now) :
    Yields (execSetTimebase t f s) (ClockSafe s.timebase) := by
  unfold execSetTimebase
  dsimp only
  split
  · exact .next (.of_kept h {})
  · exact .next (.uncounted ((h.later (Nat.le_max_left _ _)).freePeriod (by omega)) rfl)

theorem execFollowSync_clockSafe {t : Nat} {s : State} (h : s.timebase.Sound s.now) :
    Yields (execFollowSync t s) (ClockSafe s.timebase) := by
  refine .next (.uncounted (h.later (Nat.le_max_left _ _)).followSync ?_)
  exact s.timebase.followSync_counter

theorem execFreeRun_clockSafe {t : Nat} {s : State} (h : s.timebase.Sound s.now)
    (hn : s.timebase.onTime (max s.now t)) : Yields (execFreeRun t s) (ClockSafe s.timebase) := by
  refine .next (.uncounted ((h.later (Nat.le_max_left _ _)).markFreeRun (h.frame_open hn)) ?_)
  exact s.timebase.markFreeRun_counter _

/-! ## Every command -/

/-- Each command but a power-on or a soft restart, taken with no event of a sound timebase overdue, keeps the timebase
sound and frame starts within their bounds. -/
theorem exec_clockSafe (c : Instr) (s : State) (h : s.timebase.Sound s.now) (hin : s.inTime c)
    (hc : ∀ t, c ≠ .powerOn t ∧ c ≠ .softRestart t) : Yields (exec c s) (ClockSafe s.timebase) := by
  obtain ⟨hnow, harrival⟩ := hin
  cases c with
  | powerOn t => exact absurd rfl (hc t).1
  | setGrid t cols rows => exact .clock h (.ite (.next {}) (.ite (.next {}) (.ite (.next {}) (.next {}))))
  | setChain t c d w sensor => exact .clock h (.ite (.next {}) (.ite (.next {}) (.next {})))
  | mapZone t z c p k => exact .clock h (.ite (.next {}) (.ite (.next {}) (.ite (.next {}) (.next {}))))
  | unmapZone t z => exact .clock h (.ite (.next {}) (.ite (.next {}) (.next {})))
  | setGroups t g offsets lead => exact .clock h (.ite (.next {}) (.ite (.next {}) (.next {})))
  | setProfile t profile => exact .clock h (.ite (.next {}) (.next {}))
  | setPower t budget => exact .clock h (.next {})
  | setEasing t rise fall => exact .clock h (.ite (.next {}) (.next {}))
  | setService t pollUs holdMs => exact .clock h (.ite (.next {}) (.next {}))
  | setThermal t p => exact .clock h (.ite (.next {}) (.next {}))
  | setTimebase t f => exact execSetTimebase_clockSafe h
  | followSync t => exact execFollowSync_clockSafe h
  | freeRun t => exact execFreeRun_clockSafe h (harrival t rfl)
  | loadGains t start gains => exact .clock h (.ite (.next {}) (.next {}))
  | setOverride t z l => exact .clock h (.ite (.next {}) (.next {}))
  | clearOverride t z => exact .clock h (.ite (.next {}) (.next {}))
  | clearFault t z => exact .clock h (execClearFault_timeKept t z s)
  | clearWindows t => exact .clock h (.next {})
  | start t => exact .clock h (.ite (.next {}) (.ite (.next {}) (.next {})))
  | stop t => exact .clock h (.next {})
  | restartChain t c => exact .clock h (.ite (.next {}) (.ite (.next {}) (.ite (.next {}) (.next {}))))
  | driverTrim t c a code => exact .clock h (.next {})
  | driverIdent t c a => exact .clock h (.next {})
  | systemBlank t on => exact .clock h (.next {})
  | takeReport t => exact .clock h (execTakeReport_timeKept t s)
  | readSnapshot t b g => exact .clock h (execReadSnapshot_timeKept t b g s)
  | probe t z mode => exact .clock h (.ite (.next {}) (.next {}))
  | readProbe t => exact .clock h (.next {})
  | readZone t z => exact .clock h (.ite (.next {}) (.next {}))
  | readCounters t => exact .clock h (.next {})
  | readState t => exact .clock h (.next {})
  | softRestart t => exact absurd rfl (hc t).2
  | unknownCommandWrite t bytes => exact .clock h (.ite (.next {}) (.next {}))
  | responseCapture t => exact .clock h (.next {})
  | run12 t start values => exact .clock h (.next {})
  | run8 t start values => exact .clock h (.next {})
  | fine4 t start values => exact .clock h (.next {})
  | nudge t r delta => exact .clock h (.ite (.next {}) (.ite (.next {}) (.next {})))
  | close t tag cut => exact .clock h (.ite (.next {}) (.next {}))
  | pictureWindow t w => exact .clock h (execPictureWindow_timeKept t w s)
  | pictureUnwindow t n => exact .clock h (.ite (.next {}) (.next {}))
  | pictureBlank t on => exact .clock h (.next {})
  | status t => exact .clock h (.next {})
  | malformedMessage t bytes n => exact .clock h (.ite (.next {}) (.next {}))
  | hold t m => exact .clock h (.ite (.next {}) (.next {}))
  | resume t => exact .clock h (.next {})
  | panelWindow t w => exact .clock h (execPanelWindow_timeKept t w s)
  | panelUnwindow t n => exact .clock h (.ite (.next {}) (.next {}))
  | panelBlank t on => exact .clock h (.next {})
  | messageDiscarded t reason => exact .clock h (.next {})
  | outgoingMessageEnd => exact .clock h (execOutgoingMessageEnd_timeKept s)
  | fsyncEdge t => exact execFsyncEdge_clockSafe h (harrival t rfl)
  | generatedFrameStart => exact execGeneratedFrameStart_clockSafe h hnow
  | holdoverEntry => exact execHoldoverEntry_clockSafe h hnow
  | holdExpired => exact .clock h (.ite (.next {}) (.next {}))
  | problemFrames c => exact .clock h (.ite (.next {}) (.next {}))
  | compositionEnd => exact .clock h (.ite (.next {}) (.next {}))
  | limitingEnd => exact .clock h (.ite (.next {}) (.next {}))
  | emissionBlock => exact .clock h (execEmissionBlock_timeKept s)
  | commitPoint k => exact .clock h (execCommitPoint_timeKept k s)
  | latchPoint k => exact .clock h (execLatchPoint_timeKept k s)
  | frameBoundary c => exact .clock h (.ite (.next {}) (.next {}))
  | echoEnd t c bits => exact .clock h (.ite (.next {}) (.next {}))
  | echoOverdue c => exact .clock h (execEchoOverdue_timeKept c s)
  | loopLost t c => exact .clock h (.ite (.next {}) (.next {}))
  | attemptBegin c => exact .clock h (execAttemptBegin_timeKept c s)
  | runningTimerExpiry c => exact .clock h (execRunningTimerExpiry_timeKept c s)
  | pollTick c => exact .clock h (execPollTick_timeKept c s)
  | conversionComplete code => exact .clock h (.ite (.next {}) (.next {}))
  | snapshotHoldExpiry b => exact .clock h (execSnapshotHoldExpiry_timeKept b s)
  | echoBegin t c => exact .clock h (execEchoBegin_timeKept t c s)

/-- The timebase after power-on and after soft restart is sound (R53). -/
theorem Timebase.restart_sound {tb : Timebase} (n : Nat) (hf : 4100 ≤ tb.freePeriod ∧ tb.freePeriod ≤ 42000) :
    (tb.restart n).Sound n where
  past := le_rfl
  edge := nofun
  free := hf
  held := hf
  period := nofun
  pending := by
    rintro d ⟨⟩
    simp only [Timebase.restart, us]
    omega
  locked := nofun
  holdover := nofun
  quiet := nofun
  freeRunning := nofun
  following := nofun
  counter := Nat.zero_le _

/-- Settles O11. -/
theorem timebaseStaysSound : Obligations.TimebaseStaysSound := by
  intro c s u h hin hu
  by_cases hpower : ∃ t, c = .powerOn t
  · obtain ⟨t, rfl⟩ := hpower
    obtain rfl := Host.Outcome.next.inj hu
    exact Timebase.restart_sound (tb := State.reset.timebase) _ (by decide)
  by_cases hrestart : ∃ t, c = .softRestart t
  · obtain ⟨t, rfl⟩ := hrestart
    obtain rfl := Host.Outcome.next.inj hu
    exact Timebase.restart_sound _ h.free
  exact (exec_clockSafe c s h hin (fun t => ⟨fun hc => hpower ⟨t, hc⟩, fun hc => hrestart ⟨t, hc⟩⟩) u hu).sound

/-- Settles O12. -/
theorem frameStartsKeepTheirSpacing : Obligations.FrameStartsKeepTheirSpacing :=
  fun c s u h hin hu hc => (exec_clockSafe c s h hin hc u hu).spaced

end Sys2Proof.Machine

namespace Sys2Proof.Machine

/-! # Commit points, latch points and HOLD (3.6, 3.7) -/

/-! ## HOLD and RESUME (R70, R71) -/

/-- HOLD that ends by expiry sets the HOLD ENDED mark and queues its report (R71). -/
theorem State.moveHold_expired {s : State} (h : s.schedule.holdExpires = true) :
    s.moveHold = ({ s with
      schedule := { s.schedule with hold := .none, holdCount := 0 } } : State).markHoldEnded.queueReport
        [s.entry .panelPort .holdExpired .active] := by
  obtain ⟨hforce, hmark, hlast⟩ := s.schedule.holdExpires_iff.1 h
  have hmoved : s.schedule.moveHold = { s.schedule with hold := .none, holdCount := 0 } := by
    simp [Schedule.moveHold, hforce, hmark, hlast]
  rw [← hmoved]
  exact if_pos h

/-- Settles O41. -/
theorem holdAndResumeFollowTheTable : Obligations.HoldAndResumeFollowTheTable := by
  intro t m s hm
  refine ⟨if_neg hm, rfl, fun hstays => if_neg ?_, fun hforce hmark hlast => ?_⟩
  · rw [Schedule.holdExpires_iff]
    rintro ⟨hforce, hmark, hlast⟩
    rcases hstays with h | h | h
    · exact h hforce
    · simp [hmark] at h
    · omega
  · have hexpires := s.schedule.holdExpires_iff.2 ⟨hforce, hmark, hlast⟩
    exact (if_pos hexpires).trans (congrArg _ (State.moveHold_expired hexpires))

/-! ## The outcomes of a commit point (R64) -/

theorem State.outcomeFor_eq (s : State) (k c : Nat) : s.outcomeFor k c =
    if (s.sampledChain c).carries.getLsbD k = false then .notCarried
    else if (s.chain c).state ≠ .running ∨ (s.sampledChain c).running = false ∨ (s.chain c).leftFrame = true then
      .absent
    else if s.pass.emitted.getD k false = true ∧ ((s.chain c).settleOf k).handed = true ∧
      ((s.chain c).settleOf k).count = 0 ∧ ((s.chain c).settleOf k).givenUp = false then .committed
    else .late := by
  have hserves : (!s.servesFrame c) = true ↔
      (s.chain c).state ≠ .running ∨ (s.sampledChain c).running = false ∨ (s.chain c).leftFrame = true := by
    simp only [State.servesFrame, State.running, Bool.not_and, Bool.or_eq_true, Bool.not_eq_true', Bool.not_not,
      decide_eq_false_iff_not, or_assoc, ne_eq]
  have hsettled : (s.emittedMark k && (s.chain c).settled k) = true ↔
      s.pass.emitted.getD k false = true ∧ ((s.chain c).settleOf k).handed = true ∧
        ((s.chain c).settleOf k).count = 0 ∧ ((s.chain c).settleOf k).givenUp = false := by
    simp only [State.emittedMark, Chain.settled, Bool.and_eq_true, Bool.not_eq_true', decide_eq_true_eq, and_assoc]
  unfold State.outcomeFor
  rw [if_congr hserves rfl rfl, if_congr hsettled rfl rfl]
  simp only [Bool.not_eq_true']

/-- The outcome of a zone is that of the chain it is mapped to. -/
theorem State.zoneOutcome_iff (s : State) (k : Nat) (z : SampledZone) {o : CommitOutcome} (ho : o ≠ .notCarried) :
    zoneOutcome (s.outcomes k) z = o ↔ ∃ x, z.channel = some x ∧ x.chain < 8 ∧ s.outcomeFor k x.chain = o := by
  unfold zoneOutcome
  cases z.channel with
  | none => simp [ho.symm]
  | some x =>
    by_cases hx : x.chain < 8
    · simp [s.outcomeOf_outcomes k hx, hx]
    · simp [outcomeOf, State.outcomes, hx, ho.symm]

/-! ## A commit point as a whole (R64 to R66) -/

/-- The state in which group `k` has committed at point `p`, its light section not yet queued. -/
def State.committed (s : State) (k : Nat) (p : GroupPoint) : State :=
  { s with
    zones := s.zones.mapIdx (s.commitZone k (s.outcomes k))
    chains := s.chains.mapIdx fun c ch => if outcomeOf (s.outcomes k) c = .late then ch.lateFor k else ch
    schedule := { s.schedule with
      points := s.schedule.points.set k (some { p with reached := true, outcomes := s.outcomes k }) } }

theorem State.commitGroup_eq {s : State} {k : Nat} {p : GroupPoint} (hp : s.point k = some p) :
    s.commitGroup k = (s.committed k p).queueSection ((s.committed k p).buildSection k (s.outcomes k)) := by
  have hpoints : s.schedule.updPoint k (fun q => { q with reached := true, outcomes := s.outcomes k }) =
      { s.schedule with
        points := s.schedule.points.set k (some { p with reached := true, outcomes := s.outcomes k }) } := by
    have hget : s.schedule.points.getD k none = some p := hp
    rw [Schedule.updPoint, modify_eq_set _ _ _ none, hget]
    rfl
  have houtcomes : (List.range 8).map (s.outcomeFor k) = s.outcomes k := rfl
  simp only [State.commitGroup, houtcomes, hpoints]
  rfl

theorem State.committed_zone (s : State) (k : Nat) (p : GroupPoint) {i : Nat} (hi : i < s.zones.length) :
    (s.committed k p).zone i = if s.grid.zoneGroup s.schedule.groups i = k ∧
        ∃ x, (s.sampledZone i).channel = some x ∧ x.chain < 8 ∧ s.outcomeFor k x.chain = .committed
      then { s.zone i with shown := s.pass.buffer.getD i 0 } else s.zone i := by
  have hzone : (s.committed k p).zone i = s.commitZone k (s.outcomes k) i (s.zone i) := by
    simp [State.zone, State.committed, hi]
  rw [hzone, State.commitZone, if_congr (and_congr_right fun _ => s.zoneOutcome_iff k _ (by decide)) rfl rfl]

theorem State.committed_chain_kept (s : State) (k : Nat) (p : GroupPoint) {c : Nat} (hc : c < 8)
    (h : s.outcomeFor k c ≠ .late) : (s.committed k p).chains[c]? = s.chains[c]? := by
  simp [State.committed, s.outcomeOf_outcomes k hc, h]

theorem State.committed_chain_late (s : State) (k : Nat) (p : GroupPoint) {c : Nat} (hc : c < 8)
    (hlen : s.chains.length = 8) (h : s.outcomeFor k c = .late) :
    (s.committed k p).chains[c]? = some ((s.chain c).lateFor k) := by
  have hlt : c < s.chains.length := hlen ▸ hc
  simp [State.committed, s.outcomeOf_outcomes k hc, h, State.chain, hlt]

/-- What LATE leaves of a mirror record: it becomes unknown where a retry to it was discarded (R65). -/
theorem Chain.lateFor_record (ch : Chain) (k : Nat) {a : Nat} (ha : a < ch.mirror.length) :
    (ch.lateFor k).record a = { ch.record a with
      known := (ch.record a).known && !(ch.staging.any fun e =>
        decide (e.group = k) && e.retry && decide (e.address = a)) } := by
  have hwaits : retryWaits ch.staging [k] a =
      ch.staging.any fun e => decide (e.group = k) && e.retry && decide (e.address = a) := by
    simp [retryWaits]
  rw [ch.lateFor_eq, ← hwaits]
  exact ch.lateForAll_mirror_getD [k] ha

/-- The value of a zone in its light section (R66). -/
theorem State.sectionValue_eq (s : State) (k i shown : Nat) :
    sectionValue (s.outcomes k) s.claims.any (s.sampledZone i) shown =
      if (s.sampledZone i).state ≠ .lit ∨
        (∃ x, (s.sampledZone i).channel = some x ∧ x.chain < 8 ∧ s.outcomeFor k x.chain = .absent) ∨
        s.claims.picture = true ∨ s.claims.panel = true ∨ s.claims.system = true then 0
      else shown :=
  if_congr (or_congr Iff.rfl (or_congr (s.zoneOutcome_iff k _ (by decide)) s.claims.any_iff)) rfl rfl

/-! ## Groups that share a moment (R63) -/

theorem State.mem_commitsAt_iff (s : State) (t j : Nat) :
    j ∈ s.commitsAt t ↔ j < 8 ∧ ∃ q, s.point j = some q ∧ q.reached = false ∧ q.commitAt = t := by
  rw [State.commitsAt, List.mem_filter, List.mem_range]
  refine and_congr_right fun _ => ?_
  cases s.point j <;> simp

theorem State.commitsAt_pairwise (s : State) (t : Nat) : (s.commitsAt t).Pairwise (· < ·) :=
  List.pairwise_lt_range.filter _

/-- Settles O50: a commit point is `committed` with the group's section queued (`commitGroup_eq`). -/
theorem commitPointsDecideEachChain : Obligations.CommitPointsDecideEachChain := by
  refine ⟨fun k s => ⟨fun hp => ?_, fun p hp => ⟨fun hr => ?_, fun hr _ => ?_⟩⟩, fun k s p hlen hp => ?_⟩
  · simp only [exec, execCommitPoint, hp]
  · simp only [exec, execCommitPoint, hp, hr, if_true]
  · refine ⟨s.commitsAt p.commitAt, s.commitsAt_pairwise _, s.mem_commitsAt_iff _, ?_⟩
    simp only [exec, execCommitPoint, hp, hr, Bool.false_eq_true, if_false]
    rfl
  · refine ⟨s.outcomeFor k, (s.committed k p).buildSection k (s.outcomes k), (s.committed k p).zones,
      (s.committed k p).chains, State.commitGroup_eq hp, fun c _ => s.outcomeFor_eq k c, by simp [State.committed],
      fun i hi => s.committed_zone k p hi, by simp [State.committed, hlen],
      fun c hc h => s.committed_chain_kept k p hc h,
      fun c hc h => ⟨_, s.committed_chain_late k p hc hlen h, rfl, by simp [Chain.lateFor], ?_⟩,
      rfl, rfl, rfl, rfl, rfl, ?_, fun c hc => ?_, ?_⟩
    · rintro a m ha rfl
      exact (s.chain c).lateFor_record k (by simpa [Chain.lateFor] using ha)
    · intro r rest hrows
      simp only [State.buildSection]
      exact congrArg (List.headD · 0) hrows
    · refine (lateMask_iff (s.outcomes k) s.claims.any hc).trans ?_
      rw [s.outcomeOf_outcomes k hc, s.claims.any_iff]
      exact or_left_comm
    · exact List.map_congr_left fun i _ => s.sectionValue_eq k i _

/-! ## Latch points (R67) -/

/-- The mask of a chain holds the groups of the kind asked for that it has committed. -/
theorem State.committedMask_iff (s : State) (c : Nat) (p : GroupPoint → Bool) {j : Nat} (hj : j < 8) :
    (s.committedMask c p).getLsbD j = true ↔
      ∃ q, s.point j = some q ∧ p q = true ∧ q.outcomes.getD c .notCarried = .committed := by
  rw [State.committedMask, foldl_getLsbD_iff (P := fun k => j = k ∧ ∃ q, s.point k = some q ∧ p q = true ∧
    q.outcomes.getD c .notCarried = .committed)]
  · simp [hj]
  · intro m k
    cases s.point k with
    | none => simp
    | some q =>
      have hcommitted : (p q && decide (outcomeOf q.outcomes c = .committed)) = true ↔
          p q = true ∧ q.outcomes.getD c .notCarried = .committed := by simp [outcomeOf]
      simp only [Option.some.injEq, exists_eq_left', ← hcommitted]
      split
      next h => rw [getLsbD_or_bit _ _ hj, and_iff_left h]
      next h => simp [h]

theorem dueLatch_iff (t : Nat) (q : GroupPoint) :
    dueLatch t q = true ↔ q.reached = true ∧ q.latched = false ∧ q.latchAt = t := by
  simp [dueLatch, and_assoc]

theorem GroupPoint.latch_eq (t : Nat) (q : GroupPoint) :
    (if dueLatch t q = true then { q with latched := true } else q) =
      if q.reached = true ∧ q.latchAt = t then { q with latched := true } else q := by
  rw [if_congr (dueLatch_iff t q) rfl rfl]
  cases hq : q.latched with
  | false => simp
  | true =>
    have hsame : ({ q with latched := true } : GroupPoint) = q := by rw [← hq]
    simp [hsame]

/-- The latch of the groups whose latch point is `t`, and the service of the lines. -/
theorem State.latchAt_serveAll (s : State) (t : Nat) :
    (s.latchAt t).serveAll = { s with
      chains := s.chains.mapIdx fun c ch =>
        (if s.committedMask c (dueLatch t) ≠ 0 ∧ ch.state = .running ∧ ch.leftFrame = false then
          { ch with latchSource := ch.latchSource ++ [⟨s.committedMask c (dueLatch t), false⟩] }
        else ch).serve s.now
      schedule := { s.schedule with points := s.schedule.points.map fun x => x.map fun q =>
        if q.reached = true ∧ q.latchAt = t then { q with latched := true } else q } } := by
  simp only [State.latchAt, State.serveAll, State.mapChains, map_eq_mapIdx (fun ch : Chain => _), List.mapIdx_mapIdx,
    GroupPoint.latch_eq]
  rfl

/-- Settles O51. -/
theorem latchPointsQueueOneLatch : Obligations.LatchPointsQueueOneLatch := by
  intro k s
  refine ⟨fun hp => ?_, fun p hp => ⟨fun hdone => ?_, fun hr hl _ => ?_⟩⟩
  · simp only [exec, execLatchPoint, hp]
  · have howed : owedLatch p = false := by
      rcases hdone with h | h <;> simp [owedLatch, h]
    simp only [exec, execLatchPoint, hp, howed, Bool.false_eq_true, if_false]
  · have howed : owedLatch p = true := by simp [owedLatch, hr, hl]
    refine ⟨fun c => s.committedMask c (dueLatch p.latchAt), ?_, fun c j hj => ?_⟩
    · simp only [exec, execLatchPoint, hp, howed, if_true]
      exact congrArg _ ((s.arrive p.latchAt).latchAt_serveAll p.latchAt)
    · rw [s.committedMask_iff c _ hj]
      simp only [dueLatch_iff, and_assoc]

end Sys2Proof.Machine

namespace Sys2Proof.Machine

/-! # What a chain engine queues (chapter 5) -/

/-! ## The STAGE of one driver (R96, R99) -/

/-- A driver is staged whole: a STAGE to it waits or is in flight, or its shadow is unknown (Table R96). -/
def Chain.stagedWhole (ch : Chain) (a : Nat) : Prop :=
  (∃ e ∈ ch.staging, e.address = a) ∨ ch.holds a ∨ (ch.record a).known = false

theorem Chain.stagedWhole_iff (ch : Chain) (a : Nat) :
    (ch.staging.any (fun e => decide (e.address = a)) || ch.stageInFlight a || !(ch.record a).known) = true ↔
      ch.stagedWhole a := by
  simp [Chain.stagedWhole, ← ch.stageInFlight_iff, or_assoc]

theorem mem_differing_iff (old new : List Nat) (j : Nat) :
    j ∈ differing old new ↔ j < 16 ∧ old.getD j 0 ≠ new.getD j 0 := by
  simp [differing]

theorem differing_pairwise_le (old new : List Nat) : (differing old new).Pairwise (· ≤ ·) :=
  (List.pairwise_lt_range.filter _).imp Nat.le_of_lt

/-- Two lists that agree at every channel of a driver are the same sixteen duties. -/
theorem eq_of_getD_sixteen {old new : List Nat} (hold : old.length = 16) (hnew : new.length = 16)
    (h : ∀ j, j < 16 → old.getD j 0 = new.getD j 0) : old = new := by
  refine List.ext_getElem (hold.trans hnew.symm) fun j hj hj' => ?_
  simpa [List.getD_eq_getElem?_getD, hj, hj'] using h j (hold ▸ hj)

theorem differing_eq_nil_iff {old new : List Nat} (hold : old.length = 16) (hnew : new.length = 16) :
    differing old new = [] ↔ old = new := by
  refine ⟨fun h => eq_of_getD_sixteen hold hnew fun j hj => ?_, fun h => by simp [differing, h]⟩
  by_contra hne
  simpa [h] using (mem_differing_iff old new j).2 ⟨hj, hne⟩

/-- Outside the differing channels the duties agree. -/
theorem getD_eq_of_not_mem_differing {old new : List Nat} (hold : old.length = 16) (hnew : new.length = 16) {j : Nat}
    (hj : j ∉ differing old new) : old.getD j 0 = new.getD j 0 := by
  rcases lt_or_ge j 16 with hlt | hge
  · by_contra hne
    exact hj ((mem_differing_iff old new j).2 ⟨hlt, hne⟩)
  · simp [List.getD_eq_getElem?_getD, hold, hnew, hge]

theorem Chain.stageFor_whole {ch : Chain} {a : Nat} (h : ch.stagedWhole a) (k counter : Nat) (duties : List Nat) :
    ch.stageFor k counter a duties = some ⟨a, 0, duties, k, counter, false⟩ :=
  if_pos ((ch.stagedWhole_iff a).2 h)

theorem Chain.stageFor_same {ch : Chain} {a : Nat} (h : ¬ ch.stagedWhole a) (k counter : Nat) {duties : List Nat}
    (hsame : differing (ch.record a).shadow duties = []) : ch.stageFor k counter a duties = none := by
  rw [Chain.stageFor, if_neg (mt (ch.stagedWhole_iff a).1 h), hsame]

/-- The ends of the differing channels: the first and the last, all others between them. -/
theorem differing_ends {old new : List Nat} {lo : Nat} {rest : List Nat} (h : differing old new = lo :: rest) :
    (lo :: rest).getLastD lo ∈ differing old new ∧
      ∀ j ∈ differing old new, lo ≤ j ∧ j ≤ (lo :: rest).getLastD lo := by
  have hlast : (lo :: rest).getLastD lo = (lo :: rest).getLast (List.cons_ne_nil _ _) := by
    rw [List.getLastD_eq_getLast?, List.getLast?_eq_some_getLast (List.cons_ne_nil _ _), Option.getD_some]
  have hsorted := differing_pairwise_le old new
  rw [h] at hsorted ⊢
  rw [hlast]
  refine ⟨List.getLast_mem _, fun j hj => ⟨?_, hsorted.rel_getLast hj⟩⟩
  rcases List.mem_cons.1 hj with rfl | hj
  · exact Nat.le_refl _
  · exact List.rel_of_pairwise_cons hsorted hj

/-- A driver staged in part is staged from its lowest to its highest differing channel (Table R96). -/
theorem Chain.stageFor_part {ch : Chain} {a : Nat} (h : ¬ ch.stagedWhole a) (k counter : Nat) {duties : List Nat}
    (hne : differing (ch.record a).shadow duties ≠ []) :
    ∃ lo hi, lo ∈ differing (ch.record a).shadow duties ∧ hi ∈ differing (ch.record a).shadow duties ∧
      (∀ j ∈ differing (ch.record a).shadow duties, lo ≤ j ∧ j ≤ hi) ∧
      ch.stageFor k counter a duties = some ⟨a, lo, (duties.drop lo).take (hi + 1 - lo), k, counter, false⟩ := by
  obtain ⟨lo, rest, hcons⟩ := List.exists_cons_of_ne_nil hne
  obtain ⟨hmem, hbetween⟩ := differing_ends hcons
  refine ⟨lo, (lo :: rest).getLastD lo, by simp [hcons], hmem, hbetween, ?_⟩
  rw [Chain.stageFor, if_neg (mt (ch.stagedWhole_iff a).1 h), hcons]

/-- A STAGE that covers every channel in which the mirror differs brings it to the new duties (R99). -/
theorem Mirror.takeStage_shadow_eq {m : Mirror} {duties : List Nat} {e : StageEntry} (hm : m.shadow.length = 16)
    (hd : duties.length = 16) {n : Nat} (he : e.duties = (duties.drop e.first).take n) (hn : e.first + n ≤ 16)
    (hout : ∀ j, j < 16 → j < e.first ∨ e.first + n ≤ j → m.shadow.getD j 0 = duties.getD j 0) :
    (m.takeStage e).shadow = duties := by
  have hlen : e.duties.length = n := by rw [he, List.length_take, List.length_drop]; omega
  refine eq_of_getD_sixteen (by simp [Mirror.takeStage, hlen, hm]; omega) hd fun j hj => ?_
  simp only [Mirror.takeStage, hlen, List.getD_eq_getElem?_getD, List.append_assoc]
  rcases lt_or_ge j e.first with hlow | hlow
  · have hold := hout j hj (.inl hlow)
    rw [List.getElem?_append_left (by simp [hm]; omega), List.getElem?_take_of_lt hlow]
    simpa only [List.getD_eq_getElem?_getD] using hold
  have hmin : (m.shadow.take e.first).length = e.first := by rw [List.length_take, hm]; omega
  rw [List.getElem?_append_right (by omega), hmin]
  rcases lt_or_ge j (e.first + n) with hin | hin
  · rw [List.getElem?_append_left (by omega), he, List.getElem?_take_of_lt (by omega), List.getElem?_drop,
      Nat.add_sub_cancel' hlow]
  · have hold := hout j hj (.inr hin)
    rw [List.getElem?_append_right (by omega), hlen, List.getElem?_drop, show e.first + n + (j - e.first - n) = j by omega]
    simpa only [List.getD_eq_getElem?_getD] using hold

/-- Settles O49: the cases are those of Table R96, each with what its STAGE leaves in the mirror. -/
theorem stagesBringTheMirrorUpToDate : Obligations.StagesBringTheMirrorUpToDate := by
  intro ch k counter a duties hduties hshadow old whole
  by_cases hw : ch.stagedWhole a
  · have hstage := Chain.stageFor_whole hw k counter duties
    refine ⟨fun _ => hstage, fun hn => absurd hw hn, fun hn => absurd hw hn, ?_⟩
    rw [hstage]
    refine ⟨rfl, rfl, rfl, rfl, by simp [hduties], by simp [hduties], ?_, fun _ => hduties⟩
    exact Mirror.takeStage_shadow_eq (n := 16) hshadow hduties (by simp [hduties]) (by simp) (by simp; omega)
  have hknown : (ch.record a).known = true := by
    by_contra hunknown
    exact hw (.inr (.inr (by simpa using hunknown)))
  by_cases hsame : old = duties
  · have hstage := Chain.stageFor_same hw k counter ((differing_eq_nil_iff hshadow hduties).2 hsame)
    refine ⟨fun h => absurd h hw, fun _ _ => hstage, fun _ hne => absurd hsame hne, ?_⟩
    rw [hstage]
    exact ⟨hknown, hsame⟩
  · obtain ⟨lo, hi, hlo, hhi, hbetween, hstage⟩ :=
      Chain.stageFor_part hw k counter (mt (differing_eq_nil_iff hshadow hduties).1 hsame)
    have hle : lo ≤ hi := (hbetween hi hhi).1
    have hout : ∀ j, j < lo ∨ hi < j → old.getD j 0 = duties.getD j 0 := fun j hj =>
      getD_eq_of_not_mem_differing hshadow hduties fun hmem => by
        have := hbetween j hmem
        omega
    obtain ⟨-, hlodiff⟩ := (mem_differing_iff _ _ _).1 hlo
    obtain ⟨hhi16, hhidiff⟩ := (mem_differing_iff _ _ _).1 hhi
    refine ⟨fun h => absurd h hw, fun _ h => absurd h hsame,
      fun _ _ => ⟨lo, hi, hle, hhi16, hlodiff, hhidiff, hout, hstage⟩, ?_⟩
    rw [hstage]
    refine ⟨rfl, rfl, rfl, rfl, ?_, ?_, ?_, fun h => absurd (hknown.symm.trans h) (by decide)⟩
    · simp [hduties]; omega
    · simp [hduties]; omega
    · exact Mirror.takeStage_shadow_eq hshadow hduties rfl (by dsimp only; omega)
        fun j _ hj => hout j (by dsimp only at hj; omega)

/-! ## DRIVER TRIM and DRIVER IDENT (R104, R111, R180) -/

theorem DirectKind.outOfRange_iff (q : DirectKind) :
    q.outOfRange = true ↔ ∃ code, q = .trim code ∧ 255 < code := by
  cases q <;> simp [DirectKind.outOfRange]

theorem State.takeDirect_refused {s : State} {c a : Nat} {q : DirectKind} {r : SysResult} (cmd : SysCommand)
    (h : s.directRefusal c a q = some r) : s.takeDirect cmd c a q = s.answer cmd r := by
  simp only [State.takeDirect, h]

/-- An accepted DIRECT command: its request waits with age 0, its response is pending, and the line is served. -/
theorem State.takeDirect_placed {s : State} {c a : Nat} {q : DirectKind} (cmd : SysCommand)
    (h : s.directRefusal c a q = none) : s.takeDirect cmd c a q = { s with
      system := { s.system with response := ⟨false, some cmd, none, .none, some c⟩ }
      chains := s.chains.set c (({ s.chain c with direct := some ⟨a, q, 0, false⟩ } : Chain).serve s.now) } := by
  simp only [State.takeDirect, h, State.serve, State.updChain_updChain]
  rw [State.updChain_eq]
  rfl

/-- The address and the code of a DIRECT command are checked first (R111). -/
theorem State.directRefusal_range {s : State} {c a : Nat} {q : DirectKind}
    (h : 7 < c ∨ 47 < a ∨ q.outOfRange = true) : s.directRefusal c a q = some .range := if_pos h

/-- The checks of a DIRECT command whose fields are in range: the chain RUNNING, the address assigned, no other DIRECT
command outstanding (R111). -/
theorem State.directRefusal_eq {s : State} {c a : Nat} {q : DirectKind}
    (h : ¬ (7 < c ∨ 47 < a ∨ q.outOfRange = true)) : s.directRefusal c a q =
      if (s.chain c).state ≠ .running then some .wrongState
      else if ((s.chain c).record a).assigned = false then some .range
      else if (s.chain c).directOutstanding = true then some .busy
      else none := if_neg h

/-- Settles O33. -/
theorem directCommandsAreChecked : Obligations.DirectCommandsAreChecked := by
  intro t c a q cmd i s hi
  have hexec : exec i s = .next ((s.arrive t).takeDirect cmd c a q) := by
    rcases hi with ⟨rfl, rfl, rfl⟩ | ⟨code, rfl, rfl, rfl⟩ <;> rfl
  have refused {r : SysResult} (h : (s.arrive t).directRefusal c a q = some r) :
      exec i s = .next (s.onlyAnswers t cmd r) := hexec.trans (congrArg _ (State.takeDirect_refused cmd h))
  refine ⟨fun hrange => refused (State.directRefusal_range ?_), fun hc ha hcode => ?_⟩
  · rwa [q.outOfRange_iff]
  have hinRange : ¬ (7 < c ∨ 47 < a ∨ q.outOfRange = true) := by
    rw [q.outOfRange_iff]
    rintro (h | h | ⟨code, hq, h⟩)
    · omega
    · omega
    · have := hcode code hq
      omega
  have hchecks := State.directRefusal_eq (s := s.arrive t) hinRange
  have hchain : (s.arrive t).chain c = s.chain c := rfl
  rw [hchain] at hchecks
  refine ⟨fun hstate => refused (by rw [hchecks, if_pos hstate]), fun hstate => ⟨fun hfree => refused ?_,
    fun hassigned => ⟨fun hwaits => refused ?_, fun hquiet => ?_⟩⟩⟩
  · rw [hchecks, if_neg (not_not.2 hstate), if_pos hfree]
  · rw [hchecks, if_neg (not_not.2 hstate), if_neg (by simp [hassigned]),
      if_pos ((Chain.directOutstanding_iff s c).2 hwaits)]
  · refine hexec.trans (congrArg _ (State.takeDirect_placed cmd ?_))
    rw [hchecks, if_neg (not_not.2 hstate), if_neg (by simp [hassigned]),
      if_neg (mt (Chain.directOutstanding_iff s c).1 hquiet)]

end Sys2Proof.Machine

namespace Sys2Proof.Machine

/-! # Enumeration attempts (chapter 6) -/

/-! ## Echoes that are accepted (R85, R92) -/

/-- A chain that is in use is one of the part's chains. -/
theorem State.lt_chains_of_used {s : State} {k : Nat} (h : (s.chain k).state ≠ .unused) : k < s.chains.length := by
  by_contra hk
  exact h (by simp [State.chain, List.getD_eq_getElem?_getD, List.getElem?_eq_none (Nat.le_of_not_lt hk), Chain.powerOn])

theorem State.chain_set_same {s : State} {k : Nat} (ch : Chain) (hk : k < s.chains.length) :
    ({ s with chains := s.chains.set k ch } : State).chain k = ch := getD_set_self _ _ _ _ hk

theorem State.chain_queueReport (s : State) (es : List ReportEntry) (k : Nat) :
    (s.queueReport es).chain k = s.chain k := by
  simp [State.chain]

/-- An engine put back in its place. -/
theorem State.set_chain_same (s : State) (k : Nat) : s.chains.set k (s.chain k) = s.chains := by
  rcases lt_or_ge k s.chains.length with hk | hk
  · simp [State.chain, List.getD_eq_getElem?_getD, hk]
  · exact List.set_eq_of_length_le hk

/-- The arbiter of a chain that is not RUNNING and has nothing to send again changes nothing (R104, R106). -/
theorem State.serve_idle {s : State} {k : Nat} (h : (s.chain k).state ≠ .running) (hr : (s.chain k).resend = none) :
    s.serve k = s := by
  rw [State.serve, State.updChain_eq, Chain.serve_idle _ _ h hr, s.set_chain_same]

/-- The part at moment `t`, the oldest frame in flight of chain `k` having left the list (R92). -/
def State.heard (s : State) (t k : Nat) (rest : List InFlight) : State :=
  { s.onlyWaits t with chains := s.chains.set k { s.chain k with inflight := rest } }

theorem State.heard_chain {s : State} {k : Nat} (hk : k < s.chains.length) (t : Nat) (rest : List InFlight) :
    (s.heard t k rest).chain k = { s.chain k with inflight := rest } := getD_set_self _ _ _ _ hk

theorem State.heard_chains_set (s : State) (t k : Nat) (rest : List InFlight) (ch : Chain) :
    (s.heard t k rest).chains.set k ch = s.chains.set k ch := List.set_set ..

/-- An echo that is accepted: its frame leaves the list, its reply takes effect, and the line is served. -/
theorem exec_echoEnd_accepted {s : State} {k : Nat} {bits : List Bool} {f : InFlight} {rest : List InFlight} {r : Reply}
    (t : Nat) (hchecks : (s.chain k).checksEchoes = true) (hflight : (s.chain k).inflight = f :: rest)
    (hr : (s.chain k).judge f bits = .accepted r) :
    exec (.echoEnd t k bits) s = .next (((s.heard t k rest).acceptReply k f.sent r).serve k) := by
  have hchain : (s.arrive t).chain k = s.chain k := rfl
  simp only [exec, execEchoEnd, State.checkEcho, State.echoAccepted, hchain, hchecks, hflight, hr, State.updChain_eq]
  rfl

/-- In an attempt an accepted CLEAR clears every record, and the ASSIGNs begin (R94, R117). -/
theorem State.acceptReply_cleared {s : State} {k : Nat} {x : Attempt} (n : Nat) (h : (s.chain k).attempt = some x) :
    s.acceptReply k .clear (.cleared n) = ({ s with
      chains := s.chains.set k { s.chain k with mirror := (s.chain k).mirror.map Mirror.cleared } } :
        State).continueAttempt k n 0 := by
  have hsome : (s.chain k).attempt.isSome = true := by rw [h]; rfl
  rw [State.acceptReply, if_pos hsome, State.acceptClear, State.updChain_eq]

/-- An accepted ASSIGN that was taken assigns its record and leads to the next; one not taken fails the attempt (R94,
R118, R119). -/
theorem State.acceptReply_taken {s : State} {k n b : Nat} (a : Nat) (g : Option Nat) (taken : Bool)
    (h : (s.chain k).attempt = some (.assigning n b)) :
    s.acceptReply k (.assign a g) (.taken taken) = if taken = true then ({ s with
      chains := s.chains.set k ((s.chain k).updRecord a fun m => { m with assigned := true, group := g }) } :
        State).continueAttempt k n (a + 1)
      else s.failAttempt k .notTaken := by
  simp only [State.acceptReply, State.acceptAssign, h, State.updChain_eq]

/-! ## Attempts that fail (R119, R122) -/

/-- The engine of a failed attempt, from which another follows after 1 ms. -/
def Chain.attemptLost (ch : Chain) (now : Nat) (cause : Cause) : Chain :=
  { ch with inflight := [], attempt := none, resend := none, cause := some cause, wait := some (now + ms 1) }

/-- The engine of a failed attempt that was the last, its chain FAILED. -/
def Chain.attemptsExhausted (ch : Chain) (cause : Cause) : Chain :=
  { ch.unassignAll with
    state := .failed, inflight := [], attempt := none, resend := none, cause := some cause, wait := none }

theorem State.failAttempt_again {s : State} {k : Nat} (h : (s.chain k).attempts < 3) (cause : Cause) :
    s.failAttempt k cause = { s with chains := s.chains.set k ((s.chain k).attemptLost s.now cause) } := by
  simp only [State.failAttempt, if_pos h, State.updChain_updChain]
  rw [State.updChain_eq]
  rfl

theorem State.failAttempt_last {s : State} {k : Nat} (h : 3 ≤ (s.chain k).attempts) (cause : Cause) :
    s.failAttempt k cause = ({ s with
      chains := s.chains.set k ((s.chain k).attemptsExhausted cause) } : State).queueReport
        [⟨.chain k 0, .chain cause, .failed, false, false, none, s.timebase.counter⟩] := by
  simp only [State.failAttempt, if_neg (Nat.not_lt.2 h), State.enterFailed, State.updChain_updChain]
  rw [State.updChain_eq]
  rfl

/-- Once an attempt of a chain has failed, its line has nothing to send. -/
theorem State.failAttempt_serve {s : State} {k : Nat} (hk : k < s.chains.length) (hstate : (s.chain k).state ≠ .running)
    (cause : Cause) : (s.failAttempt k cause).serve k = s.failAttempt k cause := by
  rcases Nat.lt_or_ge (s.chain k).attempts 3 with h | h
  · have hchain : (s.failAttempt k cause).chain k = (s.chain k).attemptLost s.now cause := by
      rw [State.failAttempt_again h, State.chain_set_same _ hk]
    exact State.serve_idle (by rw [hchain]; exact hstate) (by rw [hchain]; rfl)
  · have hchain : (s.failAttempt k cause).chain k = (s.chain k).attemptsExhausted cause := by
      rw [State.failAttempt_last h]
      exact (State.chain_queueReport _ _ _).trans (State.chain_set_same _ hk)
    exact State.serve_idle (by rw [hchain]; exact nofun) (by rw [hchain]; rfl)

/-- An attempt that fails as the echo of its frame is accepted. -/
theorem attemptFails_heard {s : State} {k : Nat} (hk : k < s.chains.length) (hstate : (s.chain k).state ≠ .running)
    (t : Nat) (rest : List InFlight) (cause : Cause) :
    AttemptFails (s.onlyWaits t) k cause (.next (((s.heard t k rest).failAttempt k cause).serve k)) := by
  have hchain := State.heard_chain hk t rest
  rw [State.failAttempt_serve (by simpa [State.heard] using hk) (by rwa [hchain])]
  refine ⟨fun h => ?_, fun h => ?_⟩
  · rw [State.failAttempt_again (by rwa [hchain]), hchain, State.heard_chains_set]
    rfl
  · rw [State.failAttempt_last (by rwa [hchain]), hchain, State.heard_chains_set]
    rfl

/-! ## The group that an ASSIGN carries (R118, Table 6-3) -/

theorem State.driverGroup_eq_some {s : State} {k a j : Nat}
    (h : driverGroup s.grid s.schedule.groups s.zones k a = some j) :
    ∃ i c, (s.zone i).channel = some ⟨k, a, c⟩ ∧ j = s.grid.zoneGroup s.schedule.groups i := by
  obtain ⟨i, hi, rfl⟩ := Option.map_eq_some_iff.1 h
  obtain ⟨hlen, hz, -⟩ := List.findIdx?_eq_some_iff_getElem.1 hi
  have hzone : s.zone i = s.zones[i] := by simp [State.zone, hlen]
  refine ⟨i, ?_⟩
  rw [hzone]
  cases hx : s.zones[i].channel with
  | none => simp [hx] at hz
  | some x =>
    obtain ⟨rfl, rfl⟩ : x.chain = k ∧ x.position = a := by simpa [hx] using hz
    exact ⟨x.channel, rfl, rfl⟩

theorem State.driverGroup_eq_none_iff (s : State) (k a : Nat) :
    driverGroup s.grid s.schedule.groups s.zones k a = none ↔ ∀ i c, (s.zone i).channel ≠ some ⟨k, a, c⟩ := by
  refine ⟨fun h i c hx => ?_, fun h => ?_⟩
  · have hall := List.findIdx?_eq_none_iff.1 (Option.map_eq_none_iff.1 h)
    have := getD_all (p := fun z : Zone => z.channel ≠ some ⟨k, a, c⟩) s.zones i Zone.fresh
      (fun z hz hc => by simpa [hc] using hall z hz) (by simp [Zone.fresh])
    exact this hx
  · cases hg : driverGroup s.grid s.schedule.groups s.zones k a with
    | none => rfl
    | some j =>
      obtain ⟨i, c, hx, -⟩ := State.driverGroup_eq_some hg
      exact absurd hx (h i c)

/-- The ASSIGN of an address below the counted drivers is sent (R117, R118). -/
theorem State.continueAttempt_assigns {s : State} {k n a : Nat} (h : a < min n 48) :
    s.continueAttempt k n a = { s with
      chains := s.chains.set k { (s.chain k).granted s.now (.assign a (s.assignGroup k a)) false with
        attempt := some (.assigning n a) } } := by
  rw [State.continueAttempt, if_pos h, State.updChain_eq]
  rfl

/-! ## Attempts that succeed (R120, R121) -/

/-- The part with the reports of `es` queued, each of its own, in turn (R142). -/
def State.queueEach (s : State) (es : List ReportEntry) : State := es.foldl (fun y e => y.queueReport [e]) s

theorem State.queueEach_nil (s : State) : s.queueEach [] = s := rfl

theorem State.queueEach_cons (s : State) (e : ReportEntry) (es : List ReportEntry) :
    s.queueEach (e :: es) = (s.queueReport [e]).queueEach es := rfl

theorem State.queueEach_append (s : State) (es fs : List ReportEntry) :
    s.queueEach (es ++ fs) = (s.queueEach es).queueEach fs := List.foldl_append

/-- The part with other zone records and engines. -/
def State.withRecords (s : State) (zs : List Zone) (cs : List Chain) : State := { s with zones := zs, chains := cs }

/-- A report reads neither zones nor engines, and writes neither. -/
theorem State.queueReport_withRecords (s : State) (zs : List Zone) (cs : List Chain) (es : List ReportEntry) :
    (s.withRecords zs cs).queueReport es = (s.queueReport es).withRecords zs cs := by
  unfold State.queueReport State.withRecords
  split <;> rfl

theorem State.queueEach_withRecords (zs : List Zone) (cs : List Chain) (es : List ReportEntry) : ∀ s : State,
    (s.withRecords zs cs).queueEach es = (s.queueEach es).withRecords zs cs := by
  induction es with
  | nil => exact fun _ => rfl
  | cons e es ih => intro s; rw [s.queueEach_cons, ← ih, ← s.queueReport_withRecords, State.queueEach_cons]

theorem State.queueEach_frame (es : List ReportEntry) : ∀ s : State,
    (s.queueEach es).zones = s.zones ∧ (s.queueEach es).chains = s.chains ∧ (s.queueEach es).timebase = s.timebase := by
  induction es with
  | nil => exact fun _ => ⟨rfl, rfl, rfl⟩
  | cons e es ih => intro s; simpa [State.queueEach_cons] using ih (s.queueReport [e])

theorem State.chain_queueEach (s : State) (es : List ReportEntry) (k : Nat) : (s.queueEach es).chain k = s.chain k := by
  obtain ⟨-, hchains, -⟩ := State.queueEach_frame es s
  rw [State.chain, hchains, State.chain]

/-- The report of a success that compares the counted drivers with the configured ones (R120). -/
def State.countReports (s : State) (k n : Nat) : List ReportEntry :=
  if n < (s.chain k).drivers then [⟨.chain k ((s.chain k).drivers - n), .missingDrivers, .active, false, false, none,
    s.timebase.counter⟩]
  else if (s.chain k).drivers < n then [⟨.chain k (n - (s.chain k).drivers), .unmappedDrivers, .active, false, false,
    none, s.timebase.counter⟩]
  else []

/-- The report of a success after a recovery or a RESTART CHAIN (R121). -/
def State.restoredReports (s : State) (k : Nat) : List ReportEntry :=
  if (s.chain k).announce = true then [⟨.chain k 0, .chainRestored, .recovered, false, false, none, s.timebase.counter⟩]
  else []

theorem setMissing_of_le {n d : Nat} (h : d ≤ n) (k : Nat) (z : Zone) : setMissing k n d z = z := by
  unfold setMissing
  split
  · exact if_neg (by omega)
  · rfl

theorem State.compareDrivers_eq (s : State) (k n : Nat) :
    s.compareDrivers k n =
      (s.withRecords (s.zones.map (setMissing k n (s.chain k).drivers)) s.chains).queueEach (s.countReports k n) := by
  by_cases hn : n < (s.chain k).drivers
  · simp only [State.compareDrivers, State.countReports, if_pos hn]
    rfl
  · have hzones : s.zones.map (setMissing k n (s.chain k).drivers) = s.zones :=
      List.map_id'' (setMissing_of_le (Nat.not_lt.1 hn) k) _
    rw [hzones]
    by_cases hd : (s.chain k).drivers < n
    · simp only [State.compareDrivers, State.countReports, if_neg hn, if_pos hd]
      rfl
    · simp only [State.compareDrivers, State.countReports, if_neg hn, if_neg hd]
      rfl

/-- A zone of a chain that enters RUNNING (R120, logs 30 and 34). -/
theorem relight_setMissing (k n d : Nat) (z : Zone) :
    relight k (setMissing k n d z) =
      if ∃ c, z.channel = some c ∧ c.chain = k then
        { z with
          fault := if ∃ c, z.channel = some c ∧ n ≤ c.position ∧ c.position < d then .missing else z.fault
          relit := true }
      else z := by
  cases hc : z.channel with
  | none => simp [relight, setMissing, hc]
  | some x =>
    by_cases hx : x.chain = k
    · by_cases hp : n ≤ x.position ∧ x.position < d <;> simp [relight, setMissing, hc, hx, hp]
    · simp [relight, setMissing, hc, hx]

/-- The part as chain `k` enters RUNNING with `n` counted drivers, its zones to ease from 0 and those beyond the counted
drivers MISSING. -/
def State.entered (s : State) (k n : Nat) : State :=
  s.withRecords (s.zones.map fun z => relight k (setMissing k n (s.chain k).drivers z))
    (s.chains.set k ((s.chain k).enterRunning s.now s.system.pollInterval n))

theorem State.entered_chain {s : State} {k : Nat} (hk : k < s.chains.length) (n : Nat) :
    (s.entered k n).chain k = (s.chain k).enterRunning s.now s.system.pollInterval n := getD_set_self _ _ _ _ hk

theorem State.entered_others (s : State) (k n : Nat) : Others k s (s.entered k n) :=
  ⟨List.length_set, fun _ hj => getD_set_ne _ _ _ _ _ hj.symm⟩

/-- The zones of a chain that enters RUNNING (R120, logs 30 and 34). -/
theorem State.entered_zones (s : State) (k n : Nat) : (s.entered k n).zones = s.zones.map fun z =>
    if ∃ c, z.channel = some c ∧ c.chain = k then
      { z with
        fault := if ∃ c, z.channel = some c ∧ n ≤ c.position ∧ c.position < (s.chain k).drivers then .missing else z.fault
        relit := true }
    else z := List.map_congr_left fun z _ => relight_setMissing k n _ z

/-- A chain entered after a comparison of its drivers: the reports may as well come last. -/
theorem State.compareDrivers_entered (s : State) (k n : Nat) :
    ({ (s.compareDrivers k n).updChain k fun ch => ch.enterRunning s.now s.system.pollInterval n with
      zones := ((s.compareDrivers k n).updChain k fun ch =>
        ch.enterRunning s.now s.system.pollInterval n).zones.map (relight k) } : State) =
      (s.entered k n).queueEach (s.countReports k n) := by
  obtain ⟨hzones, hchains, -⟩ := State.queueEach_frame (s.countReports k n)
    (s.withRecords (s.zones.map (setMissing k n (s.chain k).drivers)) s.chains)
  rw [← State.compareDrivers_eq] at hzones hchains
  calc
    _ = (s.compareDrivers k n).withRecords ((s.compareDrivers k n).zones.map (relight k))
        ((s.compareDrivers k n).chains.modify k fun ch => ch.enterRunning s.now s.system.pollInterval n) := rfl
    _ = (s.compareDrivers k n).withRecords (s.zones.map fun z => relight k (setMissing k n (s.chain k).drivers z))
        (s.chains.set k ((s.chain k).enterRunning s.now s.system.pollInterval n)) := by
      rw [hzones, hchains, modify_eq_set _ _ _ Chain.powerOn]
      exact congrArg (State.withRecords _ · _) (List.map_map ..)
    _ = (s.entered k n).queueEach (s.countReports k n) := by
      rw [State.compareDrivers_eq, ← State.queueEach_withRecords]
      rfl

/-- An attempt that succeeds enters RUNNING and queues the reports of the success in turn. -/
theorem State.succeed_eq (s : State) (k n : Nat) :
    s.succeed k n = (s.entered k n).queueEach (s.countReports k n ++ s.restoredReports k) := by
  rw [State.queueEach_append, ← State.compareDrivers_entered]
  by_cases ha : (s.chain k).announce = true
  · have htimebase : (s.compareDrivers k n).timebase = s.timebase := by simp
    simp only [State.succeed, State.restoredReports, if_pos ha, State.chainReport, State.queueEach_cons,
      State.queueEach_nil, State.entry, State.updChain_timebase, htimebase]
  · simp only [State.succeed, State.restoredReports, if_neg ha, State.queueEach_nil]

/-- Once the last address is dealt with the attempt succeeds (R120). -/
theorem State.continueAttempt_succeeds {s : State} {k n a : Nat} (h : min n 48 ≤ a) :
    s.continueAttempt k n a = (s.entered k n).queueEach (s.countReports k n ++ s.restoredReports k) := by
  rw [State.continueAttempt, if_neg (Nat.not_lt.2 h), State.succeed_eq]

/-- The group of an ASSIGN is that of a zone mapped to its driver; a driver beyond the configured ones or with no zone
takes none (R118). -/
theorem State.assignGroup_cases (s : State) (k a : Nat) :
    (∀ j, a < (s.chain k).drivers → s.assignGroup k a = some j → ∃ i c, (s.zone i).channel = some ⟨k, a, c⟩ ∧
      j = s.grid.zoneGroup s.schedule.groups i) ∧
    (s.assignGroup k a = none ↔ (s.chain k).drivers ≤ a ∨ ∀ i c, (s.zone i).channel ≠ some ⟨k, a, c⟩) := by
  by_cases ha : a < (s.chain k).drivers
  · rw [State.assignGroup, if_pos ha, State.driverGroup_eq_none_iff]
    exact ⟨fun j _ hj => State.driverGroup_eq_some hj, (or_iff_right (Nat.not_le.2 ha)).symm⟩
  · rw [State.assignGroup, if_neg ha]
    exact ⟨fun j h => absurd h ha, iff_of_true rfl (.inl (Nat.not_lt.1 ha))⟩

/-- Settles O57. -/
theorem attemptsAssignInOrder : Obligations.AttemptsAssignInOrder := by
  intro t k bits f s ch s1 hstate hflight
  have hrunning : ch.state ≠ .running := by rcases hstate with h | h <;> simp [h]
  have hk : k < s.chains.length := State.lt_chains_of_used (by rcases hstate with h | h <;> simp [ch, h])
  have checks {x : Attempt} (h : ch.attempt = some x) : ch.checksEchoes = true := by simp [Chain.checksEchoes, h]
  have hchain := State.heard_chain hk t []
  refine ⟨fun n hattempt hsent hjudge => ?_, fun n a g taken hattempt hsent hjudge => ?_, fun x n a hused => ⟨?_, ?_⟩⟩
  · rw [exec_echoEnd_accepted t (checks hattempt) hflight hjudge, hsent,
      State.acceptReply_cleared n (by rw [hchain]; exact hattempt), hchain, State.heard_chains_set]
    rfl
  · rw [exec_echoEnd_accepted t (checks hattempt) hflight hjudge, hsent,
      State.acceptReply_taken a g taken (by rw [hchain]; exact hattempt)]
    refine ⟨?_, ?_⟩
    · rintro rfl
      rw [if_pos rfl, hchain, State.heard_chains_set]
      rfl
    · rintro rfl
      rw [if_neg Bool.false_ne_true]
      exact attemptFails_heard hk hrunning t [] .notTaken
  · intro hn h48
    obtain ⟨hgroup, hnone⟩ := x.assignGroup_cases k a
    exact ⟨x.assignGroup k a, State.continueAttempt_assigns (by omega), hgroup, hnone⟩
  · rintro hlast u rfl
    rw [State.continueAttempt_succeeds hlast]
    obtain ⟨hzones, hchains, -⟩ := State.queueEach_frame (x.countReports k n ++ x.restoredReports k) (x.entered k n)
    obtain ⟨hlength, hothers⟩ := x.entered_others k n
    rw [State.blankAsserted, State.chain_queueEach, State.entered_chain (State.lt_chains_of_used hused)]
    refine ⟨rfl, rfl, rfl, rfl, rfl, rfl, rfl, rfl, rfl, ?_, ⟨?_, fun j hj => ?_⟩, ?_, ?_⟩
    · simp [blankLine, Chain.enterRunning]
    · rw [hchains, hlength]
    · rw [State.chain_queueEach, hothers j hj]
    · rw [hzones, State.entered_zones]
    · rintro reports rfl
      rw [State.entered, State.queueEach_withRecords]
      exact ⟨rfl, rfl⟩

end Sys2Proof.Machine

namespace Sys2Proof.Machine

/-! # Restarts, chain timers and blank claims (chapters 5 and 6) -/

/-! ## BLANK(on) and BLANK(off) (R126 to R128) -/

/-- Claims move at the BLANK command of a port whose own claim was `was`: BLANK(off) of a claim that was set clears the
latched marks. -/
theorem State.moveClaims_blank (s : State) (x : Claims) (was on : Bool) :
    s.moveClaims x (was && !on) = { s with
      claims := x
      chains := if was = true ∧ on = false then s.chains.map fun ch => { ch with latched := false } else s.chains } := by
  simp [State.moveClaims]

theorem State.blankAsserted_of_claim {s : State} (h : s.claims.any = true) (k : Nat) : s.blankAsserted k = true := by
  simp [State.blankAsserted, blankLine, h]

/-- Settles O34. -/
theorem blankClaimsMoveTheLines : Obligations.BlankClaimsMoveTheLines := by
  intro t on s
  refine ⟨?_, ?_, ?_, fun h => State.blankAsserted_of_claim (s.claims.any_iff.2 h)⟩
  · simp only [exec, execSystemBlank, State.moveClaims_blank]
    rfl
  · simp only [exec, execPictureBlank, State.moveClaims_blank, State.pictureResult_done]
    rfl
  · simp only [exec, execPanelBlank, State.moveClaims_blank]
    rfl

/-! ## RESTART CHAIN (R124, R131) -/

/-- RESTART CHAIN answers in the response buffer itself, so that what a DIRECT command was to answer there is lost
(R180). -/
theorem State.answer_dropDirect (s : State) (c : Nat) (f : Chain → Chain) (cmd : SysCommand) (r : SysResult) :
    ((s.dropDirect c).updChain c f).answer cmd r = (s.updChain c f).answer cmd r := by
  unfold State.dropDirect State.fixDirect
  split
  · split <;> rfl
  · rfl

/-- Settles O31. -/
theorem restartChainEnumeratesAfresh : Obligations.RestartChainEnumeratesAfresh := by
  intro t k s
  have hchain : (s.arrive t).chain k = s.chain k := rfl
  refine ⟨fun hk => ?_, fun hk hrefused => ?_, fun hk hpart hused => ?_⟩
  · simp only [exec, execRestartChain, if_pos hk]
    rfl
  · have hk : ¬ 7 < k := Nat.not_lt.2 hk
    simp only [exec, execRestartChain, if_neg hk, hchain, State.arrive_system]
    rcases hrefused with hpart | hunused
    · rw [if_pos hpart]
      rfl
    · rw [if_pos hunused, ite_self]
      rfl
  · refine ⟨(s.chain k).leftFrame || decide ((s.chain k).state = .running), ?_, by simp⟩
    have hk : ¬ 7 < k := Nat.not_lt.2 hk
    simp only [exec, execRestartChain, if_neg hk, hchain, State.arrive_system, if_neg hpart, if_neg hused]
    rw [State.answer_dropDirect, State.updChain_eq]
    rfl

/-! ## The wait before an attempt (R117) -/

/-- The zones that were MISSING on a chain lose that fault (R9, R117). -/
theorem clearMissing_eq (k : Nat) (z : Zone) :
    clearMissing k z =
      if z.fault = .missing ∧ (∃ x, z.channel = some x ∧ x.chain = k) then { z with fault := .none } else z := by
  unfold clearMissing
  cases hz : z.channel with
  | none => simp
  | some x => simp [and_comm]

theorem execAttemptBegin_idle {s : State} {k : Nat} (h : (s.chain k).wait = none) :
    execAttemptBegin k s = .next s := by
  simp only [execAttemptBegin, h]

theorem execAttemptBegin_due {s : State} {k w : Nat} (h : (s.chain k).wait = some w) :
    execAttemptBegin k s = .next { s with
      now := max s.now w
      zones := s.zones.map (clearMissing k)
      chains := s.chains.set k ((s.chain k).beginAttempt (max s.now w)) } := by
  simp only [execAttemptBegin, h, State.updChain_eq]
  rfl

/-! ## The running timer (R122) -/

theorem execRunningTimerExpiry_idle {s : State} {k : Nat} (h : (s.chain k).runDue = none) :
    execRunningTimerExpiry k s = .next s := by
  simp only [execRunningTimerExpiry, h]

theorem execRunningTimerExpiry_due {s : State} {k w : Nat} (h : (s.chain k).runDue = some w) :
    execRunningTimerExpiry k s = .next { s with
      now := max s.now w
      chains := s.chains.set k { s.chain k with attempts := 0, runDue := none } } := by
  simp only [execRunningTimerExpiry, h, State.updChain_eq]
  rfl

/-! ## The tick timer (R108, R120) -/

theorem execPollTick_idle {s : State} {k : Nat} (h : (s.chain k).pollDue = none) :
    execPollTick k s = .next s := by
  simp only [execPollTick, h]

theorem execPollTick_due {s : State} {k w : Nat} (h : (s.chain k).pollDue = some w) :
    execPollTick k s = .next { s with
      now := max s.now w
      chains := s.chains.set k (({ (s.chain k).pollTick with
        pollDue := some (w + us s.system.pollInterval) } : Chain).serve (max s.now w)) } := by
  simp only [execPollTick, h, State.serve, State.updChain_updChain]
  rw [State.updChain_eq]
  rfl

/-- A tick places nothing while a POLL waits or no address is assigned. -/
theorem Chain.pollTick_skips {ch : Chain} (h : ch.poll ≠ none ∨ ∀ m ∈ ch.mirror, m.assigned = false) :
    ch.pollTick = ch := by
  unfold Chain.pollTick
  rcases h with hpoll | hfree
  · rw [if_pos (Option.isSome_iff_ne_none.2 hpoll)]
  · have hnone : ch.mirror.any Mirror.assigned = false := by simpa using hfree
    rw [hnone, if_neg Bool.false_ne_true, ite_self]

/-- A tick places a POLL to the address of the pointer, which moves on. -/
theorem Chain.pollTick_places {ch : Chain} (hpoll : ch.poll = none) (h : ∃ m ∈ ch.mirror, m.assigned = true) :
    ch.pollTick = { ch with
      poll := some ⟨ch.pollPointer, 0, false⟩, pollPointer := ch.nextPoll ch.pollPointer } := by
  simp only [Chain.pollTick, hpoll, Option.isSome_none, Bool.false_eq_true, if_false, if_pos (List.any_eq_true.2 h)]

/-- The pointer moves to the next assigned address above it, or, where there is none, to 0. -/
theorem Chain.nextPoll_cases (ch : Chain) (p : Nat) :
    (ch.nextPoll p < 48 ∧ p < ch.nextPoll p ∧ (ch.record (ch.nextPoll p)).assigned = true ∧
      ∀ a, p < a → a < ch.nextPoll p → (ch.record a).assigned = false) ∨
    (ch.nextPoll p = 0 ∧ ∀ a, a < 48 → p < a → (ch.record a).assigned = false) := by
  unfold Chain.nextPoll
  cases hfind : (List.range 48).find? fun a => decide (p < a) && (ch.record a).assigned with
  | none =>
    refine .inr ⟨rfl, fun a ha hp => ?_⟩
    simpa [hp] using List.find?_eq_none.1 hfind a (List.mem_range.2 ha)
  | some q =>
    obtain ⟨hq, hmem, hbefore⟩ := List.find?_range_eq_some.1 hfind
    obtain ⟨hp, hassigned⟩ : p < q ∧ (ch.record q).assigned = true := by simpa using hq
    refine .inl ⟨List.mem_range.1 hmem, hp, hassigned, fun a hpa haq => ?_⟩
    simpa [hpa] using hbefore a haq

/-- Settles O32. -/
theorem chainTimersAct : Obligations.ChainTimersAct := by
  intro k w s
  refine ⟨execAttemptBegin_idle, fun h => ?_, execRunningTimerExpiry_idle, execRunningTimerExpiry_due,
    execPollTick_idle, fun h hskip => ?_, fun h hpoll hassigned => ?_⟩
  · refine (execAttemptBegin_due h).trans ?_
    rw [funext (clearMissing_eq k)]
    rfl
  · exact (execPollTick_due h).trans (by rw [Chain.pollTick_skips hskip])
  · refine ⟨(s.chain k).nextPoll (s.chain k).pollPointer,
      (execPollTick_due h).trans (by rw [Chain.pollTick_places hpoll hassigned]), ?_, ?_⟩
    · rintro ⟨a, ha, hpa, hrecord⟩
      rcases (s.chain k).nextPoll_cases (s.chain k).pollPointer with hnext | ⟨-, hnone⟩
      · exact hnext
      · simp [hnone a ha hpa] at hrecord
    · intro hnone
      rcases (s.chain k).nextPoll_cases (s.chain k).pollPointer with ⟨hlt, hpa, hrecord, -⟩ | ⟨hzero, -⟩
      · simp [hnone _ hlt hpa] at hrecord
      · exact hzero

end Sys2Proof.Machine

namespace Sys2Proof.Machine

/-! # What releases a BLANK line (R127)

A BLANK line is released only where a chain comes to be RUNNING with its latched mark set, no claim being set. Of all
operations one alone sets a latched mark: the handing on of an accepted LATCH. `StaysDark s u` says of the others that
they leave the claims alone and bring no chain into that condition; `StaysBlank s u`, that no BLANK line is released. -/

/-! ## One chain engine -/

/-- The chain asks for no BLANK of its own: it is RUNNING with its latched mark set. -/
def Chain.Shines (ch : Chain) : Prop := ch.state = .running ∧ ch.latched = true

/-- What of an engine its BLANK line looks at. -/
def Chain.lamp (ch : Chain) : ChainState × Bool := (ch.state, ch.latched)

theorem Chain.Shines.of_lamp {x y : Chain} (h : y.lamp = x.lamp) (hy : y.Shines) : x.Shines := by
  obtain ⟨hstate, hlatched⟩ : y.state = x.state ∧ y.latched = x.latched := by simpa [Chain.lamp] using h
  exact ⟨hstate ▸ hy.1, hlatched ▸ hy.2⟩

/-- A BLANK line is released while no claim is set and its chain shines. -/
theorem State.blankAsserted_eq_false_iff (s : State) (k : Nat) :
    s.blankAsserted k = false ↔ s.claims.any = false ∧ (s.chain k).Shines := by
  simp only [State.blankAsserted, blankLine, Chain.Shines, Bool.or_eq_false_iff, decide_eq_false_iff_not, not_not,
    Bool.not_eq_false']
  tauto

theorem Chain.serve_lamp (ch : Chain) (now : Nat) : (ch.serve now).lamp = ch.lamp := by
  rcases ch.serve_cases now with h | ⟨x, retry, rest, -, -, h, ⟨-, hp⟩ | ⟨-, -, -, rfl⟩⟩
  · rw [h]
  · rw [h]
    rcases ch.pick_cases x retry rest hp with ⟨_, _, _, _, _, rfl⟩ | ⟨_, _, _, _, rfl⟩ | ⟨_, _, _, _, rfl⟩ |
      ⟨_, _, _, _, _, _, _, rfl⟩ <;> rfl
  · rw [h]
    rfl

theorem Chain.requeue_lamp (ch : Chain) (x : Sent) : (ch.requeue x).lamp = ch.lamp := by
  cases x <;> rfl

theorem Chain.giveUpStage_lamp (ch : Chain) (e : StageEntry) (n : Nat) : (ch.giveUpStage e n).lamp = ch.lamp := by
  unfold Chain.giveUpStage
  dsimp only
  split <;> rfl

theorem Chain.acceptStage_lamp (ch : Chain) (e : StageEntry) (n : Nat) : (ch.acceptStage e n).lamp = ch.lamp := by
  unfold Chain.acceptStage
  dsimp only
  split <;> rfl

theorem Chain.oweLatch_lamp (ch : Chain) (mask : BitVec 8) : (ch.oweLatch mask).lamp = ch.lamp := by
  unfold Chain.oweLatch
  split <;> rfl

theorem Chain.takeHandOver_lamp (ch : Chain) (k n : Nat) (late : Bool) (ho : List HandedZone) :
    (ch.takeHandOver k n late ho).lamp = ch.lamp := by
  unfold Chain.takeHandOver
  split <;> rfl

theorem Chain.pollTick_lamp (ch : Chain) : ch.pollTick.lamp = ch.lamp := by
  unfold Chain.pollTick
  split
  · rfl
  · split <;> rfl

theorem Chain.restartTick_lamp (ch : Chain) (due : Nat) : (ch.restartTick due).lamp = ch.lamp := by
  unfold Chain.restartTick
  split <;> rfl

theorem State.closeChain_lamp (s : State) (c : Nat) (ch : Chain) : (s.closeChain c ch).lamp = ch.lamp := by
  unfold State.closeChain
  induction s.unreached using List.reverseRecOn with
  | nil => exact ch.oweLatch_lamp _
  | append_singleton ks k ih =>
    rw [List.foldl_append]
    refine .trans ?_ ih
    simp only [List.foldl_cons, List.foldl_nil]
    split <;> rfl

/-- A chain halted either is UNUSED and untouched, or is STOPPED. -/
theorem Chain.Shines.of_halt {ch : Chain} {now : Nat} (h : (ch.halt now).Shines) : ch.Shines := by
  unfold Chain.halt at h
  split at h
  · exact h
  · exact absurd h.1 nofun

theorem Chain.Shines.of_startUp {ch : Chain} {now : Nat} (h : (ch.startUp now).Shines) : ch.Shines := by
  unfold Chain.startUp at h
  split at h
  · exact h
  · exact absurd h.1 nofun

/-- A chain that is RUNNING with new settings was RUNNING before (R114). -/
theorem Chain.Shines.of_configure {ch : Chain} {d w : Nat} {sensor : Option Nat}
    (h : (ch.configure d w sensor).Shines) : ch.Shines := by
  obtain ⟨hstate, hlatched⟩ := h
  refine ⟨?_, hlatched⟩
  simp only [Chain.configure, Chain.stateFor] at hstate
  split at hstate
  · exact hstate
  · split at hstate <;> cases hstate

/-! ## All chain engines -/

/-- No chain comes to shine. -/
def ChainsStayDark (xs ys : List Chain) : Prop :=
  ∀ k, (ys.getD k Chain.powerOn).Shines → (xs.getD k Chain.powerOn).Shines

theorem ChainsStayDark.of_eq {xs ys : List Chain} (h : ys = xs) : ChainsStayDark xs ys := fun _ hk => h ▸ hk

theorem ChainsStayDark.mapIdx (xs : List Chain) {f : Nat → Chain → Chain} (hf : ∀ c x, (f c x).Shines → x.Shines) :
    ChainsStayDark xs (xs.mapIdx f) := by
  intro k hk
  rcases lt_or_ge k xs.length with hlt | hge
  · simp only [List.getD_eq_getElem?_getD, List.getElem?_mapIdx, List.getElem?_eq_getElem hlt, Option.map_some,
      Option.getD_some] at hk ⊢
    exact hf k _ hk
  · simpa [List.getD_eq_getElem?_getD, List.getElem?_eq_none hge] using hk

theorem ChainsStayDark.map (xs : List Chain) {f : Chain → Chain} (hf : ∀ x, (f x).Shines → x.Shines) :
    ChainsStayDark xs (xs.map f) := by
  rw [map_eq_mapIdx]
  exact .mapIdx xs fun _ => hf

theorem getD_modify_cases {α : Type} (l : List α) (c k : Nat) (f : α → α) (d : α) :
    (l.modify c f).getD k d = l.getD k d ∨ c = k ∧ (l.modify c f).getD k d = f (l.getD k d) := by
  by_cases hc : c = k
  · subst hc
    rcases lt_or_ge c l.length with hlt | hge
    · exact .inr ⟨rfl, getD_modify_self _ _ _ _ hlt⟩
    · exact .inl (by rw [List.modify_eq_self hge])
  · exact .inl (getD_modify_ne _ _ _ _ _ hc)

/-- After a change of chain `c` the engine of a chain is as it was, or is the one changed. -/
theorem State.chain_updChain_cases (s : State) (c k : Nat) (f : Chain → Chain) :
    (s.updChain c f).chain k = s.chain k ∨ c = k ∧ (s.updChain c f).chain k = f (s.chain k) :=
  getD_modify_cases ..

theorem ChainsStayDark.modify (xs : List Chain) (c : Nat) {f : Chain → Chain} (hf : ∀ x, (f x).Shines → x.Shines) :
    ChainsStayDark xs (xs.modify c f) := by
  intro k hk
  rcases getD_modify_cases xs c k f Chain.powerOn with h | ⟨-, h⟩ <;> rw [h] at hk
  · exact hk
  · exact hf _ hk

/-! ## The whole state -/

/-- The claims stand as they were, and no chain has come to shine. -/
structure StaysDark (s u : State) : Prop where
  claims : u.claims = s.claims
  chains : ChainsStayDark s.chains u.chains

/-- Claims and engines stand as they were. -/
theorem StaysDark.same {s u : State} (h : u.claims = s.claims ∧ u.chains = s.chains) : StaysDark s u :=
  ⟨h.1, .of_eq h.2⟩

theorem StaysDark.refl (s : State) : StaysDark s s := .same ⟨rfl, rfl⟩

theorem StaysDark.trans {s t u : State} (h : StaysDark s t) (k : StaysDark t u) : StaysDark s u where
  claims := k.claims.trans h.claims
  chains c := h.chains c ∘ k.chains c

/-- `StaysDark.trans` with the later move first, so that a proof reads from the outermost operation inwards. -/
theorem StaysDark.after {s t u : State} (k : StaysDark t u) (h : StaysDark s t) : StaysDark s u := h.trans k

theorem StaysDark.foldl {α : Type} {f : State → α → State} (hf : ∀ s a, StaysDark s (f s a)) (as : List α) :
    ∀ s, StaysDark s (as.foldl f s) := by
  induction as with
  | nil => exact StaysDark.refl
  | cons a as ih => exact fun s => (hf s a).trans (ih _)

/-- No BLANK line has been released. -/
def StaysBlank (s u : State) : Prop := ∀ k, s.blankAsserted k = true → u.blankAsserted k = true

theorem StaysBlank.of_released {s u : State} (h : ∀ k, u.blankAsserted k = false → s.blankAsserted k = false) :
    StaysBlank s u := by
  intro k hs
  by_contra hu
  simp [h k (by simpa using hu)] at hs

theorem StaysDark.staysBlank {s u : State} (h : StaysDark s u) : StaysBlank s u := by
  refine .of_released fun k hu => ?_
  obtain ⟨hclaims, hshines⟩ := (u.blankAsserted_eq_false_iff k).1 hu
  exact (s.blankAsserted_eq_false_iff k).2 ⟨h.claims ▸ hclaims, h.chains k hshines⟩

/-! ## Operations that write neither engine nor claim -/

theorem State.arrive_staysDark (s : State) (t : Nat) : StaysDark s (s.arrive t) :=
  .same (by simp)

theorem State.fixDirect_staysDark (s : State) (c : Nat) (r : SysResult) (d : ResponseData) :
    StaysDark s (s.fixDirect c r d) :=
  .same (by simp)

theorem State.dropDirect_staysDark (s : State) (c : Nat) : StaysDark s (s.dropDirect c) :=
  .same (by simp)

theorem State.queueReport_staysDark (s : State) (es : List ReportEntry) : StaysDark s (s.queueReport es) :=
  .same (by simp)

theorem State.queueSnapReport_staysDark (s : State) (c p : Nat) (x : Option (Option SnapTag)) (es : List ReportEntry) :
    StaysDark s (s.queueSnapReport c p x es).1 :=
  .same (by simp)

theorem State.chainReport_staysDark (s : State) (c n : Nat) (e : ReportEvent) (r : RecoveryState) :
    StaysDark s (s.chainReport c n e r) :=
  .same (by simp)

/-! ## Operations on engines -/

theorem State.updChain_staysDark (s : State) (c : Nat) {f : Chain → Chain} (hf : ∀ x, (f x).Shines → x.Shines) :
    StaysDark s (s.updChain c f) where
  claims := by simp
  chains := .modify _ _ hf

theorem State.mapChains_staysDark (s : State) {f : Chain → Chain} (hf : ∀ x, (f x).Shines → x.Shines) :
    StaysDark s (s.mapChains f) where
  claims := by simp
  chains := .map _ hf

/-- A change of one engine that leaves its state and latched mark alone. -/
theorem State.updChain_staysDark_of_lamp (s : State) (c : Nat) {f : Chain → Chain} (hf : ∀ x, (f x).lamp = x.lamp) :
    StaysDark s (s.updChain c f) := s.updChain_staysDark c fun x => .of_lamp (hf x)

theorem State.serve_staysDark (s : State) (c : Nat) : StaysDark s (s.serve c) :=
  s.updChain_staysDark_of_lamp c fun x => x.serve_lamp _

theorem State.serveAll_staysDark (s : State) : StaysDark s s.serveAll :=
  s.mapChains_staysDark fun x => .of_lamp (x.serve_lamp _)

/-- A chain sent out of service. -/
theorem State.updChain_staysDark_of_leaves (s : State) (c : Nat) {f : Chain → Chain}
    (hf : ∀ x, (f x).state ≠ .running) : StaysDark s (s.updChain c f) :=
  s.updChain_staysDark c fun x h => absurd h.1 (hf x)

theorem State.enterFailed_staysDark (s : State) (c : Nat) (x : Cause) : StaysDark s (s.enterFailed c x) :=
  .after (State.chainReport_staysDark _ _ _ _ _) (s.updChain_staysDark_of_leaves c fun _ => nofun)

theorem State.recover_staysDark (s : State) (c : Nat) (x : Cause) : StaysDark s (s.recover c x) := by
  have hleave : StaysDark s ((s.dropDirect c).updChain c fun ch => ch.enterRecovering x) :=
    .after (State.updChain_staysDark_of_leaves _ c fun _ => nofun) (s.dropDirect_staysDark c)
  unfold State.recover
  dsimp only
  split
  · exact .after (State.chainReport_staysDark _ _ _ _ _)
      (.after (State.updChain_staysDark_of_lamp _ c fun _ => rfl) hleave)
  · exact .after (State.enterFailed_staysDark _ c x) hleave

theorem State.failAttempt_staysDark (s : State) (c : Nat) (x : Cause) : StaysDark s (s.failAttempt c x) := by
  unfold State.failAttempt
  dsimp only
  split
  · exact .after (State.updChain_staysDark_of_lamp _ c fun _ => rfl) (s.updChain_staysDark_of_lamp c fun _ => rfl)
  · exact .after (State.enterFailed_staysDark _ c x) (s.updChain_staysDark_of_lamp c fun _ => rfl)

theorem State.linkFailure_staysDark (s : State) (c : Nat) (x : Cause) : StaysDark s (s.linkFailure c x) := by
  unfold State.linkFailure
  split
  · exact s.recover_staysDark c x
  · split
    · exact s.failAttempt_staysDark c x
    · exact .refl s

/-! ## Attempts (R117 to R120) -/

theorem State.compareDrivers_staysDark (s : State) (c n : Nat) : StaysDark s (s.compareDrivers c n) where
  claims := by simp
  chains := by
    unfold State.compareDrivers
    dsimp only
    split
    · exact .of_eq (by simp)
    · split <;> exact .of_eq (by simp)

/-- A chain enters RUNNING with its latched mark clear (R120). -/
theorem State.succeed_staysDark (s : State) (c n : Nat) : StaysDark s (s.succeed c n) := by
  have henter : StaysDark s ((s.compareDrivers c n).updChain c fun ch =>
      ch.enterRunning s.now s.system.pollInterval n) :=
    .after (State.updChain_staysDark _ c fun _ h => absurd h.2 nofun) (s.compareDrivers_staysDark c n)
  unfold State.succeed
  dsimp only
  split <;> exact .after (.same (by simp)) henter

theorem State.continueAttempt_staysDark (s : State) (c n a : Nat) : StaysDark s (s.continueAttempt c n a) := by
  unfold State.continueAttempt
  split
  · exact s.updChain_staysDark_of_lamp c fun _ => rfl
  · exact s.succeed_staysDark c n

/-! ## The fault monitor (R132 to R140) -/

theorem State.compareHot_staysDark (s : State) (c p : Nat) (b : Bool) : StaysDark s (s.compareHot c p b) := by
  unfold State.compareHot
  split
  · exact .refl s
  · exact .after (State.queueReport_staysDark _ _) (s.updChain_staysDark_of_lamp c fun _ => rfl)

theorem State.compareSupply_staysDark (s : State) (c p : Nat) (b : Bool) : StaysDark s (s.compareSupply c p b) := by
  unfold State.compareSupply
  split
  · exact .refl s
  · exact .after (State.queueReport_staysDark _ _) (s.updChain_staysDark_of_lamp c fun _ => rfl)

theorem State.statusCheck_staysDark (s : State) (c p : Nat) : StaysDark s (s.statusCheck c p) :=
  .after (State.queueSnapReport_staysDark _ c p _ _) (s.updChain_staysDark_of_lamp c fun _ => rfl)

theorem State.interpret_staysDark (s : State) (c p : Nat) (r : PollReply) : StaysDark s (s.interpret c p r) := by
  have hmarks : StaysDark s
      ({ s with zones := setFaults s.zones (confirmedBy s.zones c p ((s.chain c).record p) r) }.updChain c
        fun ch => ch.updRecord p (examineRecord s.zones c p r)) :=
    .after (State.updChain_staysDark_of_lamp _ c fun _ => rfl) (.same (by simp))
  exact .after (State.compareSupply_staysDark _ c p _) (.after (State.compareHot_staysDark _ c p _)
    (.after (.same (by simp)) hmarks))

theorem State.takeReply_staysDark (s : State) (c p : Nat) (r : PollReply) : StaysDark s (s.takeReply c p r) := by
  unfold State.takeReply
  dsimp only
  split
  · exact .after (State.interpret_staysDark _ c p r) (s.updChain_staysDark_of_lamp c fun _ => rfl)
  · exact .after (State.statusCheck_staysDark _ c p) (s.updChain_staysDark_of_lamp c fun _ => rfl)

/-! ## Echoes (R85 to R94) -/

theorem State.giveUp_staysDark (s : State) (c : Nat) (x : Sent) : StaysDark s (s.giveUp c x) := by
  cases x with
  | stage e => exact s.updChain_staysDark_of_lamp c fun ch => ch.giveUpStage_lamp e _
  | latch m => exact s.updChain_staysDark_of_lamp c fun _ => rfl
  | poll a => exact s.updChain_staysDark_of_lamp c fun _ => rfl
  | direct a k => exact .after (State.updChain_staysDark_of_lamp _ c fun _ => rfl) (s.fixDirect_staysDark c _ _)
  | assign a g => exact s.failAttempt_staysDark c _
  | clear => exact s.failAttempt_staysDark c _

theorem State.echoDamaged_staysDark (s : State) (c : Nat) (f : InFlight) : StaysDark s (s.echoDamaged c f) := by
  unfold State.echoDamaged
  dsimp only
  split
  · exact .after (State.giveUp_staysDark _ c _) (s.updChain_staysDark_of_lamp c fun _ => rfl)
  · exact .after (State.updChain_staysDark_of_lamp _ c fun ch => ch.requeue_lamp _)
      (s.updChain_staysDark_of_lamp c fun _ => rfl)

theorem State.acceptClear_staysDark (s : State) (c n : Nat) : StaysDark s (s.acceptClear c n) :=
  .after (State.continueAttempt_staysDark _ c n 0) (s.updChain_staysDark_of_lamp c fun _ => rfl)

theorem State.acceptAssign_staysDark (s : State) (c a : Nat) (g : Option Nat) (b : Bool) :
    StaysDark s (s.acceptAssign c a g b) := by
  unfold State.acceptAssign
  split
  · split
    · exact .after (State.continueAttempt_staysDark _ c _ _) (s.updChain_staysDark_of_lamp c fun _ => rfl)
    · exact s.failAttempt_staysDark c _
  · exact .refl s

/-- The latched mark that an accepted LATCH sets (R127). -/
def Chain.takeLatched (ch : Chain) : Chain := { ch with latched := ch.latched || decide (ch.state = .running) }

/-- But for the latched mark an accepted LATCH brings no chain to shine. -/
theorem State.acceptLatch_staysDark (s : State) (c : Nat) (m : BitVec 8) (n : Nat) :
    StaysDark (s.updChain c Chain.takeLatched) (s.acceptLatch c m n) := by
  unfold State.acceptLatch
  dsimp only
  split
  · exact .after (State.chainReport_staysDark _ _ _ _ _) (State.updChain_staysDark_of_lamp _ c fun _ => rfl)
  · exact .refl _

/-- An accepted LATCH brings no chain to shine but its own, and that one only where it is RUNNING. -/
theorem State.acceptLatch_shines {s : State} {c k n : Nat} {m : BitVec 8}
    (h : ((s.acceptLatch c m n).chain k).Shines) :
    (s.chain k).Shines ∨ c = k ∧ (s.chain c).state = .running := by
  have hmarked : ((s.updChain c Chain.takeLatched).chain k).Shines := (s.acceptLatch_staysDark c m n).chains k h
  rcases s.chain_updChain_cases c k Chain.takeLatched with hsame | ⟨rfl, htaken⟩
  · exact .inl (hsame ▸ hmarked)
  · have hshines : (s.chain c).takeLatched.Shines := htaken ▸ hmarked
    exact .inr ⟨rfl, hshines.1⟩

/-- An accepted echo of any other kind brings no chain to shine. -/
theorem State.acceptReply_staysDark (s : State) (c : Nat) (x : Sent) (r : Reply) :
    StaysDark s (s.acceptReply c x r) ∨
      ∃ m n, x = .latch m ∧ r = .latches n ∧ s.acceptReply c x r = s.acceptLatch c m n := by
  unfold State.acceptReply
  split
  · exact .inl (s.updChain_staysDark_of_lamp c fun ch => ch.acceptStage_lamp _ _)
  · exact .inr ⟨_, _, rfl, rfl, rfl⟩
  · exact .inl (s.takeReply_staysDark c _ _)
  · exact .inl (s.acceptAssign_staysDark c _ _ _)
  · exact .inl (.after (State.fixDirect_staysDark _ c _ _) (s.updChain_staysDark_of_lamp c fun _ => rfl))
  · exact .inl (.same (by simp))
  · split
    · exact .inl (s.acceptClear_staysDark c _)
    · exact .inl (.refl s)
  · exact .inl (.refl s)

/-- The bits are the accepted echo of a LATCH, the oldest frame in flight of a RUNNING chain. -/
def Chain.LatchHeard (ch : Chain) (bits : List Bool) : Prop :=
  ∃ f rest mask count, ch.state = .running ∧ ch.inflight = f :: rest ∧ f.sent = .latch mask ∧
    ch.judge f bits = .accepted (.latches count)

/-- The one way in which the check of an echo brings a chain to shine. -/
theorem State.checkEcho_shines {s : State} {c k : Nat} {bits : List Bool} (h : ((s.checkEcho c bits).chain k).Shines) :
    (s.chain k).Shines ∨ c = k ∧ (s.chain c).LatchHeard bits := by
  unfold State.checkEcho at h
  split at h
  · exact .inl ((s.linkFailure_staysDark c _).chains k h)
  next f rest hflight =>
    split at h
    · exact .inl ((s.echoDamaged_staysDark c f).chains k h)
    · exact .inl ((s.linkFailure_staysDark c _).chains k h)
    next r hjudge =>
      have htaken : StaysDark s (s.updChain c fun ch => { ch with inflight := ch.inflight.drop 1 }) :=
        s.updChain_staysDark_of_lamp c fun _ => rfl
      rcases State.acceptReply_staysDark _ c f.sent r with hdark | ⟨m, n, hsent, rfl, heq⟩
      · exact .inl ((htaken.trans hdark).chains k h)
      · rw [State.echoAccepted, heq] at h
        refine (State.acceptLatch_shines h).imp (htaken.chains k) fun ⟨hc, hstate⟩ => ⟨hc, f, rest, m, n, ?_, hflight,
          hsent, hjudge⟩
        rcases s.chain_updChain_cases c c fun ch => { ch with inflight := ch.inflight.drop 1 } with
          hsame | ⟨-, hsame⟩ <;> exact (congrArg Chain.state hsame).symm.trans hstate

/-! ## The schedule (R64 to R71) -/

theorem State.queueSection_staysDark (s : State) (b : LightSection) : StaysDark s (s.queueSection b) :=
  .same (by simp)

theorem State.commitGroup_staysDark (s : State) (k : Nat) : StaysDark s (s.commitGroup k) :=
  .after (State.queueSection_staysDark _ _)
    { claims := rfl
      chains := .mapIdx _ fun c ch => by
        split
        · exact .of_lamp rfl
        · exact id }

theorem State.commitGroups_staysDark (s : State) (ks : List Nat) : StaysDark s (s.commitGroups ks) :=
  StaysDark.foldl State.commitGroup_staysDark ks s

theorem State.latchAt_staysDark (s : State) (t : Nat) : StaysDark s (s.latchAt t) where
  claims := by simp
  chains := .mapIdx _ fun _ ch => .of_lamp (ch.oweLatch_lamp _)

theorem State.emitGroup_staysDark (s : State) (k : Nat) : StaysDark s (s.emitGroup k) where
  claims := by simp
  chains := .mapIdx _ fun _ ch => by
    split
    · exact .of_lamp (ch.takeHandOver_lamp _ _ _ _)
    · exact id

theorem State.emitZone_staysDark (s : State) (i : Nat) : StaysDark s (s.emitZone i) :=
  .same (by simp)

/-! ## Frame starts (R52) -/

theorem State.slewAll_staysDark (s : State) : StaysDark s s.slewAll := by
  unfold State.slewAll
  split
  · exact s.mapChains_staysDark fun _ => .of_lamp rfl
  · exact .refl s

theorem State.closeFrame_staysDark (s : State) : StaysDark s s.closeFrame where
  claims := by simp
  chains := .mapIdx _ fun c ch => .of_lamp (s.closeChain_lamp c ch)

theorem State.clearFrame_staysDark (s : State) : StaysDark s s.clearFrame where
  claims := by simp
  chains := .map _ fun _ => .of_lamp rfl

theorem State.endPeriod_staysDark (s : State) (c : Nat) : StaysDark s (s.endPeriod c) := by
  unfold State.endPeriod
  dsimp only
  split
  · exact s.updChain_staysDark_of_lamp c fun _ => rfl
  · split
    · exact s.recover_staysDark c _
    · exact s.updChain_staysDark_of_lamp c fun _ => rfl

theorem State.beginPass_staysDark (s : State) : StaysDark s s.beginPass :=
  .after (State.commitGroups_staysDark _ _) (.same (by simp))

theorem State.maybePass_staysDark (s : State) : StaysDark s s.maybePass := by
  unfold State.maybePass
  split
  · exact s.beginPass_staysDark
  · exact .refl s

theorem State.deliverFrame_staysDark (s : State) : StaysDark s s.deliverFrame := by
  have hclosed : StaysDark s s.slewAll.closeFrame.overrun.clearFrame :=
    .after (State.clearFrame_staysDark _) (.after (.same (by simp))
      (.after (State.closeFrame_staysDark _) s.slewAll_staysDark))
  have hperiods : StaysDark s s.slewAll.closeFrame.overrun.clearFrame.endPeriods :=
    .after (StaysDark.foldl State.endPeriod_staysDark _ _) hclosed
  exact .after (State.serveAll_staysDark _) (.after (State.maybePass_staysDark _) (.after (.same (by simp)) hperiods))

theorem State.frameStart_staysDark (s : State) : StaysDark s s.frameStart :=
  .after (State.deliverFrame_staysDark _) (.same (by simp))

theorem State.edgeFrame_staysDark (s : State) : StaysDark s s.edgeFrame := by
  unfold State.edgeFrame
  split
  · exact s.frameStart_staysDark
  · exact .refl s

theorem State.acquireEdge_staysDark (s : State) : StaysDark s s.acquireEdge := by
  unfold State.acquireEdge
  split
  · exact .same (by simp)
  · split
    · exact .same (by simp)
    · exact .after (State.edgeFrame_staysDark _) (.same (by simp))

theorem State.lockedEdge_staysDark (s : State) : StaysDark s s.lockedEdge := by
  unfold State.lockedEdge
  split <;> exact .after (State.edgeFrame_staysDark _) (.same (by simp))

theorem State.holdoverEdge_staysDark (s : State) : StaysDark s s.holdoverEdge := by
  unfold State.holdoverEdge
  dsimp only
  split
  · exact .after (State.deliverFrame_staysDark _) (.same (by simp))
  · exact .same (by simp)

/-! ## Claims (R126 to R128) -/

/-- BLANK(on) or BLANK(off) of a port whose own claim was `was`: where a claim ends, no latched mark is left. -/
theorem State.moveClaims_staysBlank (s : State) (x : Claims) (was on : Bool)
    (h : s.claims.any = true → x.any = true ∨ was = true ∧ on = false) :
    StaysBlank s (s.moveClaims x (was && !on)) := by
  refine .of_released fun k hu => ?_
  obtain ⟨hclaims, hshines⟩ := (State.blankAsserted_eq_false_iff _ k).1 hu
  rw [State.moveClaims_blank] at hclaims hshines
  have hnone : ¬ ((s.chains.map fun ch => { ch with latched := false }).getD k Chain.powerOn).Shines :=
    getD_all (p := fun ch : Chain => ¬ ch.Shines) _ k _
      (fun ch hch => by obtain ⟨y, -, rfl⟩ := List.mem_map.1 hch; exact fun hy => absurd hy.2 nofun)
      fun hy => absurd hy.2 nofun
  by_cases hends : was = true ∧ on = false
  · rw [if_pos hends] at hshines
    exact absurd hshines hnone
  · rw [if_neg hends] at hshines
    refine (s.blankAsserted_eq_false_iff k).2 ⟨?_, hshines⟩
    by_contra hany
    exact (h (by simpa using hany)).elim (fun hx => absurd (hclaims.symm.trans hx) nofun) hends

/-! ## Outcomes -/

theorem Yields.same {s u : State} (h : u.claims = s.claims ∧ u.chains = s.chains) : Yields (.next u) (StaysDark s) :=
  .next (.same h)

theorem Yields.blank {s : State} {o : Host.Outcome State Fault Refusal} (h : Yields o (StaysDark s)) :
    Yields o (StaysBlank s) := fun u hu => (h u hu).staysBlank

/-! ## Commands one by one -/

theorem execSetChain_staysDark (t c d w : Nat) (sensor : Option Nat) (s : State) :
    Yields (execSetChain t c d w sensor s) (StaysDark s) :=
  .ite (.same (by simp)) (.ite (.same (by simp)) (.next ⟨by simp, .modify _ _ fun _ => .of_configure⟩))

theorem execSetService_staysDark (t pollUs holdMs : Nat) (s : State) :
    Yields (execSetService t pollUs holdMs s) (StaysDark s) :=
  .ite (.next ⟨by simp, .map _ fun ch => .of_lamp (ch.restartTick_lamp _)⟩) (.same (by simp))

theorem execClearFault_staysDark (t z : Nat) (s : State) : Yields (execClearFault t z s) (StaysDark s) := by
  unfold execClearFault
  dsimp only
  refine .ite (.same (by simp)) ?_
  split
  · exact .same (by simp)
  · exact .next ⟨by simp, .modify _ _ fun _ => .of_lamp rfl⟩

theorem execReadCounters_staysDark (t : Nat) (s : State) : Yields (execReadCounters t s) (StaysDark s) :=
  .next ⟨by simp, .map _ fun _ => .of_lamp rfl⟩

theorem execStart_staysDark (t : Nat) (s : State) : Yields (execStart t s) (StaysDark s) :=
  .ite (.same (by simp)) (.ite (.same (by simp)) (.next ⟨by simp, .map _ fun _ => .of_startUp⟩))

theorem execStop_staysDark (t : Nat) (s : State) : Yields (execStop t s) (StaysDark s) :=
  .next ⟨by simp, .map _ fun _ => .of_halt⟩

theorem execSoftRestart_staysDark (t : Nat) (s : State) : Yields (execSoftRestart t s) (StaysDark s) :=
  .next ⟨by simp, .map _ fun _ h => absurd h.2 nofun⟩

theorem execRestartChain_staysDark (t c : Nat) (s : State) : Yields (execRestartChain t c s) (StaysDark s) := by
  refine .ite (.same (by simp)) (.ite (.same (by simp)) (.ite (.same (by simp)) (.next ?_)))
  rw [State.answer_dropDirect]
  exact ⟨by simp, .modify _ _ fun _ h => absurd h.1 nofun⟩

theorem State.takeDirect_staysDark (s : State) (cmd : SysCommand) (c a : Nat) (q : DirectKind) :
    StaysDark s (s.takeDirect cmd c a q) := by
  unfold State.takeDirect
  split
  · exact .same (by simp)
  · exact .after (State.serve_staysDark _ c)
      (.after (State.updChain_staysDark_of_lamp _ c fun _ => rfl) (.same (by simp)))

theorem execAttemptBegin_staysDark (c : Nat) (s : State) : Yields (execAttemptBegin c s) (StaysDark s) := by
  unfold execAttemptBegin
  split
  · exact .same (by simp)
  · exact .next (.after (State.updChain_staysDark_of_lamp _ c fun _ => rfl) (.same (by simp)))

theorem execRunningTimerExpiry_staysDark (c : Nat) (s : State) :
    Yields (execRunningTimerExpiry c s) (StaysDark s) := by
  unfold execRunningTimerExpiry
  split
  · exact .same (by simp)
  · exact .next (.after (State.updChain_staysDark_of_lamp _ c fun _ => rfl) (.same (by simp)))

theorem execPollTick_staysDark (c : Nat) (s : State) : Yields (execPollTick c s) (StaysDark s) := by
  unfold execPollTick
  split
  · exact .same (by simp)
  · exact .next (.after (State.serve_staysDark _ c)
      (.after (State.updChain_staysDark_of_lamp _ c fun ch => ch.pollTick_lamp) (s.arrive_staysDark _)))

theorem execEchoBegin_staysDark (t c : Nat) (s : State) : Yields (execEchoBegin t c s) (StaysDark s) := by
  unfold execEchoBegin
  dsimp only
  refine .ite (.same (by simp)) ?_
  split
  · exact .next (.after (State.linkFailure_staysDark _ c _) (s.arrive_staysDark t))
  · exact .next (.after (State.updChain_staysDark_of_lamp _ c fun _ => rfl) (s.arrive_staysDark t))

theorem execEchoOverdue_staysDark (c : Nat) (s : State) : Yields (execEchoOverdue c s) (StaysDark s) := by
  unfold execEchoOverdue
  split
  · exact .same (by simp)
  · exact .ite (.same (by simp)) (.next (.after (State.linkFailure_staysDark _ c _) (s.arrive_staysDark _)))

theorem execEmissionBlock_staysDark (s : State) : Yields (execEmissionBlock s) (StaysDark s) := by
  have hemitted : StaysDark s ((s.groupsOfBlock s.pass.blocks).foldl State.emitGroup
      ((s.blockZones s.pass.blocks).foldl State.emitZone (s.arrive s.emitDue))) :=
    .after (StaysDark.foldl State.emitGroup_staysDark _ _) (.after (StaysDark.foldl State.emitZone_staysDark _ _)
      (s.arrive_staysDark _))
  refine .ite (.next (.after (State.serveAll_staysDark _) (.after ?_ hemitted))) (.same (by simp))
  exact { claims := rfl, chains := .of_eq rfl }

theorem execCommitPoint_staysDark (k : Nat) (s : State) : Yields (execCommitPoint k s) (StaysDark s) := by
  unfold execCommitPoint
  split
  · exact .same (by simp)
  · exact .ite (.same (by simp)) (.next (.after (State.commitGroups_staysDark _ _) (s.arrive_staysDark _)))

theorem execLatchPoint_staysDark (k : Nat) (s : State) : Yields (execLatchPoint k s) (StaysDark s) := by
  unfold execLatchPoint
  split
  · exact .same (by simp)
  · exact .ite (.next (.after (State.serveAll_staysDark _) (.after (State.latchAt_staysDark _ _)
      (s.arrive_staysDark _)))) (.same (by simp))

theorem execTakeReport_staysDark (t : Nat) (s : State) : Yields (execTakeReport t s) (StaysDark s) := by
  unfold execTakeReport
  dsimp only
  split <;> exact .same (by simp)

theorem execReadSnapshot_staysDark (t b g : Nat) (s : State) : Yields (execReadSnapshot t b g s) (StaysDark s) := by
  unfold execReadSnapshot
  dsimp only
  refine .ite (.same (by simp)) ?_
  split <;> exact .same (by simp)

theorem execSnapshotHoldExpiry_staysDark (b : Nat) (s : State) :
    Yields (execSnapshotHoldExpiry b s) (StaysDark s) := by
  unfold execSnapshotHoldExpiry
  split <;> exact .same (by simp)

theorem execPictureWindow_staysDark (t : Nat) (w : WindowFields) (s : State) :
    Yields (execPictureWindow t w s) (StaysDark s) := by
  unfold execPictureWindow
  dsimp only
  split <;> exact .same (by simp)

theorem execPanelWindow_staysDark (t : Nat) (w : WindowFields) (s : State) :
    Yields (execPanelWindow t w s) (StaysDark s) := by
  unfold execPanelWindow
  dsimp only
  split <;> exact .same (by simp)

theorem execOutgoingMessageEnd_staysDark (s : State) : Yields (execOutgoingMessageEnd s) (StaysDark s) := by
  unfold execOutgoingMessageEnd
  split <;> exact .same (by simp)

theorem execFsyncEdge_staysDark (t : Nat) (s : State) : Yields (execFsyncEdge t s) (StaysDark s) := by
  unfold execFsyncEdge
  dsimp only
  refine .ite (.same (by simp)) (.ite (.same (by simp)) ?_)
  split
  · exact .same (by simp)
  · exact .next (.after (State.acquireEdge_staysDark _) (s.arrive_staysDark t))
  · exact .next (.after (State.lockedEdge_staysDark _) (s.arrive_staysDark t))
  · exact .next (.after (State.holdoverEdge_staysDark _) (s.arrive_staysDark t))

theorem execGeneratedFrameStart_staysDark (s : State) : Yields (execGeneratedFrameStart s) (StaysDark s) := by
  unfold execGeneratedFrameStart
  split
  · exact .same (by simp)
  · dsimp only
    split <;> exact .next (.after (State.frameStart_staysDark _) (.same (by simp)))

theorem execHoldoverEntry_staysDark (s : State) : Yields (execHoldoverEntry s) (StaysDark s) := by
  unfold execHoldoverEntry
  split
  · exact .same (by simp)
  · exact .next (.after (State.deliverFrame_staysDark _) (.same (by simp)))

theorem execPowerOn_staysBlank (t : Nat) (s : State) : Yields (execPowerOn t s) (StaysBlank s) :=
  .next (.of_released fun k hu => by
    have hchain : (State.powered (max s.now t) s.pending).chain k = Chain.powerOn := getD_replicate_same 8 k _
    have hshines := ((State.blankAsserted_eq_false_iff _ k).1 hu).2
    rw [hchain] at hshines
    exact absurd hshines.1 nofun)

theorem execSystemBlank_staysBlank (t : Nat) (on : Bool) (s : State) :
    Yields (execSystemBlank t on s) (StaysBlank s) :=
  .next ((s.arrive t).moveClaims_staysBlank { s.claims with system := on } s.claims.system on
    (by simp only [Claims.any_iff, State.arrive_claims]; grind))

theorem execPictureBlank_staysBlank (t : Nat) (on : Bool) (s : State) :
    Yields (execPictureBlank t on s) (StaysBlank s) :=
  .next ((s.arrive t).moveClaims_staysBlank { s.claims with picture := on } s.claims.picture on
    (by simp only [Claims.any_iff, State.arrive_claims]; grind))

theorem execPanelBlank_staysBlank (t : Nat) (on : Bool) (s : State) :
    Yields (execPanelBlank t on s) (StaysBlank s) :=
  .next ((s.arrive t).moveClaims_staysBlank { s.claims with panel := on } s.claims.panel on
    (by simp only [Claims.any_iff, State.arrive_claims]; grind))

/-! ## Every command -/

/-- Each command but ECHO END releases no BLANK line. -/
theorem exec_staysBlank (c : Instr) (s : State) (hc : ∀ t k bits, c ≠ .echoEnd t k bits) :
    Yields (exec c s) (StaysBlank s) := by
  cases c with
  | powerOn t => exact execPowerOn_staysBlank t s
  | setGrid t cols rows =>
    exact .blank (.ite (.same (by simp)) (.ite (.same (by simp)) (.ite (.same (by simp)) (.same (by simp)))))
  | setChain t c d w sensor => exact .blank (execSetChain_staysDark t c d w sensor s)
  | mapZone t z c p k =>
    exact .blank (.ite (.same (by simp)) (.ite (.same (by simp)) (.ite (.same (by simp)) (.same (by simp)))))
  | unmapZone t z => exact .blank (.ite (.same (by simp)) (.ite (.same (by simp)) (.same (by simp))))
  | setGroups t g offsets lead => exact .blank (.ite (.same (by simp)) (.ite (.same (by simp)) (.same (by simp))))
  | setProfile t profile => exact .blank (.ite (.same (by simp)) (.same (by simp)))
  | setPower t budget => exact .blank (.same (by simp))
  | setEasing t rise fall => exact .blank (.ite (.same (by simp)) (.same (by simp)))
  | setService t pollUs holdMs => exact .blank (execSetService_staysDark t pollUs holdMs s)
  | setThermal t p => exact .blank (.ite (.same (by simp)) (.same (by simp)))
  | setTimebase t f => exact .blank (.ite (.same (by simp)) (.same (by simp)))
  | followSync t => exact .blank (.same (by simp))
  | freeRun t => exact .blank (.same (by simp))
  | loadGains t start gains => exact .blank (.ite (.same (by simp)) (.same (by simp)))
  | setOverride t z l => exact .blank (.ite (.same (by simp)) (.same (by simp)))
  | clearOverride t z => exact .blank (.ite (.same (by simp)) (.same (by simp)))
  | clearFault t z => exact .blank (execClearFault_staysDark t z s)
  | clearWindows t => exact .blank (.same (by simp))
  | start t => exact .blank (execStart_staysDark t s)
  | stop t => exact .blank (execStop_staysDark t s)
  | restartChain t c => exact .blank (execRestartChain_staysDark t c s)
  | driverTrim t c a code => exact .blank (.next (.after (State.takeDirect_staysDark _ _ c a _) (s.arrive_staysDark t)))
  | driverIdent t c a => exact .blank (.next (.after (State.takeDirect_staysDark _ _ c a _) (s.arrive_staysDark t)))
  | systemBlank t on => exact execSystemBlank_staysBlank t on s
  | takeReport t => exact .blank (execTakeReport_staysDark t s)
  | readSnapshot t b g => exact .blank (execReadSnapshot_staysDark t b g s)
  | probe t z mode => exact .blank (.ite (.same (by simp)) (.same (by simp)))
  | readProbe t => exact .blank (.same (by simp))
  | readZone t z => exact .blank (.ite (.same (by simp)) (.same (by simp)))
  | readCounters t => exact .blank (execReadCounters_staysDark t s)
  | readState t => exact .blank (.same (by simp))
  | softRestart t => exact .blank (execSoftRestart_staysDark t s)
  | unknownCommandWrite t bytes => exact .blank (.ite (.same (by simp)) (.same (by simp)))
  | responseCapture t => exact .blank (.same (by simp))
  | run12 t start values => exact .blank (.same (by simp))
  | run8 t start values => exact .blank (.same (by simp))
  | fine4 t start values => exact .blank (.same (by simp))
  | nudge t r delta => exact .blank (.ite (.same (by simp)) (.ite (.same (by simp)) (.same (by simp))))
  | close t tag cut => exact .blank (.ite (.same (by simp)) (.same (by simp)))
  | pictureWindow t w => exact .blank (execPictureWindow_staysDark t w s)
  | pictureUnwindow t n => exact .blank (.ite (.same (by simp)) (.same (by simp)))
  | pictureBlank t on => exact execPictureBlank_staysBlank t on s
  | status t => exact .blank (.same (by simp))
  | malformedMessage t bytes n => exact .blank (.ite (.same (by simp)) (.same (by simp)))
  | hold t m => exact .blank (.ite (.same (by simp)) (.same (by simp)))
  | resume t => exact .blank (.same (by simp))
  | panelWindow t w => exact .blank (execPanelWindow_staysDark t w s)
  | panelUnwindow t n => exact .blank (.ite (.same (by simp)) (.same (by simp)))
  | panelBlank t on => exact execPanelBlank_staysBlank t on s
  | messageDiscarded t reason => exact .blank (.same (by simp))
  | outgoingMessageEnd => exact .blank (execOutgoingMessageEnd_staysDark s)
  | fsyncEdge t => exact .blank (execFsyncEdge_staysDark t s)
  | generatedFrameStart => exact .blank (execGeneratedFrameStart_staysDark s)
  | holdoverEntry => exact .blank (execHoldoverEntry_staysDark s)
  | holdExpired => exact .blank (.ite (.same (by simp)) (.same (by simp)))
  | problemFrames c => exact .blank (.ite (.next (s.recover_staysDark c _)) (.same (by simp)))
  | compositionEnd => exact .blank (.ite (.same (by simp)) (.same (by simp)))
  | limitingEnd => exact .blank (.ite (.same (by simp)) (.same (by simp)))
  | emissionBlock => exact .blank (execEmissionBlock_staysDark s)
  | commitPoint k => exact .blank (execCommitPoint_staysDark k s)
  | latchPoint k => exact .blank (execLatchPoint_staysDark k s)
  | frameBoundary c =>
    exact .blank (.ite (.same (by simp)) (.next (.after (State.serve_staysDark _ c) (s.arrive_staysDark _))))
  | echoEnd t c bits => exact absurd rfl (hc t c bits)
  | echoOverdue c => exact .blank (execEchoOverdue_staysDark c s)
  | loopLost t c =>
    exact .blank (.ite (.same (by simp)) (.next (.after (State.linkFailure_staysDark _ c _) (s.arrive_staysDark t))))
  | attemptBegin c => exact .blank (execAttemptBegin_staysDark c s)
  | runningTimerExpiry c => exact .blank (execRunningTimerExpiry_staysDark c s)
  | pollTick c => exact .blank (execPollTick_staysDark c s)
  | conversionComplete code => exact .blank (.ite (.same (by simp)) (.same (by simp)))
  | snapshotHoldExpiry b => exact .blank (execSnapshotHoldExpiry_staysDark b s)
  | echoBegin t c => exact .blank (execEchoBegin_staysDark t c s)

/-- An ECHO END releases a BLANK line only by the accepted echo of a LATCH of its own chain. -/
theorem execEchoEnd_releases {t c k : Nat} {bits : List Bool} {s u : State} (h : execEchoEnd t c bits s = .next u)
    (hs : s.blankAsserted k = true) (hu : u.blankAsserted k = false) : c = k ∧ (s.chain c).LatchHeard bits := by
  obtain ⟨hclaims, hshines⟩ := (u.blankAsserted_eq_false_iff k).1 hu
  have hlit : ¬ (s.claims.any = false ∧ (s.chain k).Shines) := by
    rw [← State.blankAsserted_eq_false_iff, hs]
    nofun
  unfold execEchoEnd at h
  dsimp only at h
  split at h <;> obtain rfl := Host.Outcome.next.inj h
  · exact absurd ⟨hclaims, hshines⟩ hlit
  · have hkept : s.claims.any = false := by simpa using hclaims
    have hchecked := (State.serve_staysDark _ c).chains k hshines
    exact (State.checkEcho_shines hchecked).resolve_left fun hbefore => hlit ⟨hkept, hbefore⟩

/-- Settles O13. -/
theorem blankReleasedOnlyByEcho : Obligations.BlankReleasedOnlyByEcho := by
  intro c s u k hexec hs hu
  by_cases hecho : ∃ t j bits, c = .echoEnd t j bits
  · obtain ⟨t, j, bits, rfl⟩ := hecho
    obtain ⟨rfl, f, rest, mask, count, hheard⟩ := execEchoEnd_releases hexec hs hu
    exact ⟨t, bits, f, rest, mask, count, rfl, hheard⟩
  · have hblank := exec_staysBlank c s (fun t j bits h => hecho ⟨t, j, bits, h⟩) u hexec k hs
    exact absurd (hu.symm.trans hblank) nofun

end Sys2Proof.Machine

namespace Sys2Proof.Machine

/-! # Reading reports and clearing faults (7.1 to 7.3) -/

/-! ## READ COUNTERS, TAKE REPORT, READ SNAPSHOT and the hold timer (R143, R144, R147, R148, R188) -/

theorem State.freeBuffer_eq {s : State} {b : Nat} {x : SnapBuffer} (h : s.reports.buffers[b]? = some x) :
    s.freeBuffer b = { s with
      reports := { s.reports with buffers := s.reports.buffers.set b { x with expires := none } } } := by
  rw [State.freeBuffer, modify_eq_set _ _ _ x, List.getD_eq_getElem?_getD, h]
  rfl

/-- A tag names the content of its buffer while the generations agree (R148). -/
theorem ReportUnit.named_eq {r : ReportUnit} {b : Nat} {x : SnapBuffer} (h : r.buffers[b]? = some x) (g : Nat) :
    r.named b g = if x.generation = g then x.content else none := by
  simp only [ReportUnit.named, List.getD_eq_getElem?_getD, h, Option.getD_some]

/-- What a tag names is returned, and its buffer freed (R148). -/
theorem execReadSnapshot_named {t b g : Nat} {s : State} {y : Snapshot} (hb : b ≤ 3) (hg : g ≤ 15)
    (h : s.reports.named b g = some y) :
    execReadSnapshot t b g s = .next (((s.arrive t).freeBuffer b).respond (some .readSnapshot) .done (.snapshot y)) := by
  simp only [execReadSnapshot, State.arrive_reports, if_neg (show ¬ (3 < b ∨ 15 < g) by omega), h]

/-- A tag that names nothing is stale (R148). -/
theorem execReadSnapshot_stale {t b g : Nat} {s : State} (hb : b ≤ 3) (hg : g ≤ 15) (h : s.reports.named b g = none) :
    execReadSnapshot t b g s = .next ((s.arrive t).answer .readSnapshot .stale) := by
  simp only [execReadSnapshot, State.arrive_reports, if_neg (show ¬ (3 < b ∨ 15 < g) by omega), h]

theorem execSnapshotHoldExpiry_free {b : Nat} {s : State} {x : SnapBuffer} (hx : s.reports.buffers[b]? = some x)
    (h : x.expires = none) : execSnapshotHoldExpiry b s = .next s := by
  simp only [execSnapshotHoldExpiry, List.getD_eq_getElem?_getD, hx, Option.getD_some, h]

theorem execSnapshotHoldExpiry_held {b w : Nat} {s : State} {x : SnapBuffer} (hx : s.reports.buffers[b]? = some x)
    (h : x.expires = some w) : execSnapshotHoldExpiry b s = .next ((s.arrive w).freeBuffer b) := by
  simp only [execSnapshotHoldExpiry, List.getD_eq_getElem?_getD, hx, Option.getD_some, h]

/-- Settles O35. -/
theorem reportsSnapshotsAndCountersAreRead : Obligations.ReportsSnapshotsAndCountersAreRead := by
  intro t b g w s
  refine ⟨rfl, fun hq => ?_, fun e rest hq => ?_, fun h => if_pos h, fun hb hg x hx => ⟨fun y hgen hy => ?_, fun h => ?_⟩,
    fun x hx => ⟨execSnapshotHoldExpiry_free hx, fun h => ?_⟩⟩
  · simp only [exec, execTakeReport, State.arrive_reports, hq]
    rfl
  · simp only [exec, execTakeReport, State.arrive_reports, hq]
    rfl
  · have hnamed : s.reports.named b g = some y := by rw [ReportUnit.named_eq hx, if_pos hgen, hy]
    refine (execReadSnapshot_named hb hg hnamed).trans ?_
    rw [State.freeBuffer_eq (s := s.arrive t) hx]
    rfl
  · refine execReadSnapshot_stale hb hg ?_
    rw [ReportUnit.named_eq hx]
    exact h.elim (fun hgen => if_neg hgen) fun hnone => by rw [hnone, ite_self]
  · refine (execSnapshotHoldExpiry_held hx h).trans ?_
    rw [State.freeBuffer_eq (s := s.arrive w) hx]
    rfl

/-! ## CLEAR FAULT (R137) -/

/-- CLEAR FAULT of a zone that holds no channel. -/
theorem execClearFault_unmapped {t z : Nat} {s : State} (hz : z < s.grid.count) (h : (s.zone z).channel = none) :
    execClearFault t z s = .next (((s.arrive t).updZone z Zone.clearFault).answer .clearFault .done) := by
  have hchannel : ((s.arrive t).zone z).channel = none := h
  simp only [execClearFault, State.arrive_grid, if_neg (Nat.not_le.2 hz), hchannel]

/-- CLEAR FAULT of a zone mapped to a channel. -/
theorem execClearFault_mapped {t z : Nat} {s : State} {x : Channel} (hz : z < s.grid.count)
    (h : (s.zone z).channel = some x) :
    execClearFault t z s = .next ((((s.arrive t).updZone z Zone.clearFault).updChain x.chain fun ch =>
      ch.updRecord x.position fun m => if m.assigned then m.clearCandidates x.channel else m).answer .clearFault .done) := by
  have hchannel : ((s.arrive t).zone z).channel = some x := h
  simp only [execClearFault, State.arrive_grid, if_neg (Nat.not_le.2 hz), hchannel]

/-- Settles O28. -/
theorem clearFaultReturnsZoneToService : Obligations.ClearFaultReturnsZoneToService := by
  intro t z s _
  refine ⟨fun hz => if_pos hz, fun hz => ?_⟩
  cases h : (s.zone z).channel with
  | none =>
    refine ⟨s.chains, (execClearFault_unmapped hz h).trans ?_, fun _ => rfl, nofun⟩
    rw [State.updZone_eq]
    rfl
  | some x =>
    refine ⟨s.chains.modify x.chain fun ch => ch.updRecord x.position fun m =>
      if m.assigned then m.clearCandidates x.channel else m, (execClearFault_mapped hz h).trans ?_, nofun, fun y hy => ?_⟩
    · rw [State.updZone_eq]
      rfl
    · obtain rfl := Option.some.inj hy
      rfl

end Sys2Proof.Machine

namespace Sys2Proof.Machine

/-! # The report unit of a sound part (R142, R144, R146)

Of all operations a report alone adds to the queue, and a capture alone moves a generation on; `ReportsKept s u` says
that `u` has a sound report unit where `s` has. It is proved for these two, then for the operations that queue reports,
then command by command. -/

/-! ## What keeps the report unit sound -/

/-- The report unit is sound afterwards if it was before. -/
def ReportsKept (s u : State) : Prop := ReportsSound s → ReportsSound u

theorem ReportsKept.same {s u : State} (h : u.reports = s.reports) : ReportsKept s u := fun hs =>
  ⟨h ▸ hs.few, h ▸ hs.armed, h ▸ hs.whole, h ▸ hs.buffers, h ▸ hs.generations⟩

theorem ReportsKept.refl (s : State) : ReportsKept s s := id

theorem ReportsKept.trans {s t u : State} (h : ReportsKept s t) (k : ReportsKept t u) : ReportsKept s u := k ∘ h

/-- `ReportsKept.trans` with the later move first, so that a proof reads from the outermost operation inwards. -/
theorem ReportsKept.after {s t u : State} (k : ReportsKept t u) (h : ReportsKept s t) : ReportsKept s u := h.trans k

theorem ReportsKept.foldl {α : Type} {f : State → α → State} (hf : ∀ s a, ReportsKept s (f s a)) (as : List α) :
    ∀ s, ReportsKept s (as.foldl f s) := by
  induction as with
  | nil => exact ReportsKept.refl
  | cons a as ih => exact fun s => (hf s a).trans (ih _)

/-- Snapshot buffers replaced by as many, their generations in range. -/
theorem ReportsKept.buffers {s u : State} (bs : List SnapBuffer) (h : u.reports = { s.reports with buffers := bs })
    (hlength : bs.length = s.reports.buffers.length)
    (hgen : (∀ b ∈ s.reports.buffers, b.generation ≤ 15) → ∀ b ∈ bs, b.generation ≤ 15) : ReportsKept s u := fun hs =>
  ⟨h ▸ hs.few, h ▸ hs.armed, h ▸ hs.whole, h ▸ hlength.trans hs.buffers, h ▸ hgen hs.generations⟩

/-! ## Reports and captures -/

/-- A report lost leaves every entry its chained flag. -/
theorem modify_overflow_whole {l : List ReportEntry} {n : Nat} (h : ∀ e, l.getLast? = some e → e.chained = false) :
    ∀ e, (l.modify n fun e => { e with overflow := true }).getLast? = some e → e.chained = false := by
  intro e he
  rw [List.getLast?_eq_getElem?, List.length_modify, List.getElem?_modify] at he
  obtain ⟨x, hx, rfl⟩ := Option.map_eq_some_iff.1 he
  rw [← List.getLast?_eq_getElem?] at hx
  split <;> exact h x hx

theorem State.queueReport_reportsKept (s : State) (es : List ReportEntry) : ReportsKept s (s.queueReport es) := by
  intro hs
  rcases Nat.lt_or_ge 32 (s.reports.queue.length + es.length) with hfull | hroom
  · rw [State.queueReport_full s es hfull]
    refine ⟨by simpa using hs.few, fun ha => ?_, modify_overflow_whole hs.whole, hs.buffers, hs.generations⟩
    obtain ⟨hempty, halert⟩ := hs.armed ha
    exact ⟨by simp [hempty], halert⟩
  · rw [State.queueReport_room s es hroom]
    refine ⟨by simpa using hroom, nofun, fun e he => ?_, hs.buffers, hs.generations⟩
    rw [List.getLast?_append] at he
    cases hlast : (linkEntries es).getLast? with
    | none => exact hs.whole e (by simpa [hlast] using he)
    | some x =>
      obtain rfl : x = e := by simpa [hlast] using he
      exact linkEntries_whole es x hlast

theorem State.capture_reportsKept (s : State) (c p : Nat) : ReportsKept s (s.capture c p).1 := by
  rcases s.capture_cases c p with ⟨h, -⟩ | ⟨i, b, -, -, -, h⟩
  · rw [h]
    exact .refl s
  · rw [h]
    refine .buffers _ rfl List.length_set fun hgen x hx => ?_
    rcases List.mem_or_eq_of_mem_set hx with hx | rfl
    · exact hgen x hx
    · simp only
      omega

theorem State.queueSnapReport_reportsKept (s : State) (c p : Nat) (x : Option (Option SnapTag)) (es : List ReportEntry) :
    ReportsKept s (s.queueSnapReport c p x es).1 := by
  unfold State.queueSnapReport
  split
  · split
    · exact s.queueReport_reportsKept _
    · exact .after (State.queueReport_reportsKept _ _) (s.capture_reportsKept c p)
  · exact s.queueReport_reportsKept es

theorem State.queueEach_reportsKept (s : State) (es : List ReportEntry) : ReportsKept s (s.queueEach es) :=
  ReportsKept.foldl (fun x _ => x.queueReport_reportsKept _) es s

/-- A part whose report unit is as reports queued one by one leave it. -/
theorem ReportsKept.of_books {s u : State} {es : List ReportEntry} (h : u.books = es.foldl bookReport s.books) :
    ReportsKept s u := by
  have hreports : u.reports = (s.queueEach es).reports :=
    congrArg Prod.fst (h.trans (State.foldl_queueReport_books es s).symm)
  exact .after (.same hreports) (s.queueEach_reportsKept es)

theorem State.freeBuffer_reportsKept (s : State) (i : Nat) : ReportsKept s (s.freeBuffer i) :=
  .buffers _ rfl (List.length_modify ..) fun h => modify_all _ i _ h h

/-! ## Failures and attempts (R117 to R122) -/

theorem State.recover_reportsKept (s : State) (c : Nat) (x : Cause) : ReportsKept s (s.recover c x) := by
  rw [State.recover_eq]
  exact .after (State.queueReport_reportsKept _ _) (.same (by simp))

theorem State.failAttempt_reportsKept (s : State) (c : Nat) (x : Cause) : ReportsKept s (s.failAttempt c x) := by
  rcases Nat.lt_or_ge (s.chain c).attempts 3 with h | h
  · rw [State.failAttempt_again h]
    exact .same rfl
  · rw [State.failAttempt_last h]
    exact .after (State.queueReport_reportsKept _ _) (.same rfl)

theorem State.linkFailure_reportsKept (s : State) (c : Nat) (x : Cause) : ReportsKept s (s.linkFailure c x) := by
  unfold State.linkFailure
  split
  · exact s.recover_reportsKept c x
  · split
    · exact s.failAttempt_reportsKept c x
    · exact .refl s

theorem State.continueAttempt_reportsKept (s : State) (c n a : Nat) : ReportsKept s (s.continueAttempt c n a) := by
  rcases Nat.lt_or_ge a (min n 48) with h | h
  · rw [State.continueAttempt_assigns h]
    exact .same rfl
  · rw [State.continueAttempt_succeeds h]
    exact .after (State.queueEach_reportsKept _ _) (.same rfl)

/-! ## The fault monitor (R132 to R140) -/

theorem State.reportFaults_reportsKept (c p : Nat) (found : List (Nat × ZoneFault)) :
    ∀ (s : State) (x : Option (Option SnapTag)), ReportsKept s (s.reportFaults c p x found) := by
  induction found using inTwos.induct with
  | case1 => exact fun s _ => .refl s
  | case2 => exact fun s x => s.queueSnapReport_reportsKept c p x _
  | case3 _ _ _ ih => exact fun s x => .after (ih _ _) (s.queueSnapReport_reportsKept c p x _)

theorem State.compareHot_reportsKept (s : State) (c p : Nat) (b : Bool) : ReportsKept s (s.compareHot c p b) := by
  unfold State.compareHot
  split
  · exact .refl s
  · exact .after (State.queueReport_reportsKept _ _) (.same (by simp))

theorem State.compareSupply_reportsKept (s : State) (c p : Nat) (b : Bool) :
    ReportsKept s (s.compareSupply c p b) := by
  unfold State.compareSupply
  split
  · exact .refl s
  · exact .after (State.queueReport_reportsKept _ _) (.same (by simp))

theorem State.takeReply_reportsKept (s : State) (c p : Nat) (r : PollReply) : ReportsKept s (s.takeReply c p r) := by
  unfold State.takeReply
  dsimp only
  split
  · exact .after (State.compareSupply_reportsKept _ c p _) (.after (State.compareHot_reportsKept _ c p _)
      (.after (State.reportFaults_reportsKept c p _ _ none) (.same (by simp))))
  · exact .after (State.queueSnapReport_reportsKept _ c p _ _) (.same (by simp))

/-! ## Echoes (R85 to R94) -/

theorem State.giveUp_reportsKept (s : State) (c : Nat) (x : Sent) : ReportsKept s (s.giveUp c x) := by
  cases x with
  | stage e => exact .same rfl
  | latch m => exact .same rfl
  | poll a => exact .same rfl
  | direct a k => exact .same (by simp [State.giveUp])
  | assign a g => exact s.failAttempt_reportsKept c _
  | clear => exact s.failAttempt_reportsKept c _

theorem State.echoDamaged_reportsKept (s : State) (c : Nat) (f : InFlight) : ReportsKept s (s.echoDamaged c f) := by
  unfold State.echoDamaged
  dsimp only
  split
  · exact .after (State.giveUp_reportsKept _ c _) (.same rfl)
  · exact .same rfl

theorem State.acceptLatch_reportsKept (s : State) (c : Nat) (m : BitVec 8) (n : Nat) :
    ReportsKept s (s.acceptLatch c m n) := by
  unfold State.acceptLatch
  dsimp only
  split
  · exact .after (State.queueReport_reportsKept _ _) (.same rfl)
  · exact .same rfl

theorem State.acceptAssign_reportsKept (s : State) (c a : Nat) (g : Option Nat) (b : Bool) :
    ReportsKept s (s.acceptAssign c a g b) := by
  unfold State.acceptAssign
  split
  · split
    · exact .after (State.continueAttempt_reportsKept _ c _ _) (.same rfl)
    · exact s.failAttempt_reportsKept c _
  · exact .refl s

theorem State.acceptReply_reportsKept (s : State) (c : Nat) (x : Sent) (r : Reply) :
    ReportsKept s (s.acceptReply c x r) := by
  unfold State.acceptReply
  split
  · exact .same rfl
  · exact s.acceptLatch_reportsKept c _ _
  · exact s.takeReply_reportsKept c _ _
  · exact s.acceptAssign_reportsKept c _ _ _
  · exact .same (by simp)
  · exact .same (by simp)
  · split
    · exact .after (State.continueAttempt_reportsKept _ c _ 0) (.same rfl)
    · exact .refl s
  · exact .refl s

theorem State.checkEcho_reportsKept (s : State) (c : Nat) (bits : List Bool) : ReportsKept s (s.checkEcho c bits) := by
  unfold State.checkEcho
  split
  · exact s.linkFailure_reportsKept c _
  · split
    · exact s.echoDamaged_reportsKept c _
    · exact s.linkFailure_reportsKept c _
    · exact .after (State.acceptReply_reportsKept _ c _ _) (.same rfl)

/-! ## Frame starts and edges (R52 to R60) -/

theorem State.deliverFrame_reportsKept (s : State) : ReportsKept s s.deliverFrame :=
  .after (.same (by simp [State.deliverFrame_eq])) (.of_books s.ready_books)

theorem State.frameStart_reportsKept (s : State) : ReportsKept s s.frameStart :=
  .after (State.deliverFrame_reportsKept _) (.same rfl)

theorem State.edgeFrame_reportsKept (s : State) : ReportsKept s s.edgeFrame := by
  unfold State.edgeFrame
  split
  · exact s.frameStart_reportsKept
  · exact .refl s

theorem State.acquireEdge_reportsKept (s : State) : ReportsKept s s.acquireEdge := by
  unfold State.acquireEdge
  split
  · exact .same rfl
  · split
    · exact .same rfl
    · exact .after (State.edgeFrame_reportsKept _) (.same rfl)

theorem State.lockedEdge_reportsKept (s : State) : ReportsKept s s.lockedEdge := by
  unfold State.lockedEdge
  split <;> exact .after (State.edgeFrame_reportsKept _) (.same rfl)

theorem State.holdoverEdge_reportsKept (s : State) : ReportsKept s s.holdoverEdge := by
  unfold State.holdoverEdge
  dsimp only
  split
  · exact .after (State.deliverFrame_reportsKept _) (.after (State.queueReport_reportsKept _ _) (.same rfl))
  · exact .after (State.queueReport_reportsKept _ _) (.same rfl)

/-! ## Sensors and the ports (R152, R172, R175) -/

theorem State.reportSensor_reportsKept (s : State) (i : Nat) (a b : Bool) : ReportsKept s (s.reportSensor i a b) := by
  unfold State.reportSensor
  split
  · exact .refl s
  · exact s.queueReport_reportsKept _

theorem State.pictureResult_reportsKept (s : State) (r : PictureResult) : ReportsKept s (s.pictureResult r) := by
  unfold State.pictureResult
  split
  · exact .same rfl
  · dsimp only
    split
    · exact .same rfl
    · exact .after (State.queueReport_reportsKept _ _) (.same rfl)

theorem State.takeRun_reportsKept (s : State) (fine : Bool) (start : Nat) (writes : List (Nat → Nat)) :
    ReportsKept s (s.takeRun fine start writes) := by
  unfold State.takeRun
  split <;> exact .after (State.pictureResult_reportsKept _ _) (.same rfl)

theorem State.discardMessage_reportsKept (s : State) : ReportsKept s s.discardMessage :=
  .after (State.queueReport_reportsKept _ _) (.same rfl)

/-! ## Power-on and soft restart (R145, R149) -/

/-- An empty queue ends with no entry of a report cut short. -/
theorem empty_queue_whole (e : ReportEntry) (h : ([] : List ReportEntry).getLast? = some e) : e.chained = false :=
  nomatch h

theorem State.powered_reportsSound (t : Nat) (queue : List Instr) : ReportsSound (State.powered t queue) :=
  ⟨by simp [State.powered], fun _ => ⟨rfl, rfl⟩, empty_queue_whole, rfl, by simp [State.powered, SnapBuffer.fresh]⟩

theorem State.restart_reportsKept (s : State) : ReportsKept s s.restart := fun hs =>
  ⟨by simp [State.restart, ReportUnit.restart], fun _ => ⟨rfl, rfl⟩, empty_queue_whole, (List.length_map _).trans hs.buffers,
    by simp [State.restart, ReportUnit.restart, SnapBuffer.fresh]⟩

/-! ## Commands one by one -/

theorem Yields.sameReports {s u : State} (h : u.reports = s.reports) : Yields (.next u) (ReportsKept s) := .next (.same h)

/-- A command that comes to an operation with the report unit as it was. -/
theorem Yields.reportsKept {s x u : State} (h : ReportsKept x u) (hx : x.reports = s.reports := by rfl) :
    Yields (.next u) (ReportsKept s) := .next (h.after (.same hx))

theorem execSetService_reportsKept (t pollUs holdMs : Nat) (s : State) :
    Yields (execSetService t pollUs holdMs s) (ReportsKept s) :=
  .ite (.next fun hs => ⟨hs.few, hs.armed, hs.whole, hs.buffers, hs.generations⟩) (.sameReports rfl)

theorem execClearFault_reportsKept (t z : Nat) (s : State) : Yields (execClearFault t z s) (ReportsKept s) := by
  unfold execClearFault
  dsimp only
  refine .ite (.sameReports rfl) ?_
  split <;> exact .sameReports rfl

theorem execAttemptBegin_reportsKept (c : Nat) (s : State) : Yields (execAttemptBegin c s) (ReportsKept s) := by
  unfold execAttemptBegin
  split <;> exact .sameReports rfl

theorem execRunningTimerExpiry_reportsKept (c : Nat) (s : State) :
    Yields (execRunningTimerExpiry c s) (ReportsKept s) := by
  unfold execRunningTimerExpiry
  split <;> exact .sameReports rfl

theorem execPollTick_reportsKept (c : Nat) (s : State) : Yields (execPollTick c s) (ReportsKept s) := by
  unfold execPollTick
  split <;> exact .sameReports rfl

theorem execEchoBegin_reportsKept (t c : Nat) (s : State) : Yields (execEchoBegin t c s) (ReportsKept s) := by
  unfold execEchoBegin
  dsimp only
  refine .ite (.sameReports rfl) ?_
  split
  · exact .reportsKept (State.linkFailure_reportsKept _ c _)
  · exact .sameReports rfl

theorem execEchoEnd_reportsKept (t c : Nat) (bits : List Bool) (s : State) :
    Yields (execEchoEnd t c bits s) (ReportsKept s) :=
  .ite (.sameReports rfl) (.reportsKept (((s.arrive t).checkEcho_reportsKept c bits).trans (.same rfl)))

theorem execEchoOverdue_reportsKept (c : Nat) (s : State) : Yields (execEchoOverdue c s) (ReportsKept s) := by
  unfold execEchoOverdue
  split
  · exact .sameReports rfl
  · exact .ite (.sameReports rfl) (.reportsKept (State.linkFailure_reportsKept _ c _))

theorem execEmissionBlock_reportsKept (s : State) : Yields (execEmissionBlock s) (ReportsKept s) := by
  by_cases hp : s.pass.phase = .emitting
  · rw [execEmissionBlock_emitting hp]
    exact .sameReports rfl
  · rw [execEmissionBlock, if_neg hp]
    exact .sameReports rfl

theorem execCommitPoint_reportsKept (k : Nat) (s : State) : Yields (execCommitPoint k s) (ReportsKept s) := by
  unfold execCommitPoint
  split
  · exact .sameReports rfl
  · exact .ite (.sameReports rfl) (.sameReports (by simp))

theorem execLatchPoint_reportsKept (k : Nat) (s : State) : Yields (execLatchPoint k s) (ReportsKept s) := by
  unfold execLatchPoint
  split
  · exact .sameReports rfl
  · exact .ite (.sameReports (by simp)) (.sameReports rfl)

/-- Taking the oldest entry leaves the newest whole, and taking the last sets the armed mark with ALERT released (R143,
R144). -/
theorem execTakeReport_reportsKept (t : Nat) (s : State) : Yields (execTakeReport t s) (ReportsKept s) := by
  unfold execTakeReport
  dsimp only
  split
  next hq =>
    exact .next fun hs => ⟨hs.few, fun _ => ⟨hq, rfl⟩, hs.whole, hs.buffers, hs.generations⟩
  next e rest hq =>
    have hqueue : s.reports.queue = e :: rest := hq
    refine .next fun hs => ⟨?_, fun ha => ?_, fun x hx => hs.whole x ?_, hs.buffers, hs.generations⟩
    · exact Nat.le_of_succ_le (by simpa [hqueue] using hs.few)
    · exact absurd (hs.armed ha).1 (by simp [hqueue])
    · have hlast : rest.getLast? = some x := hx
      simp [hqueue, List.getLast?_cons, hlast]

theorem execReadSnapshot_reportsKept (t b g : Nat) (s : State) : Yields (execReadSnapshot t b g s) (ReportsKept s) := by
  unfold execReadSnapshot
  dsimp only
  refine .ite (.sameReports rfl) ?_
  split
  · exact .reportsKept (((s.arrive t).freeBuffer_reportsKept b).trans (.same rfl))
  · exact .sameReports rfl

theorem execSnapshotHoldExpiry_reportsKept (b : Nat) (s : State) :
    Yields (execSnapshotHoldExpiry b s) (ReportsKept s) := by
  unfold execSnapshotHoldExpiry
  split
  · exact .sameReports rfl
  · exact .reportsKept (State.freeBuffer_reportsKept _ b)

theorem execConversionComplete_reportsKept (code : BitVec 10) (s : State) :
    Yields (execConversionComplete code s) (ReportsKept s) :=
  .ite (.next (.after (State.reportSensor_reportsKept _ _ _ _) (.same rfl))) (.sameReports rfl)

theorem execNudge_reportsKept (t : Nat) (r : Rect) (delta : BitVec 8) (s : State) :
    Yields (execNudge t r delta s) (ReportsKept s) :=
  .ite (.reportsKept (State.pictureResult_reportsKept _ _)) (.ite (.reportsKept (State.pictureResult_reportsKept _ _))
    (.reportsKept (State.pictureResult_reportsKept _ _)))

theorem execClose_reportsKept (t : Nat) (tag : BitVec 8) (cut : Bool) (s : State) :
    Yields (execClose t tag cut s) (ReportsKept s) :=
  .ite (.reportsKept (State.pictureResult_reportsKept _ _))
    (.reportsKept (State.pictureResult_reportsKept _ _))

theorem execPictureWindow_reportsKept (t : Nat) (w : WindowFields) (s : State) :
    Yields (execPictureWindow t w s) (ReportsKept s) := by
  unfold execPictureWindow
  dsimp only
  split
  · exact .reportsKept (State.pictureResult_reportsKept _ _)
  · exact .reportsKept (State.pictureResult_reportsKept _ _)

theorem execPictureUnwindow_reportsKept (t n : Nat) (s : State) :
    Yields (execPictureUnwindow t n s) (ReportsKept s) :=
  .ite (.reportsKept (State.pictureResult_reportsKept _ _))
    (.reportsKept (State.pictureResult_reportsKept _ _))

theorem execPanelWindow_reportsKept (t : Nat) (w : WindowFields) (s : State) :
    Yields (execPanelWindow t w s) (ReportsKept s) := by
  unfold execPanelWindow
  dsimp only
  split <;> exact .sameReports (by simp)

theorem execOutgoingMessageEnd_reportsKept (s : State) : Yields (execOutgoingMessageEnd s) (ReportsKept s) := by
  unfold execOutgoingMessageEnd
  split <;> exact .sameReports rfl

theorem execFsyncEdge_reportsKept (t : Nat) (s : State) : Yields (execFsyncEdge t s) (ReportsKept s) := by
  unfold execFsyncEdge
  dsimp only
  refine .ite (.sameReports rfl) (.ite (.sameReports rfl) ?_)
  split
  · exact .sameReports rfl
  · exact .reportsKept (State.acquireEdge_reportsKept _)
  · exact .reportsKept (State.lockedEdge_reportsKept _)
  · exact .reportsKept (State.holdoverEdge_reportsKept _)

theorem execGeneratedFrameStart_reportsKept (s : State) : Yields (execGeneratedFrameStart s) (ReportsKept s) := by
  unfold execGeneratedFrameStart
  split
  · exact .sameReports rfl
  · dsimp only
    split <;> exact .next (.after (State.frameStart_reportsKept _) (.same rfl))

theorem execHoldoverEntry_reportsKept (s : State) : Yields (execHoldoverEntry s) (ReportsKept s) := by
  unfold execHoldoverEntry
  split
  · exact .sameReports rfl
  · exact .next (.after (State.deliverFrame_reportsKept _) (.after (State.queueReport_reportsKept _ _) (.same rfl)))

/-! ## Every command -/

theorem exec_reportsKept (c : Instr) (s : State) : Yields (exec c s) (ReportsKept s) := by
  cases c with
  | powerOn t => exact .next fun _ => State.powered_reportsSound _ _
  | setGrid t cols rows =>
    exact .ite (.sameReports rfl) (.ite (.sameReports rfl) (.ite (.sameReports rfl) (.sameReports (by simp))))
  | setChain t c d w sensor => exact .ite (.sameReports rfl) (.ite (.sameReports rfl) (.sameReports rfl))
  | mapZone t z c p k =>
    exact .ite (.sameReports rfl) (.ite (.sameReports rfl) (.ite (.sameReports rfl) (.sameReports rfl)))
  | unmapZone t z => exact .ite (.sameReports rfl) (.ite (.sameReports rfl) (.sameReports rfl))
  | setGroups t g offsets lead => exact .ite (.sameReports rfl) (.ite (.sameReports rfl) (.sameReports rfl))
  | setProfile t profile => exact .ite (.sameReports rfl) (.sameReports rfl)
  | setPower t budget => exact .sameReports rfl
  | setEasing t rise fall => exact .ite (.sameReports rfl) (.sameReports rfl)
  | setService t pollUs holdMs => exact execSetService_reportsKept t pollUs holdMs s
  | setThermal t p => exact .ite (.sameReports rfl) (.sameReports rfl)
  | setTimebase t f => exact .ite (.sameReports rfl) (.sameReports rfl)
  | followSync t => exact .sameReports rfl
  | freeRun t => exact .sameReports rfl
  | loadGains t start gains => exact .ite (.sameReports rfl) (.sameReports rfl)
  | setOverride t z l => exact .ite (.sameReports rfl) (.sameReports rfl)
  | clearOverride t z => exact .ite (.sameReports rfl) (.sameReports rfl)
  | clearFault t z => exact execClearFault_reportsKept t z s
  | clearWindows t => exact .sameReports rfl
  | start t => exact .ite (.sameReports rfl) (.ite (.sameReports rfl) (.sameReports rfl))
  | stop t => exact .sameReports rfl
  | restartChain t c =>
    exact .ite (.sameReports rfl) (.ite (.sameReports rfl) (.ite (.sameReports rfl) (.sameReports (by simp))))
  | driverTrim t c a code => exact .sameReports (by simp)
  | driverIdent t c a => exact .sameReports (by simp)
  | systemBlank t on => exact .sameReports rfl
  | takeReport t => exact execTakeReport_reportsKept t s
  | readSnapshot t b g => exact execReadSnapshot_reportsKept t b g s
  | probe t z mode => exact .ite (.sameReports rfl) (.sameReports rfl)
  | readProbe t => exact .sameReports rfl
  | readZone t z => exact .ite (.sameReports rfl) (.sameReports rfl)
  | readCounters t => exact .sameReports rfl
  | readState t => exact .sameReports rfl
  | softRestart t => exact .reportsKept ((s.arrive t).restart_reportsKept.trans (.same rfl))
  | unknownCommandWrite t bytes => exact .ite (.sameReports rfl) (.sameReports rfl)
  | responseCapture t => exact .sameReports rfl
  | run12 t start values => exact .reportsKept (State.takeRun_reportsKept _ _ start _)
  | run8 t start values => exact .reportsKept (State.takeRun_reportsKept _ _ start _)
  | fine4 t start values => exact .reportsKept (State.takeRun_reportsKept _ _ start _)
  | nudge t r delta => exact execNudge_reportsKept t r delta s
  | close t tag cut => exact execClose_reportsKept t tag cut s
  | pictureWindow t w => exact execPictureWindow_reportsKept t w s
  | pictureUnwindow t n => exact execPictureUnwindow_reportsKept t n s
  | pictureBlank t on => exact .reportsKept (State.pictureResult_reportsKept _ _)
  | status t => exact .reportsKept (State.pictureResult_reportsKept _ _)
  | malformedMessage t bytes n =>
    exact .ite (.reportsKept (State.pictureResult_reportsKept _ _)) (.sameReports rfl)
  | hold t m => exact .ite (.reportsKept (State.discardMessage_reportsKept _)) (.sameReports rfl)
  | resume t => exact .sameReports rfl
  | panelWindow t w => exact execPanelWindow_reportsKept t w s
  | panelUnwindow t n => exact .ite (.sameReports (by simp)) (.sameReports rfl)
  | panelBlank t on => exact .sameReports rfl
  | messageDiscarded t reason => exact .reportsKept (State.discardMessage_reportsKept _)
  | outgoingMessageEnd => exact execOutgoingMessageEnd_reportsKept s
  | fsyncEdge t => exact execFsyncEdge_reportsKept t s
  | generatedFrameStart => exact execGeneratedFrameStart_reportsKept s
  | holdoverEntry => exact execHoldoverEntry_reportsKept s
  | holdExpired => exact .ite (.next (.of_books s.moveHold_books)) (.sameReports rfl)
  | problemFrames c => exact .ite (.next (s.recover_reportsKept c _)) (.sameReports rfl)
  | compositionEnd => exact .ite (.sameReports rfl) (.sameReports rfl)
  | limitingEnd => exact .ite (.sameReports rfl) (.sameReports rfl)
  | emissionBlock => exact execEmissionBlock_reportsKept s
  | commitPoint k => exact execCommitPoint_reportsKept k s
  | latchPoint k => exact execLatchPoint_reportsKept k s
  | frameBoundary c => exact .ite (.sameReports rfl) (.sameReports rfl)
  | echoEnd t c bits => exact execEchoEnd_reportsKept t c bits s
  | echoOverdue c => exact execEchoOverdue_reportsKept c s
  | loopLost t c => exact .ite (.sameReports rfl) (.reportsKept (State.linkFailure_reportsKept _ c _))
  | attemptBegin c => exact execAttemptBegin_reportsKept c s
  | runningTimerExpiry c => exact execRunningTimerExpiry_reportsKept c s
  | pollTick c => exact execPollTick_reportsKept c s
  | conversionComplete code => exact execConversionComplete_reportsKept code s
  | snapshotHoldExpiry b => exact execSnapshotHoldExpiry_reportsKept b s
  | echoBegin t c => exact execEchoBegin_reportsKept t c s

/-- Settles O8. -/
theorem reportUnitStaysSound : Obligations.ReportUnitStaysSound := by
  intro s u hs hstep
  unfold step at hstep
  split at hstep
  · exact Host.Outcome.next.inj hstep ▸ hs
  · exact exec_reportsKept _ _ u hstep (ReportsKept.same (s := s) rfl hs)

end Sys2Proof.Machine

namespace Sys2Proof.Machine

/-! # POLL replies by the candidate table (7.1)

A reply that is interpreted moves the candidate marks of its driver's channels and may confirm faults; what it reports is
then queued. The first part says which channels it examines and confirms, the second what the reports do to the report
unit, the third puts the two together. -/

/-! ## The channels a reply examines (R134, Table 7-1) -/

theorem foldl_maskBits_getLsbD (f : Nat → Bool) {c : Nat} (hc : c < 16) (l : List Nat) : ∀ m : BitVec 16,
    (l.foldl (fun m i => if f i then m ||| (1#16 <<< i) else m) m).getLsbD c = (m.getLsbD c || l.contains c && f c) := by
  induction l with
  | nil => simp
  | cons i l ih =>
    intro m
    rw [List.foldl_cons, ih]
    by_cases hi : i = c
    · subst hi
      by_cases hf : f i = true <;> simp [hf, hc]
    · have hbit : (1#16 <<< i).getLsbD c = false := by
        simp only [BitVec.getLsbD_shiftLeft, BitVec.getLsbD_one]
        rcases Nat.lt_or_gt_of_ne hi with h | h <;> simp <;> omega
      by_cases hf : f i = true <;> simp [hf, hbit, Ne.symm hi]

theorem maskOf_getLsbD (f : Nat → Bool) {c : Nat} (hc : c < 16) : (maskOf f).getLsbD c = f c := by
  rw [maskOf, foldl_maskBits_getLsbD f hc]
  simp [hc]

/-- The zone that holds a channel is found by it (R5). -/
theorem MapSound.findZone_eq_some_iff {s : State} (h : MapSound s) {x : Channel} {i : Nat} :
    findZone s.zones x = some i ↔ (s.zone i).channel = some x := by
  constructor
  · intro hfind
    obtain ⟨hi, hz, -⟩ := List.findIdx?_eq_some_iff_getElem.1 hfind
    simpa [State.zone, hi] using hz
  · intro hi
    cases hfind : findZone s.zones x with
    | none =>
      obtain ⟨z, hz, hx⟩ := (s.zone_channel_eq_some_iff i x).1 hi
      have := List.findIdx?_eq_none_iff.1 hfind z (List.mem_of_getElem? hz)
      simp [hx] at this
    | some j =>
      obtain ⟨hj, hz, -⟩ := List.findIdx?_eq_some_iff_getElem.1 hfind
      rw [h.unique i j x hi (by simpa [State.zone, hj] using hz)]

/-- A channel that no zone holds is not examined. -/
theorem MapSound.examineChannel_unmapped {s : State} (h : MapSound s) {k a c : Nat}
    (hc : ∀ i, (s.zone i).channel ≠ some ⟨k, a, c⟩) (m : Mirror) (p : PollReply) :
    examineChannel s.zones k a m p c = (m.openCand.getLsbD c, m.shortCand.getLsbD c, none) := by
  have hfind : findZone s.zones ⟨k, a, c⟩ = none :=
    Option.eq_none_iff_forall_ne_some.2 fun i hi => hc i (h.findZone_eq_some_iff.1 hi)
  simp only [examineChannel, examinedZone, hfind]

/-- The channel of a zone that is OPEN or SHORT is not examined. -/
theorem MapSound.examineChannel_faulted {s : State} (h : MapSound s) {k a c i : Nat}
    (hi : (s.zone i).channel = some ⟨k, a, c⟩) (hf : (s.zone i).fault = .open ∨ (s.zone i).fault = .short) (m : Mirror)
    (p : PollReply) :
    examineChannel s.zones k a m p c = (m.openCand.getLsbD c, m.shortCand.getLsbD c, none) := by
  have hfind := h.findZone_eq_some_iff.2 hi
  rw [State.zone] at hf
  rcases hf with hf | hf <;> simp only [examineChannel, examinedZone, hfind, hf]

/-- Any other mapped channel is examined, and Table 7-1 moves its marks. -/
theorem MapSound.examineChannel_examined {s : State} (h : MapSound s) {k a c i : Nat}
    (hi : (s.zone i).channel = some ⟨k, a, c⟩) (hf : (s.zone i).fault = .none ∨ (s.zone i).fault = .missing) (m : Mirror)
    (p : PollReply) :
    examineChannel s.zones k a m p c =
      ((candidateStep (m.openCand.getLsbD c) (m.shortCand.getLsbD c) (p.openMask.getLsbD c) (p.shortMask.getLsbD c)).1,
        (candidateStep (m.openCand.getLsbD c) (m.shortCand.getLsbD c) (p.openMask.getLsbD c) (p.shortMask.getLsbD c)).2.1,
        (candidateStep (m.openCand.getLsbD c) (m.shortCand.getLsbD c) (p.openMask.getLsbD c)
          (p.shortMask.getLsbD c)).2.2.map fun f => (i, f)) := by
  have hfind := h.findZone_eq_some_iff.2 hi
  rw [State.zone] at hf
  rcases hf with hf | hf <;> simp only [examineChannel, examinedZone, hfind, hf]

/-- A fault that Table 7-1 confirms is OPEN or SHORT. -/
theorem candidateStep_confirms {o h so sh : Bool} {f : ZoneFault} (hf : (candidateStep o h so sh).2.2 = some f) :
    f = .open ∨ f = .short := by
  unfold candidateStep at hf
  split at hf
  · split at hf
    · obtain rfl := Option.some.inj hf
      split
      · exact .inr rfl
      · exact .inl rfl
    · cases hf
  · split at hf
    · cases hf
    · split at hf <;> cases hf

/-- A fault is confirmed only on a channel that a zone neither OPEN nor SHORT holds, and it is one of these. -/
theorem MapSound.examineChannel_confirms {s : State} (h : MapSound s) {k a c i : Nat} {m : Mirror} {p : PollReply}
    {f : ZoneFault} (hx : (examineChannel s.zones k a m p c).2.2 = some (i, f)) :
    (s.zone i).channel = some ⟨k, a, c⟩ ∧ ((s.zone i).fault = .none ∨ (s.zone i).fault = .missing) ∧
      (f = .open ∨ f = .short) := by
  by_cases hmapped : ∀ j, (s.zone j).channel ≠ some ⟨k, a, c⟩
  · rw [h.examineChannel_unmapped hmapped] at hx
    cases hx
  · obtain ⟨j, hj⟩ := not_forall_not.1 hmapped
    by_cases hf : (s.zone j).fault = .open ∨ (s.zone j).fault = .short
    · rw [h.examineChannel_faulted hj hf] at hx
      cases hx
    · have hf' : (s.zone j).fault = .none ∨ (s.zone j).fault = .missing := by
        cases hfault : (s.zone j).fault <;> simp [hfault] at hf ⊢
      rw [h.examineChannel_examined hj hf'] at hx
      obtain ⟨g, hg, heq⟩ := Option.map_eq_some_iff.1 hx
      obtain ⟨rfl, rfl⟩ := Prod.mk.inj heq
      exact ⟨hj, hf', candidateStep_confirms hg⟩

/-! ## The zones a reply confirms (R134, R135) -/

/-- The confirmed channels of a reply in order, each with its zone and the fault. -/
def confirmedAt (zones : List Zone) (k a : Nat) (m : Mirror) (p : PollReply) : List (Nat × Nat × ZoneFault) :=
  (List.range 16).filterMap fun c => (examineChannel zones k a m p c).2.2.map fun x => (c, x)

theorem mem_confirmedAt_iff {zones : List Zone} {k a : Nat} {m : Mirror} {p : PollReply} {c : Nat}
    {x : Nat × ZoneFault} :
    (c, x) ∈ confirmedAt zones k a m p ↔ c < 16 ∧ (examineChannel zones k a m p c).2.2 = some x := by
  simp only [confirmedAt, List.mem_filterMap, List.mem_range, Option.map_eq_some_iff, Prod.mk.injEq]
  exact ⟨fun ⟨_, hc, _, hx, hcc, hxx⟩ => hcc ▸ hxx ▸ ⟨hc, hx⟩, fun ⟨hc, hx⟩ => ⟨c, hc, x, hx, rfl, rfl⟩⟩

theorem confirmedBy_eq (zones : List Zone) (k a : Nat) (m : Mirror) (p : PollReply) :
    confirmedBy zones k a m p = (confirmedAt zones k a m p).map Prod.snd := by
  rw [confirmedBy, confirmedAt, List.map_filterMap]
  simp [Option.map_map, Function.comp_def]

theorem confirmedAt_pairwise (zones : List Zone) (k a : Nat) (m : Mirror) (p : PollReply) :
    (confirmedAt zones k a m p).Pairwise fun x y => x.1 < y.1 := by
  rw [confirmedAt, List.pairwise_filterMap]
  refine List.pairwise_lt_range.imp fun hlt x hx y hy => ?_
  obtain ⟨_, -, rfl⟩ := Option.map_eq_some_iff.1 hx
  obtain ⟨_, -, rfl⟩ := Option.map_eq_some_iff.1 hy
  exact hlt

@[simp] theorem setFaults_length (found : List (Nat × ZoneFault)) : ∀ zones : List Zone,
    (setFaults zones found).length = zones.length := by
  induction found with
  | nil => exact fun _ => rfl
  | cons x found ih => intro zones; rw [setFaults, ih, List.length_modify]

/-- A zone not confirmed keeps its record. -/
theorem setFaults_getD_kept {found : List (Nat × ZoneFault)} {i : Nat} (h : ∀ f, (i, f) ∉ found) : ∀ zones : List Zone,
    (setFaults zones found).getD i Zone.fresh = zones.getD i Zone.fresh := by
  induction found with
  | nil => exact fun _ => rfl
  | cons x found ih =>
    intro zones
    have hx : x.1 ≠ i := fun hxi => h x.2 (by rw [← hxi]; exact List.mem_cons_self)
    rw [setFaults, ih fun f hf => h f (List.mem_cons_of_mem _ hf), getD_modify_ne _ _ _ _ _ hx]

/-- A zone confirmed with one fault alone has it set, and keeps the rest of its record. -/
theorem setFaults_getD_set {found : List (Nat × ZoneFault)} {i : Nat} {f : ZoneFault} (hmem : (i, f) ∈ found)
    (h : ∀ g, (i, g) ∈ found → g = f) : ∀ zones : List Zone, i < zones.length →
    (setFaults zones found).getD i Zone.fresh = { zones.getD i Zone.fresh with fault := f } := by
  induction found with
  | nil => exact absurd hmem List.not_mem_nil
  | cons x found ih =>
    intro zones hi
    have htail : ∀ g, (i, g) ∈ found → g = f := fun g hg => h g (List.mem_cons_of_mem _ hg)
    have hsame : x.1 = i → (zones.modify x.1 fun z => { z with fault := x.2 }).getD i Zone.fresh =
        { zones.getD i Zone.fresh with fault := f } := by
      rintro rfl
      rw [getD_modify_self _ _ _ _ hi, h x.2 List.mem_cons_self]
    rw [setFaults]
    by_cases hin : (i, f) ∈ found
    · rw [ih hin htail _ (by rwa [List.length_modify])]
      by_cases hx : x.1 = i
      · rw [hsame hx]
      · rw [getD_modify_ne _ _ _ _ _ hx]
    · obtain rfl : (i, f) = x := (List.mem_cons.1 hmem).resolve_right hin
      rw [setFaults_getD_kept (fun g hg => hin (htail g hg ▸ hg)), hsame rfl]

/-- The zone table after a reply to `k`, `a` has set the faults it confirms. -/
def State.faultedZones (s : State) (k a : Nat) (m : Mirror) (p : PollReply) : List Zone :=
  setFaults s.zones (confirmedBy s.zones k a m p)

theorem mem_confirmedBy_iff {zones : List Zone} {k a : Nat} {m : Mirror} {p : PollReply} {x : Nat × ZoneFault} :
    x ∈ confirmedBy zones k a m p ↔ ∃ c < 16, (examineChannel zones k a m p c).2.2 = some x := by
  simp only [confirmedBy, List.mem_filterMap, List.mem_range]

/-- A confirmed zone takes its fault. -/
theorem MapSound.faultedZones_confirmed {s : State} (h : MapSound s) {k a c i : Nat} {m : Mirror} {p : PollReply}
    {f : ZoneFault} (hc : c < 16) (hx : (examineChannel s.zones k a m p c).2.2 = some (i, f)) :
    (s.faultedZones k a m p).getD i Zone.fresh = { s.zone i with fault := f } := by
  obtain ⟨hchannel, -, -⟩ := h.examineChannel_confirms hx
  have hi : i < s.zones.length := by
    obtain ⟨z, hz, -⟩ := (s.zone_channel_eq_some_iff i _).1 hchannel
    exact (List.getElem?_eq_some_iff.1 hz).1
  refine setFaults_getD_set (mem_confirmedBy_iff.2 ⟨c, hc, hx⟩) (fun g hg => ?_) _ hi
  obtain ⟨c', -, hx'⟩ := mem_confirmedBy_iff.1 hg
  obtain ⟨hchannel', -, -⟩ := h.examineChannel_confirms hx'
  obtain rfl : c' = c := by simpa using hchannel'.symm.trans hchannel
  exact (Prod.mk.inj (Option.some.inj (hx'.symm.trans hx))).2

/-- A zone whose channel the reply does not confirm keeps its record. -/
theorem MapSound.faultedZones_kept {s : State} (h : MapSound s) {k a i : Nat} {m : Mirror} {p : PollReply}
    (hx : ∀ c f, (s.zone i).channel = some ⟨k, a, c⟩ → (examineChannel s.zones k a m p c).2.2 ≠ some (i, f)) :
    (s.faultedZones k a m p).getD i Zone.fresh = s.zone i := by
  refine setFaults_getD_kept (fun f hf => ?_) _
  obtain ⟨c, -, hc⟩ := mem_confirmedBy_iff.1 hf
  exact hx c f (h.examineChannel_confirms hc).1 hc

/-- A channel is confirmed where its zone's fault changes. -/
theorem MapSound.mem_confirmedAt_iff_changed {s : State} (h : MapSound s) {k a c i : Nat} {m : Mirror} {p : PollReply} :
    (∃ f, (c, i, f) ∈ confirmedAt s.zones k a m p) ↔ c < 16 ∧ (s.zone i).channel = some ⟨k, a, c⟩ ∧
      ((s.faultedZones k a m p).getD i Zone.fresh).fault ≠ (s.zone i).fault := by
  constructor
  · rintro ⟨f, hf⟩
    obtain ⟨hc, hx⟩ := mem_confirmedAt_iff.1 hf
    obtain ⟨hchannel, hbefore, hafter⟩ := h.examineChannel_confirms hx
    refine ⟨hc, hchannel, ?_⟩
    rw [h.faultedZones_confirmed hc hx]
    rcases hbefore with hb | hb <;> rcases hafter with rfl | rfl <;> simp [hb]
  · rintro ⟨hc, hchannel, hne⟩
    by_contra hnone
    refine hne (congrArg Zone.fault (h.faultedZones_kept fun c' f hchannel' hx => hnone ⟨f, ?_⟩))
    obtain rfl : c' = c := by simpa using hchannel'.symm.trans hchannel
    exact mem_confirmedAt_iff.2 ⟨hc, hx⟩

/-- What an examined channel's zone comes to (Table 7-1, R135). -/
theorem MapSound.faultedZones_examined {s : State} (h : MapSound s) {k a c i : Nat} (hc : c < 16)
    (hi : (s.zone i).channel = some ⟨k, a, c⟩) (hf : (s.zone i).fault = .none ∨ (s.zone i).fault = .missing) (m : Mirror)
    (p : PollReply) :
    (s.faultedZones k a m p).getD i Zone.fresh = { s.zone i with
      fault := (candidateStep (m.openCand.getLsbD c) (m.shortCand.getLsbD c) (p.openMask.getLsbD c)
        (p.shortMask.getLsbD c)).2.2.getD (s.zone i).fault } := by
  have hexamined := congrArg (fun x => x.2.2) (h.examineChannel_examined hi hf m p)
  dsimp only at hexamined
  cases hstep : (candidateStep (m.openCand.getLsbD c) (m.shortCand.getLsbD c) (p.openMask.getLsbD c)
      (p.shortMask.getLsbD c)).2.2 with
  | none =>
    refine h.faultedZones_kept fun c' f hi' => ?_
    obtain rfl : c' = c := by simpa using hi'.symm.trans hi
    rw [hexamined, hstep]
    nofun
  | some f =>
    exact h.faultedZones_confirmed hc (by rw [hexamined, hstep]; rfl)

end Sys2Proof.Machine

namespace Sys2Proof.Machine

/-! ## What reports write (R142, R144) -/

/-- Of part `x` only the report unit and the counters have changed. -/
def OnlyReports (x y : State) : Prop := y = { x with reports := y.reports, counters := y.counters }

theorem OnlyReports.refl (x : State) : OnlyReports x x := rfl

theorem OnlyReports.trans {x y z : State} (h : OnlyReports x y) (k : OnlyReports y z) : OnlyReports x z := by
  rw [OnlyReports, k, h]

theorem State.queueReport_onlyReports (x : State) (es : List ReportEntry) : OnlyReports x (x.queueReport es) := by
  unfold State.queueReport
  split <;> rfl

theorem State.queueEach_onlyReports (es : List ReportEntry) : ∀ x : State, OnlyReports x (x.queueEach es) := by
  induction es with
  | nil => exact OnlyReports.refl
  | cons e es ih => exact fun x => (x.queueReport_onlyReports [e]).trans (ih _)

/-- The part with another report unit. -/
def State.withReports (x : State) (r : ReportUnit) : State := { x with reports := r }

/-- A report unit with other snapshot buffers. -/
def ReportUnit.withBuffers (r : ReportUnit) (bs : List SnapBuffer) : ReportUnit := { r with buffers := bs }

/-- A report unit after entries have joined the tail of its queue, with room for all (R142, R144). -/
def ReportUnit.joined (r : ReportUnit) (es : List ReportEntry) : ReportUnit :=
  { r with
    queue := r.queue ++ es
    alert := if es.length ≠ 0 ∧ r.armed = true then true else r.alert
    armed := if es.length = 0 then r.armed else false }

theorem ReportUnit.joined_nil (r : ReportUnit) : r.joined [] = r := by
  simp [ReportUnit.joined]

theorem ReportUnit.joined_one (r : ReportUnit) (e : ReportEntry) :
    r.joined [e] =
      { r with queue := r.queue ++ [e], alert := if r.armed = true then true else r.alert, armed := false } := by
  simp [ReportUnit.joined]

theorem ReportUnit.joined_joined (r : ReportUnit) (es fs : List ReportEntry) :
    (r.joined es).joined fs = r.joined (es ++ fs) := by
  cases es <;> cases fs <;> simp [ReportUnit.joined]

/-- A report with room joins the queue. -/
theorem State.queueReport_joined {x : State} {es : List ReportEntry} (hes : es ≠ [])
    (h : x.reports.queue.length + es.length ≤ 32) :
    x.queueReport es = x.withReports (x.reports.joined (linkEntries es)) := by
  rw [State.queueReport_room x es h, State.withReports, ReportUnit.joined, linkEntries_length]
  cases hr : x.reports.armed <;> simp [hes]

/-- The report of one entry, as blocks make it: neither chained nor marked. -/
def ReportEntry.Plain (e : ReportEntry) : Prop := e.chained = false ∧ e.overflow = false

theorem ReportEntry.Plain.link {e : ReportEntry} (h : e.Plain) : { e with chained := false, overflow := false } = e := by
  obtain ⟨hchained, hoverflow⟩ := h
  cases e
  dsimp only at hchained hoverflow ⊢
  rw [hchained, hoverflow]

/-- Reports of one entry each, with room for all. -/
theorem State.queueEach_joined {es : List ReportEntry} (hplain : ∀ e ∈ es, e.Plain) : ∀ {x : State},
    x.reports.queue.length + es.length ≤ 32 →
      x.queueEach es = x.withReports (x.reports.joined es) := by
  induction es with
  | nil => exact fun {x} _ => by rw [State.queueEach_nil, ReportUnit.joined_nil]; rfl
  | cons e es ih =>
    intro x h
    obtain ⟨he, hes⟩ := List.forall_mem_cons.1 hplain
    rw [List.length_cons] at h
    have hlink : linkEntries [e] = [e] := by rw [linkEntries, he.link]
    have hone : x.reports.queue.length + [e].length ≤ 32 := by rw [List.length_singleton]; omega
    rw [State.queueEach_cons, State.queueReport_joined (List.cons_ne_nil e []) hone, hlink, ih hes]
    · simp only [State.withReports, ReportUnit.joined_joined, List.singleton_append]
    · simp only [State.withReports, ReportUnit.joined, List.length_append, List.length_singleton]
      omega

/-- A report that finds a full queue captures nothing and adds nothing. -/
theorem State.queueReport_lost {x : State} {e : ReportEntry} (es : List ReportEntry) (h : 32 ≤ x.reports.queue.length) :
    (x.queueReport (e :: es)).reports.buffers = x.reports.buffers ∧
      (x.queueReport (e :: es)).reports.queue.length = x.reports.queue.length := by
  rw [State.queueReport_full x _ (by rw [List.length_cons]; omega)]
  exact ⟨rfl, List.length_modify ..⟩

theorem State.queueEach_lost (es : List ReportEntry) : ∀ {x : State}, 32 ≤ x.reports.queue.length →
    (x.queueEach es).reports.buffers = x.reports.buffers ∧
      (x.queueEach es).reports.queue.length = x.reports.queue.length := by
  induction es with
  | nil => exact fun _ => ⟨rfl, rfl⟩
  | cons e es ih =>
    intro x h
    obtain ⟨hbuffers, hlength⟩ := x.queueReport_lost (e := e) [] h
    obtain ⟨hbuffers', hlength'⟩ := ih (x := x.queueReport [e]) (by omega)
    exact ⟨hbuffers'.trans hbuffers, hlength'.trans hlength⟩

/-! ## Reports in turn (R136, R142, R146) -/

theorem ReportsInTurn.onlyReports {d : ReportEntry} {snap : Snapshot} {ess : List (List ReportEntry)} {y : State} :
    ∀ {carried : Option (Option SnapTag)} {x : State}, ReportsInTurn d snap ess carried x y → OnlyReports x y := by
  induction ess with
  | nil => exact fun h => h ▸ .refl _
  | cons es ess ih =>
    rintro carried x ⟨hfull, hroom⟩
    rcases Nat.lt_or_ge 32 (x.reports.queue.length + es.length + 1) with h | h
    · exact (x.queueReport_onlyReports _).trans (ih (hfull h))
    · obtain ⟨tag, buffers, -, -, hrest⟩ := hroom h
      exact OnlyReports.trans (y := { x with reports := { x.reports with buffers := buffers } }) rfl
        ((State.queueReport_onlyReports _ _).trans (ih hrest))

/-- Reports that all find a full queue. -/
theorem ReportsInTurn.lost {d : ReportEntry} {snap : Snapshot} {ess : List (List ReportEntry)} {y : State} :
    ∀ {carried : Option (Option SnapTag)} {x : State}, ReportsInTurn d snap ess carried x y →
      32 ≤ x.reports.queue.length →
      y.reports.buffers = x.reports.buffers ∧ y.reports.queue.length = x.reports.queue.length := by
  induction ess with
  | nil => exact fun h _ => h ▸ ⟨rfl, rfl⟩
  | cons es ess ih =>
    rintro carried x ⟨hfull, -⟩ h
    obtain ⟨hbuffers, hlength⟩ := x.queueReport_lost (e := d) es h
    obtain ⟨hbuffers', hlength'⟩ := ih (hfull (by omega)) (by omega)
    exact ⟨hbuffers'.trans hbuffers, hlength'.trans hlength⟩

theorem faultReports_length (d : ReportEntry) (es : List ReportEntry) :
    (faultReports d es).length = es.length + (es.length + 1) / 2 := by
  induction es using faultReports.induct with
  | case1 => simp [faultReports]
  | case2 x => simp [faultReports]
  | case3 x y rest ih =>
    simp only [faultReports, List.length_cons, ih]
    omega

/-- The tag of the reports of one reply, and the buffers once the first of them is queued: those of an earlier capture,
or else of a capture made where there is anything to report. -/
def TagAndBuffers (x : State) (snap : Snapshot) (es : List ReportEntry) (carried : Option (Option SnapTag))
    (tag : Option SnapTag) (buffers : List SnapBuffer) : Prop :=
  (∀ g, carried = some g → tag = g ∧ buffers = x.reports.buffers) ∧
    (carried = none → (es = [] → tag = none ∧ buffers = x.reports.buffers) ∧
      (es ≠ [] → Captures x.reports x.now snap tag buffers))

/-- A report with room is queued with the tag of a capture, and leaves that tag to those that follow. -/
theorem ReportsInTurn.room_cons {d : ReportEntry} {snap : Snapshot} {es : List ReportEntry}
    {ess : List (List ReportEntry)} {carried : Option (Option SnapTag)} {x y : State}
    (h : ReportsInTurn d snap (es :: ess) carried x y) (hlength : x.reports.queue.length + es.length + 1 ≤ 32) :
    ∃ tag buffers, (∀ g, carried = some g → tag = g ∧ buffers = x.reports.buffers) ∧
      (carried = none → Captures x.reports x.now snap tag buffers) ∧
      ReportsInTurn d snap ess (some tag)
        (x.withReports ((x.reports.withBuffers buffers).joined (linkEntries ({ d with tag := tag } :: es)))) y := by
  obtain ⟨-, hroom⟩ := h
  obtain ⟨tag, buffers, hcarried, hnone, hrest⟩ := hroom hlength
  refine ⟨tag, buffers, hcarried, hnone, ?_⟩
  have hqueued := State.queueReport_joined (x := x.withReports (x.reports.withBuffers buffers))
    (List.cons_ne_nil { d with tag := tag } es) hlength
  exact hqueued ▸ hrest

/-- The CHANNEL FAULT reports of one reply, with room for all: they join the queue with the tag of one capture. -/
theorem ReportsInTurn.room {d : ReportEntry} (hd : d.overflow = false) {snap : Snapshot} {y : State}
    {es : List ReportEntry} (hplain : ∀ e ∈ es, e.Plain) :
    ∀ {carried : Option (Option SnapTag)} {x : State}, ReportsInTurn d snap (inTwos es) carried x y →
      x.reports.queue.length + (es.length + (es.length + 1) / 2) ≤ 32 →
      ∃ tag buffers, TagAndBuffers x snap es carried tag buffers ∧
        y.reports = (x.reports.withBuffers buffers).joined (faultReports { d with tag := tag } es) := by
  induction es using inTwos.induct with
  | case1 =>
    intro carried x h _
    obtain rfl : y = x := h
    refine ⟨carried.getD none, y.reports.buffers, ⟨?_, ?_⟩, (ReportUnit.joined_nil _).symm⟩
    · rintro g rfl
      exact ⟨rfl, rfl⟩
    · rintro rfl
      exact ⟨fun _ => ⟨rfl, rfl⟩, fun hne => absurd rfl hne⟩
  | case2 e =>
    intro carried x h hlength
    have hroom : x.reports.queue.length + [e].length + 1 ≤ 32 := by
      simp only [List.length_cons, List.length_nil] at hlength ⊢
      omega
    obtain ⟨tag, buffers, hcarried, hnone, hy⟩ := h.room_cons hroom
    obtain ⟨he, -⟩ := List.forall_mem_cons.1 hplain
    refine ⟨tag, buffers, ⟨hcarried, fun hc => ⟨nofun, fun _ => hnone hc⟩⟩, ?_⟩
    obtain rfl : y = _ := hy
    simp only [State.withReports, linkEntries, faultReports, he.link, hd]
  | case3 e f es ih =>
    intro carried x h hlength
    simp only [List.length_cons] at hlength
    obtain ⟨tag, buffers, hcarried, hnone, hrest⟩ := h.room_cons (by simp only [List.length_cons, List.length_nil]; omega)
    obtain ⟨he, htail⟩ := List.forall_mem_cons.1 hplain
    obtain ⟨hf, hes⟩ := List.forall_mem_cons.1 htail
    obtain ⟨tag', buffers', ⟨hsame, -⟩, hy⟩ := ih hes hrest (by
      simp only [State.withReports, ReportUnit.joined, ReportUnit.withBuffers, List.length_append, linkEntries_length,
        List.length_cons, List.length_nil]
      omega)
    obtain ⟨rfl, hbuffers⟩ := hsame tag rfl
    have hreport : linkEntries [{ d with tag := tag' }, e, f] =
        [{ d with chained := true, tag := tag' }, { e with chained := true }, f] := by
      simp only [linkEntries, hf.link, hd, he.2]
    refine ⟨tag', buffers, ⟨hcarried, fun hc => ⟨nofun, fun _ => hnone hc⟩⟩, hy.trans ?_⟩
    rw [hbuffers]
    refine (ReportUnit.joined_joined (x.reports.withBuffers buffers) _ _).trans ?_
    rw [hreport]
    rfl

/-! ## Reports with a snapshot (R136, R146) -/

/-- A capture takes the lowest free buffer, or none is free. -/
theorem State.capture_captures (s : State) (c p : Nat) :
    ∃ tag buffers, Captures s.reports s.now (s.snapshotOf c p) tag buffers ∧
      s.capture c p = ({ s with reports := { s.reports with buffers := buffers } }, tag) := by
  rcases s.capture_cases c p with ⟨h, hheld⟩ | ⟨i, b, hi, hfree, hlow, h⟩
  · exact ⟨none, s.reports.buffers,
      ⟨fun _ => ⟨rfl, rfl⟩, fun j b hj hb _ => absurd hb (hheld b (List.mem_of_getElem? hj))⟩, h⟩
  · refine ⟨_, _, ⟨fun hheld => absurd hfree (hheld b (List.mem_of_getElem? hi)), fun j x hj hx hlow' => ?_⟩, h⟩
    have hij : i = j := by
      rcases Nat.lt_trichotomy i j with hlt | heq | hgt
      · exact absurd hfree (hlow' i b hlt hi)
      · exact heq
      · exact absurd hx (hlow j x hgt hj)
    subst hij
    obtain rfl := Option.some.inj (hi.symm.trans hj)
    exact ⟨rfl, rfl⟩

/-- A report with a snapshot that finds no room is lost and captures nothing. -/
theorem State.queueSnapReport_lost {x : State} (zs : List Zone) (cs : List Chain) (c p : Nat)
    (carried : Option (Option SnapTag)) {d : ReportEntry} {es : List ReportEntry}
    (h : 32 < x.reports.queue.length + es.length + 1) :
    (x.withRecords zs cs).queueSnapReport c p carried (d :: es) =
      ((x.queueReport (d :: es)).withRecords zs cs, carried) := by
  have hroom : (x.withRecords zs cs).reports.hasRoom (d :: es).length = false :=
    decide_eq_false (by rw [List.length_cons]; exact Nat.not_le.2 h)
  unfold State.queueSnapReport
  rw [hroom, ← State.queueReport_withRecords]
  rfl

/-- A report with a snapshot that finds room is queued with the tag carried, or else with that of a capture. -/
theorem State.queueSnapReport_queued {x : State} (zs : List Zone) (cs : List Chain) (c p : Nat)
    (carried : Option (Option SnapTag)) {d : ReportEntry} {es : List ReportEntry}
    (h : x.reports.queue.length + es.length + 1 ≤ 32) :
    ∃ tag buffers, (∀ g, carried = some g → tag = g ∧ buffers = x.reports.buffers) ∧
      (carried = none → Captures x.reports x.now ((x.withRecords zs cs).snapshotOf c p) tag buffers) ∧
      (x.withRecords zs cs).queueSnapReport c p carried (d :: es) =
        ((State.queueReport { x with reports := { x.reports with buffers := buffers } }
          ({ d with tag := tag } :: es)).withRecords zs cs, some tag) := by
  have hroom : (x.withRecords zs cs).reports.hasRoom (d :: es).length = true :=
    decide_eq_true (by rw [List.length_cons]; exact h)
  cases carried with
  | some tag =>
    refine ⟨tag, x.reports.buffers, fun g hg => ⟨Option.some.inj hg, rfl⟩, nofun, ?_⟩
    rw [State.queueSnapReport, if_pos hroom, ← State.queueReport_withRecords]
    rfl
  | none =>
    obtain ⟨tag, buffers, hcaptures, hcapture⟩ := (x.withRecords zs cs).capture_captures c p
    refine ⟨tag, buffers, nofun, fun _ => hcaptures, ?_⟩
    rw [State.queueSnapReport, if_pos hroom, hcapture, ← State.queueReport_withRecords]
    rfl

/-- One CHANNEL FAULT report and the rest of them: queued or lost, it leaves the part for the others. -/
theorem State.queueSnapReport_inTurn (x : State) (zs : List Zone) (cs : List Chain) (c p : Nat)
    (carried : Option (Option SnapTag)) (d : ReportEntry) (es : List ReportEntry) :
    ∃ x' carried', (x.withRecords zs cs).queueSnapReport c p carried (d :: es) = (x'.withRecords zs cs, carried') ∧
      OnlyReports x x' ∧ ∀ ess y, ReportsInTurn d ((x.withRecords zs cs).snapshotOf c p) ess carried' x' y →
        ReportsInTurn d ((x.withRecords zs cs).snapshotOf c p) (es :: ess) carried x y := by
  rcases Nat.lt_or_ge 32 (x.reports.queue.length + es.length + 1) with h | h
  · exact ⟨_, carried, State.queueSnapReport_lost zs cs c p carried h, x.queueReport_onlyReports _,
      fun ess y hy => ⟨fun _ => hy, fun hroom => absurd hroom (Nat.not_le.2 h)⟩⟩
  · obtain ⟨tag, buffers, hcarried, hnone, hqueued⟩ := State.queueSnapReport_queued zs cs c p carried h (d := d)
    refine ⟨_, some tag, hqueued, ?_, fun ess y hy => ⟨fun hfull => absurd h (Nat.not_le.2 hfull), fun _ =>
      ⟨tag, buffers, hcarried, hnone, hy⟩⟩⟩
    exact OnlyReports.trans (y := { x with reports := { x.reports with buffers := buffers } }) rfl
      (State.queueReport_onlyReports _ _)

/-- The lead of a CHANNEL FAULT report of a reply from driver `p` of chain `c`, before it has a tag (R136). -/
def faultLead (c p n : Nat) : ReportEntry := ⟨.driver c p, .channelFault, .active, false, false, none, n⟩

/-- A ZONE entry of such a report. -/
def faultItem (n : Nat) (z : Nat × ZoneFault) : ReportEntry :=
  ⟨.zone z.1, faultEvent z.2, .active, false, false, none, n⟩

/-- The CHANNEL FAULT reports of a reply are queued in turn, two confirmed channels to a report. -/
theorem State.reportFaults_inTurn (zs : List Zone) (cs : List Chain) (c p : Nat) (found : List (Nat × ZoneFault)) :
    ∀ (x : State) (carried : Option (Option SnapTag)),
      ∃ y, ReportsInTurn (faultLead c p x.timebase.counter) ((x.withRecords zs cs).snapshotOf c p)
          (inTwos (found.map (faultItem x.timebase.counter))) carried x y ∧
        (x.withRecords zs cs).reportFaults c p carried found = y.withRecords zs cs := by
  induction found using inTwos.induct with
  | case1 => exact fun x _ => ⟨x, rfl, rfl⟩
  | case2 z =>
    intro x carried
    obtain ⟨x', carried', hq, -, hturn⟩ := x.queueSnapReport_inTurn zs cs c p carried
      (faultLead c p x.timebase.counter) [faultItem x.timebase.counter z]
    exact ⟨x', hturn [] x' rfl, congrArg Prod.fst hq⟩
  | case3 z w found ih =>
    intro x carried
    obtain ⟨x', carried', hq, honly, hturn⟩ := x.queueSnapReport_inTurn zs cs c p carried
      (faultLead c p x.timebase.counter) [faultItem x.timebase.counter z, faultItem x.timebase.counter w]
    obtain ⟨y, hy, hfaults⟩ := ih x' carried'
    have htimebase : x'.timebase = x.timebase := by rw [honly]
    have hsnap : (x'.withRecords zs cs).snapshotOf c p = (x.withRecords zs cs).snapshotOf c p := by rw [honly]; rfl
    rw [htimebase, hsnap] at hy
    refine ⟨y, hturn _ y hy, .trans ?_ hfaults⟩
    exact congrArg (fun q : State × Option (Option SnapTag) => q.1.reportFaults c p q.2 found) hq

end Sys2Proof.Machine

namespace Sys2Proof.Machine

/-! ## The engine that has taken a reply (R94, R132) -/

/-- The arbiter writes no mirror record. -/
theorem Chain.serve_mirror (ch : Chain) (now : Nat) : (ch.serve now).mirror = ch.mirror := by
  rcases ch.serve_cases now with h | ⟨x, retry, rest, -, -, h, ⟨-, hp⟩ | ⟨-, -, -, rfl⟩⟩
  · rw [h]
  · rw [h]
    rcases ch.pick_cases x retry rest hp with ⟨_, _, _, _, _, rfl⟩ | ⟨_, _, _, _, rfl⟩ | ⟨_, _, _, _, rfl⟩ |
      ⟨_, _, _, _, _, _, _, rfl⟩ <;> rfl
  · rw [h]
    rfl

/-- The engine with `rest` in flight, `damaged` echoes counted, and record `m` at address `a`. -/
def Chain.replied (ch : Chain) (rest : List InFlight) (damaged a : Nat) (m : Mirror) : Chain :=
  { ch with inflight := rest, damaged := damaged, mirror := ch.mirror.set a m }

theorem Chain.replied_record {ch : Chain} {a : Nat} (ha : a < ch.mirror.length) (rest : List InFlight) (d : Nat)
    (m : Mirror) : (ch.replied rest d a m).record a = m := getD_set_self _ _ _ _ ha

theorem Chain.replied_record_other (ch : Chain) {a b : Nat} (hb : b ≠ a) (rest : List InFlight) (d : Nat) (m : Mirror) :
    (ch.replied rest d a m).record b = ch.record b := getD_set_ne _ _ _ _ _ hb.symm

theorem Chain.replied_updRecord {ch : Chain} {a : Nat} (ha : a < ch.mirror.length) (rest : List InFlight) (d : Nat)
    (m : Mirror) (f : Mirror → Mirror) : (ch.replied rest d a m).updRecord a f = ch.replied rest d a (f m) := by
  have hmirror : (ch.mirror.set a m).modify a f = ch.mirror.set a (f m) := by
    rw [modify_eq_set _ _ _ Mirror.powerOn, getD_set_self _ _ _ _ ha, List.set_set]
  exact congrArg (fun l => { ch with inflight := rest, damaged := d, mirror := l }) hmirror

theorem Chain.updRecord_replied (ch : Chain) (rest : List InFlight) (a : Nat) (f : Mirror → Mirror) :
    Chain.updRecord { ch with inflight := rest } a f = ch.replied rest ch.damaged a (f (ch.record a)) :=
  congrArg (fun l => { ch with inflight := rest, mirror := l }) (modify_eq_set _ _ _ Mirror.powerOn)

theorem Chain.serve_record (ch : Chain) (now a : Nat) : (ch.serve now).record a = ch.record a :=
  congrArg (·.getD a Mirror.powerOn) (ch.serve_mirror now)

theorem Chain.serve_damaged (ch : Chain) (now : Nat) : (ch.serve now).damaged = ch.damaged :=
  congrArg (fun x : Nat × Nat × Nat × Nat => x.2.1) (ch.serve_tally now)

theorem State.withRecords_updChain {cs : List Chain} {k : Nat} (hk : k < cs.length) (x : State) (zs : List Zone)
    (ch : Chain) (f : Chain → Chain) :
    (x.withRecords zs (cs.set k ch)).updChain k f = x.withRecords zs (cs.set k (f ch)) := by
  have hchains : (cs.set k ch).modify k f = cs.set k (f ch) := by
    rw [modify_eq_set _ _ _ Chain.powerOn, getD_set_self _ _ _ _ hk, List.set_set]
  exact congrArg (x.withRecords zs) hchains

theorem State.withRecords_chain {cs : List Chain} {k : Nat} (hk : k < cs.length) (x : State) (zs : List Zone)
    (ch : Chain) : (x.withRecords zs (cs.set k ch)).chain k = ch := getD_set_self _ _ _ _ hk

theorem State.heard_eq (s : State) (t k : Nat) (rest : List InFlight) :
    s.heard t k rest = (s.onlyWaits t).withRecords s.zones (s.chains.set k { s.chain k with inflight := rest }) := rfl

/-! ## The flags (R138, R139) -/

/-- The report of a flag of driver `p` of chain `c`, where it has changed. -/
def flagReports (c p n : Nat) (e : ReportEvent) (was is : Bool) : List ReportEntry :=
  if is = was then [] else [⟨.driver c p, e, if is = true then .degraded else .recovered, false, false, none, n⟩]

theorem flagReports_plain (c p n : Nat) (e : ReportEvent) (was is : Bool) : ∀ x ∈ flagReports c p n e was is, x.Plain := by
  unfold flagReports
  split
  · exact fun _ h => absurd h List.not_mem_nil
  · exact fun x h => List.mem_singleton.1 h ▸ ⟨rfl, rfl⟩

/-- A flag that has changed is written into the record and reported; one that has not changes nothing. -/
theorem State.flag_replied {cs : List Chain} {k a : Nat} {ch : Chain} (hk : k < cs.length) (ha : a < ch.mirror.length)
    (y : State) (zs : List Zone) (rest : List InFlight) (d : Nat) (e : ReportEvent) {m : Mirror} {f : Mirror → Mirror}
    {was is : Bool} (hsame : was = is → f m = m) {x : State}
    (hx : x = y.withRecords zs (cs.set k (ch.replied rest d a m))) :
    (if was = is then x else (x.updChain k fun c => c.updRecord a f).queueReport
        [⟨.driver k a, e, if is = true then .degraded else .recovered, false, false, none, y.timebase.counter⟩]) =
      (y.queueEach (flagReports k a y.timebase.counter e was is)).withRecords zs
        (cs.set k (ch.replied rest d a (f m))) := by
  subst hx
  unfold flagReports
  by_cases h : was = is
  · rw [if_pos h, if_pos h.symm, State.queueEach_nil, hsame h]
  · rw [if_neg h, if_neg (Ne.symm h), State.withRecords_updChain hk, Chain.replied_updRecord ha,
      State.queueReport_withRecords]
    rfl

theorem State.compareHot_replied {cs : List Chain} {k a : Nat} {ch : Chain} (hk : k < cs.length)
    (ha : a < ch.mirror.length) (y : State) (zs : List Zone) (rest : List InFlight) (d : Nat) (m : Mirror) (b : Bool) :
    (y.withRecords zs (cs.set k (ch.replied rest d a m))).compareHot k a b =
      (y.queueEach (flagReports k a y.timebase.counter .driverHot m.hot b)).withRecords zs
        (cs.set k (ch.replied rest d a { m with hot := b })) := by
  rw [State.compareHot, State.withRecords_chain hk, Chain.replied_record ha]
  exact State.flag_replied hk ha y zs rest d .driverHot (f := fun m => { m with hot := b }) (fun h => h ▸ rfl) rfl

theorem State.compareSupply_replied {cs : List Chain} {k a : Nat} {ch : Chain} (hk : k < cs.length)
    (ha : a < ch.mirror.length) (y : State) (zs : List Zone) (rest : List InFlight) (d : Nat) (m : Mirror) (b : Bool) :
    (y.withRecords zs (cs.set k (ch.replied rest d a m))).compareSupply k a b =
      (y.queueEach (flagReports k a y.timebase.counter .supplyLow m.supplyLow b)).withRecords zs
        (cs.set k (ch.replied rest d a { m with supplyLow := b })) := by
  rw [State.compareSupply, State.withRecords_chain hk, Chain.replied_record ha]
  exact State.flag_replied hk ha y zs rest d .supplyLow (f := fun m => { m with supplyLow := b }) (fun h => h ▸ rfl) rfl

/-- The reports of the two flags of a reply, with record `m` before it. -/
def bothFlagReports (c a n : Nat) (m : Mirror) (p : PollReply) : List ReportEntry :=
  flagReports c a n .driverHot m.hot p.hot ++ flagReports c a n .supplyLow m.supplyLow p.supplyLow

theorem bothFlagReports_plain (c a n : Nat) (m : Mirror) (p : PollReply) : ∀ x ∈ bothFlagReports c a n m p, x.Plain :=
  fun x h => (List.mem_append.1 h).elim (flagReports_plain _ _ _ _ _ _ x) (flagReports_plain _ _ _ _ _ _ x)

/-! ## A reply taken (R132, R133, R140) -/

/-- An interpreted reply: its CHANNEL FAULT reports are offered in turn, then those of its flags. -/
theorem State.interpret_replied {cs : List Chain} {k a : Nat} {ch : Chain} (hk : k < cs.length)
    (ha : a < ch.mirror.length) (x : State) (zs : List Zone) (rest : List InFlight) (d : Nat) (m : Mirror)
    (p : PollReply) :
    ∃ y, ReportsInTurn (faultLead k a x.timebase.counter)
        ⟨k, a, x.timebase.counter, examineRecord zs k a p m, d, ch.late, ch.recoveries⟩
        (inTwos ((confirmedBy zs k a m p).map (faultItem x.timebase.counter))) none x y ∧
      (x.withRecords zs (cs.set k (ch.replied rest d a m))).interpret k a p =
        (y.queueEach (bothFlagReports k a x.timebase.counter m p)).withRecords (setFaults zs (confirmedBy zs k a m p))
          (cs.set k (ch.replied rest d a { examineRecord zs k a p m with hot := p.hot, supplyLow := p.supplyLow })) := by
  obtain ⟨y, hturn, hfaults⟩ := x.reportFaults_inTurn (setFaults zs (confirmedBy zs k a m p))
    (cs.set k (ch.replied rest d a (examineRecord zs k a p m))) k a (confirmedBy zs k a m p) none
  have hcounter : y.timebase = x.timebase := by rw [hturn.onlyReports]
  have hcounter' : ∀ es, (y.queueEach es).timebase = x.timebase := fun es => by
    rw [y.queueEach_onlyReports es, hcounter]
  have hsnap : (x.withRecords (setFaults zs (confirmedBy zs k a m p))
      (cs.set k (ch.replied rest d a (examineRecord zs k a p m)))).snapshotOf k a =
        ⟨k, a, x.timebase.counter, examineRecord zs k a p m, d, ch.late, ch.recoveries⟩ := by
    simp only [State.snapshotOf, State.withRecords_chain hk, Chain.replied_record ha]
    rfl
  have hmarks : State.updChain (x.withRecords (setFaults zs (confirmedBy zs k a m p)) (cs.set k (ch.replied rest d a m)))
      k (fun c => c.updRecord a (examineRecord zs k a p)) =
        x.withRecords (setFaults zs (confirmedBy zs k a m p))
          (cs.set k (ch.replied rest d a (examineRecord zs k a p m))) := by
    rw [State.withRecords_updChain hk, Chain.replied_updRecord ha]
  have hrecord : ((x.withRecords zs (cs.set k (ch.replied rest d a m))).chain k).record a = m := by
    rw [State.withRecords_chain hk, Chain.replied_record ha]
  refine ⟨y, hsnap ▸ hturn, ?_⟩
  rw [State.interpret, hrecord]
  refine (congrArg (fun z : State => ((z.reportFaults k a none (confirmedBy zs k a m p)).compareHot k a
    p.hot).compareSupply k a p.supplyLow) hmarks).trans ?_
  dsimp only
  rw [hfaults, State.compareHot_replied hk ha, State.compareSupply_replied hk ha, hcounter, hcounter',
    ← State.queueEach_append]
  rfl

/-- The part as the reply joins the record of its driver. -/
theorem State.heard_joinReply {s : State} {k : Nat} (hk : k < s.chains.length) (t a : Nat) (rest : List InFlight)
    (p : PollReply) :
    (s.heard t k rest).updChain k (fun ch => ch.updRecord a fun m => m.takeReply p s.timebase.counter) =
      (s.onlyWaits t).withRecords s.zones (s.chains.set k ((s.chain k).replied rest (s.chain k).damaged a
        (((s.chain k).record a).takeReply p s.timebase.counter))) := by
  rw [State.heard_eq, State.withRecords_updChain hk, Chain.updRecord_replied]

/-- The record once an interpreted reply has been dealt with: the reply joined, the candidate marks moved, the flags
taken. -/
def Mirror.interpreted (m : Mirror) (zones : List Zone) (c a n : Nat) (p : PollReply) : Mirror :=
  { examineRecord zones c a p (m.takeReply p n) with hot := p.hot, supplyLow := p.supplyLow }

theorem State.takeReply_interpreted {s : State} {k a : Nat} (hk : k < s.chains.length)
    (ha : a < (s.chain k).mirror.length) (t : Nat) (rest : List InFlight) {p : PollReply}
    (hp : p.openMask &&& p.shortMask = 0) {m m' : Mirror} (hm : m = (s.chain k).record a)
    (hm' : m' = m.interpreted s.zones k a s.timebase.counter p) :
    ∃ y, ReportsInTurn (faultLead k a s.timebase.counter)
        ⟨k, a, s.timebase.counter, { m' with hot := m.hot, supplyLow := m.supplyLow }, (s.chain k).damaged,
          (s.chain k).late, (s.chain k).recoveries⟩
        (inTwos ((confirmedBy s.zones k a m p).map (faultItem s.timebase.counter))) none (s.onlyWaits t) y ∧
      (s.heard t k rest).takeReply k a p =
        (y.queueEach (bothFlagReports k a s.timebase.counter m p)).withRecords (s.faultedZones k a m p)
          (s.chains.set k ((s.chain k).replied rest (s.chain k).damaged a m')) := by
  subst hm hm'
  obtain ⟨y, hturn, htaken⟩ := State.interpret_replied hk ha (s.onlyWaits t) s.zones rest (s.chain k).damaged
    (((s.chain k).record a).takeReply p s.timebase.counter) p
  refine ⟨y, hturn, .trans ?_ htaken⟩
  rw [State.takeReply, if_pos hp]
  exact congrArg (State.interpret · k a p) (State.heard_joinReply hk t a rest p)

/-- The report of a status check (R133). -/
def statusReport (c p n : Nat) (tag : Option SnapTag) : ReportEntry :=
  ⟨.driver c p, .statusCheck, .active, false, false, tag, n⟩

/-- What a status check makes of part `x`: with room its report joins the queue with the tag of a capture of snapshot
`snap`, without room it is lost (R133, R142, R146). -/
def StatusReported (x : State) (c p : Nat) (snap : Snapshot) (y : State) : Prop :=
  (x.reports.queue.length ≤ 31 → ∃ tag buffers, Captures x.reports x.now snap tag buffers ∧
    y = x.withReports ((x.reports.withBuffers buffers).joined [statusReport c p x.timebase.counter tag])) ∧
  (32 ≤ x.reports.queue.length → y = x.queueReport [statusReport c p x.timebase.counter none])

theorem StatusReported.onlyReports {x y : State} {c p : Nat} {snap : Snapshot} (h : StatusReported x c p snap y) :
    OnlyReports x y := by
  obtain ⟨hroom, hfull⟩ := h
  rcases Nat.lt_or_ge 31 x.reports.queue.length with hlength | hlength
  · rw [hfull hlength]
    exact x.queueReport_onlyReports _
  · obtain ⟨tag, buffers, -, rfl⟩ := hroom hlength
    rfl

/-- A status check: the echo counted damaged, then reported. -/
theorem State.statusCheck_replied {cs : List Chain} {k a : Nat} {ch : Chain} (hk : k < cs.length)
    (ha : a < ch.mirror.length) (x : State) (zs : List Zone) (rest : List InFlight) (d : Nat) (m : Mirror) :
    ∃ y, StatusReported x k a ⟨k, a, x.timebase.counter, m, sat16 d, ch.late, ch.recoveries⟩ y ∧
      (x.withRecords zs (cs.set k (ch.replied rest d a m))).statusCheck k a =
        y.withRecords zs (cs.set k (ch.replied rest (sat16 d) a m)) := by
  have hcounted : (x.withRecords zs (cs.set k (ch.replied rest d a m))).updChain k
      (fun c => { c with damaged := sat16 c.damaged }) =
        x.withRecords zs (cs.set k (ch.replied rest (sat16 d) a m)) := by
    rw [State.withRecords_updChain hk]
    rfl
  have hsnap : (x.withRecords zs (cs.set k (ch.replied rest (sat16 d) a m))).snapshotOf k a =
      ⟨k, a, x.timebase.counter, m, sat16 d, ch.late, ch.recoveries⟩ := by
    simp only [State.snapshotOf, State.withRecords_chain hk, Chain.replied_record ha]
    rfl
  have hcheck : (x.withRecords zs (cs.set k (ch.replied rest d a m))).statusCheck k a =
      ((x.withRecords zs (cs.set k (ch.replied rest (sat16 d) a m))).queueSnapReport k a none
        [statusReport k a x.timebase.counter none]).1 :=
    congrArg (fun z : State => (z.queueSnapReport k a none [statusReport k a x.timebase.counter none]).1) hcounted
  rw [hcheck]
  rcases Nat.lt_or_ge 31 x.reports.queue.length with hlength | hlength
  · rw [State.queueSnapReport_lost zs _ k a none (by rw [List.length_nil]; omega)]
    exact ⟨_, ⟨fun h => absurd hlength (Nat.not_lt.2 h), fun _ => rfl⟩, rfl⟩
  · obtain ⟨tag, buffers, -, hcaptures, hqueued⟩ := State.queueSnapReport_queued (x := x) zs
      (cs.set k (ch.replied rest (sat16 d) a m)) k a none (d := statusReport k a x.timebase.counter none) (es := [])
      (by rw [List.length_nil]; omega)
    rw [hqueued]
    refine ⟨_, ⟨fun _ => ⟨tag, buffers, hsnap ▸ hcaptures rfl, ?_⟩, fun h => absurd hlength (Nat.not_le.2 h)⟩, rfl⟩
    exact State.queueReport_joined (x := x.withReports (x.reports.withBuffers buffers))
      (List.cons_ne_nil _ _) (by rw [List.length_singleton]; exact Nat.succ_le_succ hlength)

theorem State.takeReply_statusCheck {s : State} {k a : Nat} (hk : k < s.chains.length)
    (ha : a < (s.chain k).mirror.length) (t : Nat) (rest : List InFlight) {p : PollReply}
    (hp : p.openMask &&& p.shortMask ≠ 0) {m' : Mirror}
    (hm' : m' = ((s.chain k).record a).takeReply p s.timebase.counter) :
    ∃ y, StatusReported (s.onlyWaits t) k a
        ⟨k, a, s.timebase.counter, m', sat16 (s.chain k).damaged, (s.chain k).late, (s.chain k).recoveries⟩ y ∧
      (s.heard t k rest).takeReply k a p =
        y.withRecords s.zones (s.chains.set k ((s.chain k).replied rest (sat16 (s.chain k).damaged) a m')) := by
  subst hm'
  obtain ⟨y, hreported, htaken⟩ := State.statusCheck_replied hk ha (s.onlyWaits t) s.zones rest (s.chain k).damaged
    (((s.chain k).record a).takeReply p s.timebase.counter)
  refine ⟨y, hreported, .trans ?_ htaken⟩
  rw [State.takeReply, if_neg hp]
  exact congrArg (State.statusCheck · k a) (State.heard_joinReply hk t a rest p)

/-! ## The part once a reply has been taken and the line is served -/

/-- The part with reports `x`, zones `zs` and engine `ch` for chain `k`, its line served. -/
def State.afterReply (s x : State) (zs : List Zone) (k : Nat) (ch : Chain) : State :=
  x.withRecords zs (s.chains.set k (ch.serve x.now))

/-- An accepted POLL reply is taken, and the line is served. -/
theorem exec_pollReply {s : State} {k a : Nat} {bits : List Bool} {f : InFlight} {rest : List InFlight} {p : PollReply}
    (t : Nat) (hrunning : (s.chain k).state = .running) (hflight : (s.chain k).inflight = f :: rest)
    (hsent : f.sent = .poll a) (hr : (s.chain k).judge f bits = .accepted (.poll true p)) {x : State} {zs : List Zone}
    {ch : Chain} (htaken : (s.heard t k rest).takeReply k a p = x.withRecords zs (s.chains.set k ch)) :
    exec (.echoEnd t k bits) s = .next (s.afterReply x zs k ch) := by
  have hk : k < s.chains.length := State.lt_chains_of_used (by rw [hrunning]; nofun)
  have haccepted : (s.heard t k rest).acceptReply k f.sent (.poll true p) = (s.heard t k rest).takeReply k a p := by
    rw [hsent]
    rfl
  rw [exec_echoEnd_accepted t (by simp [Chain.checksEchoes, hrunning]) hflight hr, haccepted, htaken, State.serve,
    State.withRecords_updChain hk]
  rfl

theorem State.afterReply_chain {s : State} {k : Nat} (hk : k < s.chains.length) (x : State) (zs : List Zone)
    (ch : Chain) : (s.afterReply x zs k ch).chain k = ch.serve x.now := State.withRecords_chain hk ..

theorem State.afterReply_others (s x : State) (zs : List Zone) (k : Nat) (ch : Chain) :
    Others k s (s.afterReply x zs k ch) :=
  ⟨List.length_set .., fun _ hj => getD_set_ne _ _ _ _ _ hj.symm⟩

theorem State.afterReply_frame {s x : State} {t : Nat} (h : OnlyReports (s.onlyWaits t) x) (zs : List Zone) (k : Nat)
    (ch : Chain) :
    s.afterReply x zs k ch = { s with
      now := max s.now t, zones := zs, chains := s.chains.set k (ch.serve x.now), reports := x.reports
      counters := x.counters } := by
  rw [State.afterReply, State.withRecords, h]
  rfl

theorem State.afterReply_record {s : State} {k a : Nat} (hk : k < s.chains.length) (ha : a < (s.chain k).mirror.length)
    (x : State) (zs : List Zone) (rest : List InFlight) (d : Nat) (m : Mirror) :
    ((s.afterReply x zs k ((s.chain k).replied rest d a m)).chain k).record a = m := by
  rw [State.afterReply_chain hk, Chain.serve_record, Chain.replied_record ha]

theorem State.afterReply_record_other {s : State} {k a b : Nat} (hk : k < s.chains.length) (hb : b ≠ a)
    (x : State) (zs : List Zone) (rest : List InFlight) (d : Nat) (m : Mirror) :
    ((s.afterReply x zs k ((s.chain k).replied rest d a m)).chain k).record b = (s.chain k).record b := by
  rw [State.afterReply_chain hk, Chain.serve_record, Chain.replied_record_other _ hb]

theorem State.afterReply_damaged {s : State} {k : Nat} (hk : k < s.chains.length)
    (x : State) (zs : List Zone) (rest : List InFlight) (d a : Nat) (m : Mirror) :
    ((s.afterReply x zs k ((s.chain k).replied rest d a m)).chain k).damaged = d := by
  rw [State.afterReply_chain hk, Chain.serve_damaged]
  rfl

/-! ## Marks and faults by Table 7-1 -/

theorem MapSound.interpreted_unmapped {s : State} (h : MapSound s) {k a c n : Nat} (hc : c < 16)
    (hunmapped : ∀ i, (s.zone i).channel ≠ some ⟨k, a, c⟩) (m : Mirror) (p : PollReply) :
    (m.interpreted s.zones k a n p).openCand.getLsbD c = m.openCand.getLsbD c ∧
      (m.interpreted s.zones k a n p).shortCand.getLsbD c = m.shortCand.getLsbD c := by
  have hx := h.examineChannel_unmapped hunmapped (m.takeReply p n) p
  exact ⟨(maskOf_getLsbD _ hc).trans (congrArg Prod.fst hx),
    (maskOf_getLsbD _ hc).trans (congrArg (fun x => x.2.1) hx)⟩

/-- The channel of a zone that is OPEN or SHORT keeps its marks, and the zone its record. -/
theorem MapSound.interpreted_faulted {s : State} (h : MapSound s) {k a c i n : Nat} (hc : c < 16)
    (hi : (s.zone i).channel = some ⟨k, a, c⟩) (hf : (s.zone i).fault = .open ∨ (s.zone i).fault = .short) (m : Mirror)
    (p : PollReply) :
    (s.faultedZones k a m p).getD i Zone.fresh = s.zone i ∧
      (m.interpreted s.zones k a n p).openCand.getLsbD c = m.openCand.getLsbD c ∧
      (m.interpreted s.zones k a n p).shortCand.getLsbD c = m.shortCand.getLsbD c := by
  have hx := h.examineChannel_faulted hi hf (m.takeReply p n) p
  refine ⟨h.faultedZones_kept fun c' f hi' hconfirmed => ?_, (maskOf_getLsbD _ hc).trans (congrArg Prod.fst hx),
    (maskOf_getLsbD _ hc).trans (congrArg (fun x => x.2.1) hx)⟩
  obtain ⟨-, hbefore, -⟩ := h.examineChannel_confirms hconfirmed
  rcases hf with hf | hf <;> rw [hf] at hbefore <;> simp at hbefore

/-- Any other mapped channel goes by Table 7-1, and so does its zone. -/
theorem MapSound.interpreted_examined {s : State} (h : MapSound s) {k a c i n : Nat} (hc : c < 16)
    (hi : (s.zone i).channel = some ⟨k, a, c⟩) (hf : (s.zone i).fault = .none ∨ (s.zone i).fault = .missing) {m : Mirror}
    {p : PollReply} {marks : Bool × Bool × Option ZoneFault}
    (hmarks : candidateStep (m.openCand.getLsbD c) (m.shortCand.getLsbD c) (p.openMask.getLsbD c)
      (p.shortMask.getLsbD c) = marks) :
    (m.interpreted s.zones k a n p).openCand.getLsbD c = marks.1 ∧
      (m.interpreted s.zones k a n p).shortCand.getLsbD c = marks.2.1 ∧
      (s.faultedZones k a m p).getD i Zone.fresh = { s.zone i with fault := marks.2.2.getD (s.zone i).fault } := by
  subst hmarks
  have hx := h.examineChannel_examined hi hf (m.takeReply p n) p
  exact ⟨(maskOf_getLsbD _ hc).trans (congrArg Prod.fst hx),
    (maskOf_getLsbD _ hc).trans (congrArg (fun x => x.2.1) hx), h.faultedZones_examined hc hi hf m p⟩

/-- Table 7-1 with no mark held: the marks are what the reply shows, and nothing is confirmed. -/
theorem candidateStep_unmarked {so sh : Bool} (h : (so && sh) = false) :
    candidateStep false false so sh = (so, sh, none) := by
  revert so sh
  decide

/-- Table 7-1 with a mark held: both marks clear, and a channel shown again is confirmed, SHORT where either was. -/
theorem candidateStep_marked {o h : Bool} (hmark : o = true ∨ h = true) (so sh : Bool) :
    candidateStep o h so sh = (false, false,
      if h = true ∨ sh = true then (if so = true ∨ sh = true then some .short else none)
      else if so = true then some .open else none) := by
  revert o h so sh
  decide

/-- Channel `c` of driver `a` of chain `k` once a reply has been interpreted, by Table 7-1. -/
def GoesByTable (s : State) (zs : List Zone) (k a c : Nat) (m m' : Mirror) (p : PollReply) : Prop :=
  ((∀ i, (s.zone i).channel ≠ some ⟨k, a, c⟩) →
    m'.openCand.getLsbD c = m.openCand.getLsbD c ∧ m'.shortCand.getLsbD c = m.shortCand.getLsbD c) ∧
  ∀ i, (s.zone i).channel = some ⟨k, a, c⟩ →
    ((s.zone i).fault = .open ∨ (s.zone i).fault = .short →
      zs.getD i Zone.fresh = s.zone i ∧ m'.openCand.getLsbD c = m.openCand.getLsbD c ∧
      m'.shortCand.getLsbD c = m.shortCand.getLsbD c) ∧
    ((s.zone i).fault = .none ∨ (s.zone i).fault = .missing →
      (m.openCand.getLsbD c = false → m.shortCand.getLsbD c = false →
        m'.openCand.getLsbD c = p.openMask.getLsbD c ∧ m'.shortCand.getLsbD c = p.shortMask.getLsbD c ∧
        zs.getD i Zone.fresh = s.zone i) ∧
      (m.openCand.getLsbD c = true ∨ m.shortCand.getLsbD c = true →
        m'.openCand.getLsbD c = false ∧ m'.shortCand.getLsbD c = false ∧
        zs.getD i Zone.fresh = { s.zone i with
          fault := if m.shortCand.getLsbD c = true ∨ p.shortMask.getLsbD c = true then
              (if p.openMask.getLsbD c = true ∨ p.shortMask.getLsbD c = true then .short else (s.zone i).fault)
            else if p.openMask.getLsbD c = true then .open
            else (s.zone i).fault }))

theorem MapSound.interpreted_goesByTable {s : State} (h : MapSound s) {k a c n : Nat} (hc : c < 16) {m : Mirror}
    {p : PollReply} (hp : p.openMask &&& p.shortMask = 0) :
    GoesByTable s (s.faultedZones k a m p) k a c m (m.interpreted s.zones k a n p) p := by
  refine ⟨fun hunmapped => h.interpreted_unmapped hc hunmapped m p, fun i hi =>
    ⟨fun hf => h.interpreted_faulted hc hi hf m p, fun hf => ⟨fun ho hs => ?_, fun hmark => ?_⟩⟩⟩
  · have hshown : (p.openMask.getLsbD c && p.shortMask.getLsbD c) = false := by
      rw [← BitVec.getLsbD_and, hp, BitVec.ofNat_eq_ofNat, BitVec.getLsbD_zero]
    exact h.interpreted_examined hc hi hf (by rw [ho, hs, candidateStep_unmarked hshown])
  · obtain ⟨hopen, hshort, hzone⟩ := h.interpreted_examined (n := n) hc hi hf (candidateStep_marked hmark _ _)
    refine ⟨hopen, hshort, hzone.trans (congrArg (fun f => { s.zone i with fault := f }) ?_)⟩
    simp only [apply_ite (Option.getD · (s.zone i).fault), Option.getD_some, Option.getD_none]

/-! ## What a reply reports (R136, R138, R139, R142) -/

/-- The CHANNEL FAULT and flag reports of one reply, with room for all. -/
theorem ReportsInTurn.room_flags {d : ReportEntry} (hd : d.overflow = false) {snap : Snapshot} {x y : State}
    {es flags : List ReportEntry} (hes : ∀ e ∈ es, e.Plain) (hflags : ∀ e ∈ flags, e.Plain)
    (h : ReportsInTurn d snap (inTwos es) none x y) {total : Nat}
    (htotal : total = es.length + (es.length + 1) / 2 + flags.length) (hroom : x.reports.queue.length + total ≤ 32) :
    ∃ tag buffers, (es = [] → tag = none ∧ buffers = x.reports.buffers) ∧
      (es ≠ [] → Captures x.reports x.now snap tag buffers) ∧
      (y.queueEach flags).reports = { x.reports with
        queue := x.reports.queue ++ faultReports { d with tag := tag } es ++ flags
        alert := if total ≠ 0 ∧ x.reports.armed = true then true else x.reports.alert
        armed := if total = 0 then x.reports.armed else false
        buffers := buffers } := by
  obtain ⟨tag, buffers, ⟨-, hcapture⟩, hy⟩ := h.room hd hes (by omega)
  obtain ⟨hnone, hsome⟩ := hcapture rfl
  have hlength : (faultReports { d with tag := tag } es ++ flags).length = total := by
    rw [List.length_append, faultReports_length, htotal]
  have hqueue : y.reports.queue.length + flags.length ≤ 32 := by
    rw [List.length_append] at hlength
    rw [hy]
    simp only [ReportUnit.joined, ReportUnit.withBuffers, List.length_append]
    omega
  refine ⟨tag, buffers, hnone, hsome, ?_⟩
  rw [State.queueEach_joined hflags hqueue, State.withReports]
  dsimp only
  rw [hy, ReportUnit.joined_joined, ReportUnit.joined, hlength, List.append_assoc]
  rfl

/-- Where the queue is full nothing is captured, and nothing joins it. -/
theorem ReportsInTurn.lost_flags {d : ReportEntry} {snap : Snapshot} {x y : State} {ess : List (List ReportEntry)}
    (h : ReportsInTurn d snap ess none x y) (flags : List ReportEntry) (hfull : 32 ≤ x.reports.queue.length) :
    (y.queueEach flags).reports.buffers = x.reports.buffers ∧
      (y.queueEach flags).reports.queue.length = x.reports.queue.length := by
  obtain ⟨hbuffers, hlength⟩ := h.lost hfull
  obtain ⟨hbuffers', hlength'⟩ := State.queueEach_lost flags (x := y) (by omega)
  exact ⟨hbuffers'.trans hbuffers, hlength'.trans hlength⟩

/-- The entry of a zone that a reply has confirmed, by its fault afterwards. -/
def zoneItem (zs : List Zone) (n i : Nat) : ReportEntry :=
  ⟨.zone i, if (zs.getD i Zone.fresh).fault = .short then .short else .open, .active, false, false, none, n⟩

/-- The confirmed channels of a reply in order, each with its zone. -/
def confirmedZones (zones : List Zone) (k a : Nat) (m : Mirror) (p : PollReply) : List (Nat × Nat) :=
  (confirmedAt zones k a m p).map fun x => (x.1, x.2.1)

theorem confirmedZones_pairwise (zones : List Zone) (k a : Nat) (m : Mirror) (p : PollReply) :
    (confirmedZones zones k a m p).Pairwise fun x y => x.1 < y.1 :=
  List.pairwise_map.2 (confirmedAt_pairwise zones k a m p)

theorem MapSound.mem_confirmedZones_iff {s : State} (h : MapSound s) {k a c i : Nat} {m : Mirror} {p : PollReply} :
    (c, i) ∈ confirmedZones s.zones k a m p ↔ c < 16 ∧ (s.zone i).channel = some ⟨k, a, c⟩ ∧
      ((s.faultedZones k a m p).getD i Zone.fresh).fault ≠ (s.zone i).fault := by
  rw [← h.mem_confirmedAt_iff_changed]
  simp [confirmedZones]

theorem MapSound.faultItems_eq {s : State} (h : MapSound s) (k a n : Nat) (m : Mirror) (p : PollReply) :
    (confirmedBy s.zones k a m p).map (faultItem n) =
      (confirmedZones s.zones k a m p).map fun x => zoneItem (s.faultedZones k a m p) n x.2 := by
  rw [confirmedBy_eq, confirmedZones, List.map_map, List.map_map]
  refine List.map_congr_left fun x hx => ?_
  obtain ⟨c, i, f⟩ := x
  obtain ⟨hc, hconfirmed⟩ := mem_confirmedAt_iff.1 hx
  obtain ⟨-, -, hf⟩ := h.examineChannel_confirms hconfirmed
  simp only [Function.comp_apply, zoneItem, h.faultedZones_confirmed hc hconfirmed]
  rcases hf with rfl | rfl <;> rfl

theorem zoneItems_plain (zs : List Zone) (n : Nat) (zones : List (Nat × Nat)) :
    ∀ e ∈ zones.map fun x => zoneItem zs n x.2, e.Plain := by
  rintro e he
  obtain ⟨x, -, rfl⟩ := List.mem_map.1 he
  exact ⟨rfl, rfl⟩

/-- A zone that holds no channel of the driver keeps its record. -/
theorem MapSound.faultedZones_elsewhere {s : State} (h : MapSound s) {k a i : Nat}
    (hi : ∀ x, (s.zone i).channel = some x → x.chain = k → x.position ≠ a) (m : Mirror) (p : PollReply) :
    (s.faultedZones k a m p).getD i Zone.fresh = s.zone i :=
  h.faultedZones_kept fun _ _ hchannel _ => hi _ hchannel rfl rfl

/-- A report that finds the queue full sets the overflow flag of the newest entry and is counted lost (R142). -/
theorem State.queueReport_newest {x : State} {es older : List ReportEntry} {newest : ReportEntry}
    (hqueue : x.reports.queue = older ++ [newest]) (hfull : 32 < x.reports.queue.length + es.length) :
    x.queueReport es = { x with
      reports := { x.reports with queue := older ++ [{ newest with overflow := true }] }
      counters := { x.counters with reportsLost := sat16 x.counters.reportsLost } } := by
  have hnewest : x.reports.queue.modify (x.reports.queue.length - 1) (fun e => { e with overflow := true }) =
      older ++ [{ newest with overflow := true }] := by
    rw [hqueue, List.length_append, List.length_singleton, Nat.add_sub_cancel, modify_eq_set _ _ _ newest]
    simp
  rw [State.queueReport_full x es hfull, hnewest]

/-! ## Obligation O56 -/

/-- What every accepted POLL reply leaves, whether interpreted or a status check. -/
theorem State.afterReply_account {s x : State} {t k a : Nat} (hk : k < s.chains.length)
    (ha : a < (s.chain k).mirror.length) (hrunning : (s.chain k).state = .running) (hx : OnlyReports (s.onlyWaits t) x)
    {u : State} {zs : List Zone} {rest : List InFlight} {d : Nat} {m : Mirror}
    (hu : u = s.afterReply x zs k ((s.chain k).replied rest d a m)) :
    (u.chain k).state = .running ∧
      u = { s with
        now := max s.now t, zones := u.zones, chains := u.chains, reports := u.reports, counters := u.counters } ∧
      Others k s u ∧
      u.chain k = Chain.serve { s.chain k with
        inflight := rest, damaged := d, mirror := (s.chain k).mirror.set a ((u.chain k).record a) } u.now := by
  subst hu
  refine ⟨?_, by rw [State.afterReply_frame hx], State.afterReply_others .., ?_⟩
  · rw [State.afterReply_chain hk, Chain.serve_state]
    exact hrunning
  · rw [State.afterReply_record hk ha, State.afterReply_chain hk]
    rfl

/-- Settles O56: a reply is interpreted, or a status check; either way the account of the reports offered is that of the
queue, and the marks and faults go by Table 7-1. -/
theorem pollRepliesFollowTheCandidateTable : Obligations.PollRepliesFollowTheCandidateTable := by
  intro t k a bits f rest p s hmap hrunning hflight hsent hr ha
  have hk : k < s.chains.length := State.lt_chains_of_used (by rw [hrunning]; nofun)
  by_cases hp : p.openMask &&& p.shortMask = 0
  · obtain ⟨y, hturn, htaken⟩ := State.takeReply_interpreted hk ha t rest hp rfl rfl
    have honly := hturn.onlyReports.trans
      (y.queueEach_onlyReports (bothFlagReports k a s.timebase.counter ((s.chain k).record a) p))
    obtain ⟨hstate, hframe, hothers, hchain⟩ := State.afterReply_account hk ha hrunning honly rfl
    refine ⟨_, exec_pollReply t hrunning hflight hsent hr htaken, hstate, setFaults_length _ _, hframe, hothers, ?_, ?_⟩
    · rw [if_pos hp]
      exact hchain
    · have hnow := congrArg State.now hframe
      rintro m m' rfl rfl
      rw [State.afterReply_record hk ha, State.afterReply_damaged hk]
      rw [hmap.faultItems_eq] at hturn
      refine ⟨rfl, rfl, rfl, rfl, rfl, rfl, rfl, fun b hb => State.afterReply_record_other hk hb .., fun h => absurd hp h,
        fun _ => ⟨rfl, rfl, rfl, ⟨_, confirmedZones_pairwise s.zones k a ((s.chain k).record a) p,
          fun c i => hmap.mem_confirmedZones_iff, ?_⟩, fun i hi => hmap.faultedZones_elsewhere hi _ p,
          fun c hc => hmap.interpreted_goesByTable hc hp⟩⟩
      rintro flags rfl total rfl
      refine ⟨fun hroom => ?_, fun hfull => hturn.lost_flags _ hfull, y, hturn, rfl, rfl⟩
      obtain ⟨tag, buffers, hnone, hsome, hreports⟩ := hturn.room_flags rfl (zoneItems_plain _ _ _)
        (bothFlagReports_plain _ _ _ _ _) (by rw [List.length_map]; rfl) hroom
      rw [hnow]
      exact ⟨tag, buffers, fun h => hnone (List.map_eq_nil_iff.2 h), fun h => hsome (mt List.map_eq_nil_iff.1 h), hreports⟩
  · obtain ⟨y, hreported, htaken⟩ := State.takeReply_statusCheck hk ha t rest hp rfl
    obtain ⟨hstate, hframe, hothers, hchain⟩ := State.afterReply_account hk ha hrunning hreported.onlyReports rfl
    refine ⟨_, exec_pollReply t hrunning hflight hsent hr htaken, hstate, rfl, hframe, hothers, ?_, ?_⟩
    · rw [if_neg hp]
      exact hchain
    · rintro m m' rfl rfl
      rw [State.afterReply_record hk ha, State.afterReply_damaged hk]
      refine ⟨rfl, rfl, rfl, rfl, rfl, rfl, rfl, fun b hb => State.afterReply_record_other hk hb .., fun _ =>
        ⟨rfl, rfl, rfl, rfl, rfl, rfl, fun hroom => ?_, fun older newest hqueue hfull => ?_⟩, fun h => absurd h hp⟩
      · obtain ⟨hqueued, -⟩ := hreported
        obtain ⟨tag, buffers, hcaptures, rfl⟩ := hqueued hroom
        exact ⟨tag, buffers, hcaptures, ReportUnit.joined_one _ _, rfl⟩
      · obtain ⟨-, hlost⟩ := hreported
        have hone : 32 < s.reports.queue.length + [statusReport k a s.timebase.counter none].length :=
          Nat.lt_succ_of_le hfull
        rw [(hlost hfull).trans (State.queueReport_newest (x := s.onlyWaits t) hqueue hone)]
        exact ⟨rfl, rfl⟩

end Sys2Proof.Machine

namespace Sys2Proof.Machine

/-! # The thermal unit (chapter 8)

A conversion changes one sensor record and can change one fault mark: the record it leaves is `Sensor.take`, and a
report is queued exactly when the marks before and after differ. -/

/-! ## One sensor (R151 to R153) -/

theorem outOfRange_iff (average : Nat) : outOfRange average = true ↔ average ≤ 8 ∨ 1015 ≤ average := by
  simp [outOfRange]

theorem Sensor.take_of_discard {x : Sensor} (h : x.discard = true) (p : ThermalParams) (code : Nat) :
    x.take p code = { x with discard := false } := if_pos h

theorem Sensor.take_of_kept {x : Sensor} (h : x.discard = false) (p : ThermalParams) (code : Nat) :
    x.take p code = x.join p code := if_neg (Bool.eq_false_iff.1 h)

/-! ## The record of the sensor being converted (R150) -/

/-- The thermal unit after a conversion that leaves the record `y` of the sensor being converted. -/
def Thermal.converted (th : Thermal) (y : Sensor) : Thermal :=
  { th with done := th.done + 1, sensors := th.sensors.set th.current y }

theorem Thermal.convert_eq_converted {th : Thermal} {x : Sensor} (hx : th.sensors[th.current]? = some x) (code : Nat) :
    th.convert code = th.converted (x.take th.params code) := by
  rw [Thermal.convert, Thermal.converted, List.modify_eq_set_getElem?, hx]
  rfl

theorem Thermal.faultMark_of_getElem? {th : Thermal} {i : Nat} {x : Sensor} (hx : th.sensors[i]? = some x) :
    th.faultMark i = x.fault := by
  rw [Thermal.faultMark, List.getD_eq_getElem?_getD, hx, Option.getD_some]

theorem Thermal.converted_faultMark {th : Thermal} (h : th.current < th.sensors.length) (y : Sensor) :
    (th.converted y).faultMark th.current = y.fault :=
  Thermal.faultMark_of_getElem? (List.getElem?_set_self h)

/-! ## The report of a changed fault mark (R152) -/

theorem State.reportSensor_unchanged (s : State) (i : Nat) {before after : Bool} (h : after = before) :
    s.reportSensor i before after = s := if_pos h.symm

theorem State.reportSensor_changed (s : State) (i : Nat) {before after : Bool} (h : after ≠ before) :
    s.reportSensor i before after =
      s.queueReport [s.entry (.sensor i) .sensorFault (if after then .degraded else .recovered)] := if_neg h.symm

/-! ## CONVERSION_COMPLETE (R150 to R153) -/

/-- The part after a conversion that leaves the record `y`, before any report. -/
def State.converted (s : State) (y : Sensor) : State :=
  { s with now := max s.now s.thermal.due, thermal := s.thermal.converted y }

theorem exec_conversionComplete_stopped {s : State} (h : s.thermal.converting = false) (code : BitVec 10) :
    exec (.conversionComplete code) s = .next s := if_neg (Bool.eq_false_iff.1 h)

section
variable {s : State} {x y : Sensor} {code : BitVec 10} (h : s.thermal.converting = true)
  (hx : s.thermal.sensors[s.thermal.current]? = some x) (hy : x.take s.thermal.params code.toNat = y)
include h hx hy

theorem exec_conversionComplete :
    exec (.conversionComplete code) s =
      .next ((s.converted y).reportSensor s.thermal.current x.fault y.fault) := by
  have hlt : s.thermal.current < s.thermal.sensors.length := (List.getElem?_eq_some_iff.1 hx).1
  have hexec : exec (.conversionComplete code) s =
      .next ({ s.arrive s.thermal.due with thermal := s.thermal.convert code.toNat }.reportSensor s.thermal.current
        (s.thermal.faultMark s.thermal.current) ((s.thermal.convert code.toNat).faultMark s.thermal.current)) :=
    if_pos h
  rw [hexec, Thermal.convert_eq_converted hx, hy, Thermal.faultMark_of_getElem? hx, Thermal.converted_faultMark hlt]
  rfl

theorem exec_conversionComplete_markKept (hmark : y.fault = x.fault) :
    exec (.conversionComplete code) s = .next (s.converted y) := by
  rw [exec_conversionComplete h hx hy, State.reportSensor_unchanged _ _ hmark]

theorem exec_conversionComplete_markChanged (hmark : y.fault ≠ x.fault) :
    exec (.conversionComplete code) s =
      .next ((s.converted y).queueReport [s.entry (.sensor s.thermal.current) .sensorFault
        (if y.fault then .degraded else .recovered)]) := by
  rw [exec_conversionComplete h hx hy, State.reportSensor_changed _ _ hmark]
  rfl

end

/-- Settles O58: a discarded code keeps the fault mark, so nothing is reported; after a code that joins the list the
report is queued exactly when the mark formed anew differs from the one before. -/
theorem conversionsFormTheAverage : Obligations.ConversionsFormTheAverage := by
  intro code s
  refine ⟨fun hstopped => exec_conversionComplete_stopped hstopped code, ?_⟩
  rintro h i x rfl hx n rfl
  refine ⟨fun hdiscard => exec_conversionComplete_markKept h hx (Sensor.take_of_discard hdiscard _ _) rfl, ?_⟩
  rintro hkept codes average out rfl rfl hout y rfl
  obtain rfl : out = outOfRange _ := Bool.eq_iff_iff.2 (hout.trans (outOfRange_iff _).symm)
  have htake := Sensor.take_of_kept hkept s.thermal.params code.toNat
  exact ⟨exec_conversionComplete_markKept h hx htake, exec_conversionComplete_markChanged h hx htake⟩

end Sys2Proof.Machine

namespace Sys2Proof.Machine

/-! # The picture port (chapter 9)

Each message ends in `pictureResult`, which for a result other than DONE is the error of R172. A run's result is that of
R165 in SPARSE and of R169 in DENSE, and an accepted run writes its levels in the same way in both. -/

/-! ## Results and errors (R161, R172) -/

/-- A message that ends in a result other than DONE ends in the error of that result (R172). -/
theorem State.pictureResult_error {r : PictureResult} {e : ReportEvent} (h : pictureEvent r = some e) (s : State)
    (t : Nat) : (s.arrive t).pictureResult r = s.pictureError t r e := by
  cases r <;> cases h <;> rfl

/-! ## RESPONSE CAPTURE, STATUS and malformed messages (R162, R163) -/

theorem malformed_iff (bytes : List Byte) (extra : Nat) :
    malformed bytes extra = true ↔ bytes ≠ [] ∧ (0 < extra ∨ pictureLength bytes ≠ some bytes.length) := by
  simp [malformed]

/-- Settles O36. -/
theorem captureStatusAndMalformed : Obligations.CaptureStatusAndMalformed := by
  intro t extra bytes s
  refine ⟨rfl, rfl, fun hne hbad => ?_, fun hfits => if_neg fun hmal => ?_⟩
  · rw [← State.pictureResult_error rfl]
    exact if_pos ((malformed_iff bytes extra).2 ⟨hne, hbad⟩)
  · obtain ⟨hne, hbad⟩ := (malformed_iff bytes extra).1 hmal
    obtain hempty | ⟨hextra, hlength⟩ := hfits
    · exact hne hempty
    · exact hbad.elim (fun hpos => hpos.ne' hextra) fun hnot => hnot hlength

/-! ## Runs (R165 to R167, R169) -/

/-- R165: in SPARSE only the start index is checked. -/
theorem State.runResult_sparse {s : State} (h : s.picture.profile = .sparse) (fine : Bool) (first count : Nat) :
    s.runResult fine first count = if s.grid.count ≤ first then .range
      else if first + count ≤ s.grid.count then .done else .truncated := by
  by_cases h0 : s.grid.count = 0
  · simp [State.runResult, h, h0]
  · simp [State.runResult, h, h0]

/-- R169: in DENSE a run of whole levels is checked for a grid, for its place in the sequence, and for a zone left to
write, in this order. -/
theorem State.runResult_dense {s : State} (h : s.picture.profile = .dense) (first count : Nat) :
    s.runResult false first count = if s.grid.count = 0 then .range
      else if first ≠ s.picture.pointer then .sequence
      else if s.grid.count ≤ first then .range
      else if first + count ≤ s.grid.count then .done else .truncated := by
  simp [State.runResult, h]

/-- A run that is not accepted ends in the error of its result and writes nothing. -/
theorem State.takeRun_refused {s : State} {fine : Bool} {first : Nat} {writes : List (Nat → Nat)} {r : PictureResult}
    {e : ReportEvent} (h : s.runResult fine first writes.length = r) (he : pictureEvent r = some e)
    (hr : r ≠ .truncated) (t : Nat) :
    (s.arrive t).takeRun fine first writes = s.pictureError t r e := by
  rw [← State.pictureResult_error he]
  have harrive : (s.arrive t).runResult fine first writes.length = r := h
  rw [State.takeRun, harrive]
  cases r with
  | done => cases he
  | truncated => exact absurd rfl hr
  | _ => rfl

/-- An accepted run writes its values from its start on, and its result says whether all of them lie in the grid. -/
theorem State.takeRun_writes {s : State} {fine : Bool} {first : Nat} {writes : List (Nat → Nat)}
    (hlen : s.request.openSet.length = s.grid.count)
    (h : s.runResult fine first writes.length =
      if first + writes.length ≤ s.grid.count then .done else .truncated) (t : Nat) :
    RunWrites s t first (s.pointerAfter first writes.length) writes
      (.next ((s.arrive t).takeRun fine first writes)) := by
  refine ⟨writeRun s.request.openSet first writes, (writeRun_length _ _ _).trans hlen,
    fun i hi => writeRun_getD _ _ _ _ (hlen ▸ hi), congrArg _ ?_⟩
  have harrive : (s.arrive t).runResult fine first writes.length = _ := h
  rw [State.takeRun, harrive]
  by_cases hfits : first + writes.length ≤ s.grid.count
  · rw [if_pos hfits, if_pos hfits]
    rfl
  · rw [if_neg hfits, if_neg hfits]
    rfl

theorem run8Level_eq : run8Level = fun v _ => 16 * v.toNat := by
  funext v _
  exact Nat.mul_comm ..

theorem exec_run8 (t first : Nat) (values : List (BitVec 8)) (s : State) :
    exec (.run8 t first values) s =
      .next ((s.arrive t).takeRun false first (values.map fun v _ => 16 * v.toNat)) := by
  rw [← run8Level_eq]
  rfl

/-- In SPARSE a run that starts past the last zone is refused. -/
theorem State.takeRun_sparse_range {s : State} (h : s.picture.profile = .sparse) {first : Nat}
    (hout : s.grid.count ≤ first) (t : Nat) (fine : Bool) (writes : List (Nat → Nat)) :
    (s.arrive t).takeRun fine first writes = s.pictureError t .range .pictureRange :=
  State.takeRun_refused ((State.runResult_sparse h ..).trans (if_pos hout)) rfl nofun t

/-- In SPARSE a run that starts at a zone is written, and the sequence pointer stands. -/
theorem State.takeRun_sparse_writes {s : State} (h : s.picture.profile = .sparse)
    (hlen : s.request.openSet.length = s.grid.count) {first : Nat} (hin : first < s.grid.count) (t : Nat) (fine : Bool)
    (writes : List (Nat → Nat)) :
    RunWrites s t first s.picture.pointer writes (.next ((s.arrive t).takeRun fine first writes)) := by
  have hpointer : s.pointerAfter first writes.length = s.picture.pointer := by rw [State.pointerAfter, h]
  rw [← hpointer]
  exact State.takeRun_writes hlen ((State.runResult_sparse h ..).trans (if_neg (Nat.not_le.2 hin))) t

/-- Settles O37. -/
theorem sparseRunsWriteLevels : Obligations.SparseRunsWriteLevels := by
  intro t first v12 v8 v4 s hsparse hlen
  rw [exec_run8]
  refine ⟨fun hout => ?_, fun hin => ?_⟩
  · have hrange := State.takeRun_sparse_range hsparse hout t
    exact ⟨congrArg _ (hrange false _), congrArg _ (hrange false _), congrArg _ (hrange true _)⟩
  · have hwrites := State.takeRun_sparse_writes hsparse hlen hin t
    exact ⟨hwrites false _, hwrites false _, hwrites true _⟩

/-- In DENSE a run of whole levels without a grid, or with every zone written, is refused RANGE. -/
theorem State.takeRun_dense_range {s : State} (h : s.picture.profile = .dense) {first : Nat}
    (hnone : s.grid.count = 0 ∨ (first = s.picture.pointer ∧ s.grid.count ≤ first)) (t : Nat)
    (writes : List (Nat → Nat)) :
    (s.arrive t).takeRun false first writes = s.pictureError t .range .pictureRange := by
  refine State.takeRun_refused (r := .range) ?_ rfl nofun t
  rw [State.runResult_dense h]
  obtain h0 | ⟨hpointer, hend⟩ := hnone
  · rw [if_pos h0]
  · rw [if_neg (not_not.2 hpointer), if_pos hend, ite_self]

/-- In DENSE a run of whole levels out of sequence is refused SEQUENCE. -/
theorem State.takeRun_dense_sequence {s : State} (h : s.picture.profile = .dense) {first : Nat}
    (hgrid : s.grid.count ≠ 0) (hpointer : first ≠ s.picture.pointer) (t : Nat) (writes : List (Nat → Nat)) :
    (s.arrive t).takeRun false first writes = s.pictureError t .sequence .pictureSequence := by
  refine State.takeRun_refused (r := .sequence) ?_ rfl nofun t
  rw [State.runResult_dense h, if_neg hgrid, if_pos hpointer]

/-- In DENSE a run of whole levels in sequence is written, and the pointer moves to the index after the last zone
written. -/
theorem State.takeRun_dense_writes {s : State} (h : s.picture.profile = .dense)
    (hlen : s.request.openSet.length = s.grid.count) {first : Nat} (hpointer : first = s.picture.pointer)
    (hin : first < s.grid.count) (t : Nat) (writes : List (Nat → Nat)) :
    RunWrites s t first (min (first + writes.length) s.grid.count) writes
      (.next ((s.arrive t).takeRun false first writes)) := by
  have hafter : s.pointerAfter first writes.length = min (first + writes.length) s.grid.count := by
    rw [State.pointerAfter, h]
  rw [← hafter]
  refine State.takeRun_writes hlen ?_ t
  rw [State.runResult_dense h, if_neg (Nat.ne_zero_of_lt hin), if_neg (not_not.2 hpointer), if_neg (Nat.not_le.2 hin)]

/-- In DENSE FINE4 is refused. -/
theorem State.takeRun_dense_fine {s : State} (h : s.picture.profile = .dense) (t first : Nat)
    (writes : List (Nat → Nat)) :
    (s.arrive t).takeRun true first writes = s.pictureError t .wrongProfile .pictureWrongProfile :=
  State.takeRun_refused (if_pos ⟨h, rfl⟩) rfl nofun t

/-- In DENSE NUDGE is refused. -/
theorem exec_nudge_dense {s : State} (h : s.picture.profile = .dense) (t : Nat) (r : Rect) (d : BitVec 8) :
    exec (.nudge t r d) s = .next (s.pictureError t .wrongProfile .pictureWrongProfile) := if_pos h

/-- Settles O38. -/
theorem denseRunsFollowTheSequence : Obligations.DenseRunsFollowTheSequence := by
  intro t first v12 v8 v4 r d s hdense hlen
  rw [exec_run8]
  refine ⟨congrArg _ (State.takeRun_dense_fine hdense ..), exec_nudge_dense hdense t r d, fun hnone => ?_,
    fun hgrid hpointer => ?_, fun hpointer hin => ?_⟩
  · have hrange := State.takeRun_dense_range hdense hnone t
    exact ⟨congrArg _ (hrange _), congrArg _ (hrange _)⟩
  · have hsequence := State.takeRun_dense_sequence hdense hgrid hpointer t
    exact ⟨congrArg _ (hsequence _), congrArg _ (hsequence _)⟩
  · rw [← v12.length_map (f := fun v (_ : Nat) => v.toNat), ← v8.length_map (f := fun v (_ : Nat) => 16 * v.toNat)]
    have hwrites := State.takeRun_dense_writes hdense hlen hpointer hin t
    exact ⟨hwrites _, hwrites _⟩

/-! ## NUDGE and CLOSE (R168, R170) -/

theorem rectOrdered_iff (r : Rect) : rectOrdered r = true ↔ r.col0 ≤ r.col1 ∧ r.row0 ≤ r.row1 := by
  simp [rectOrdered]

theorem rectHolds_clampRect_iff (g : Grid) (r : Rect) (i : Nat) :
    rectHolds g (clampRect g r) i = true ↔
      min r.col0 (g.cols - 1) ≤ i % g.cols ∧ i % g.cols ≤ min r.col1 (g.cols - 1) ∧
        min r.row0 (g.rows - 1) ≤ i / g.cols ∧ i / g.cols ≤ min r.row1 (g.rows - 1) := by
  simp [rectHolds, rectCovers, clampRect, Grid.col, Grid.row, and_assoc]

/-- The exact sum, held to 0 from below and to 4095 from above (R168). -/
theorem nudgeLevel_eq (d : BitVec 8) (l : Nat) : (nudgeLevel d l : Int) = max 0 (min ((l : Int) + d.toInt) 4095) :=
  Int.toNat_of_nonneg (le_max_left ..)

theorem nudgeLevels_getD (g : Grid) (r : Rect) (d : BitVec 8) (l : List Nat) {i : Nat} (h : i < l.length) :
    (nudgeLevels g r d l).getD i 0 = if rectHolds g r i then nudgeLevel d (l.getD i 0) else l.getD i 0 := by
  simp [nudgeLevels, h]

theorem exec_nudge_range {s : State} (hsparse : s.picture.profile = .sparse) {r : Rect}
    (hout : s.grid.count = 0 ∨ r.col1 < r.col0 ∨ r.row1 < r.row0) (t : Nat) (d : BitVec 8) :
    exec (.nudge t r d) s = .next (s.pictureError t .range .pictureRange) := by
  have hrange : s.grid.count = 0 ∨ (!rectOrdered r) = true := by
    rw [Bool.not_eq_true', ← Bool.not_eq_true, rectOrdered_iff]
    omega
  exact (if_neg (by simp [hsparse])).trans (if_pos hrange)

theorem exec_nudge_accepted {s : State} (hsparse : s.picture.profile = .sparse) (hgrid : s.grid.count ≠ 0) {r : Rect}
    (hcols : r.col0 ≤ r.col1) (hrows : r.row0 ≤ r.row1) (t : Nat) (d : BitVec 8) :
    exec (.nudge t r d) s = .next { s with
      now := max s.now t
      request := { s.request with openSet := nudgeLevels s.grid (clampRect s.grid r) d s.request.openSet }
      picture := { s.picture with result := .done } } := by
  have hok : ¬ (s.grid.count = 0 ∨ (!rectOrdered r) = true) := by
    simp [hgrid, (rectOrdered_iff r).2 ⟨hcols, hrows⟩]
  exact (if_neg (by simp [hsparse])).trans (if_neg hok)

/-- CLOSE fills the slot, and a set that waits there is overtaken and counted (R14). -/
theorem State.closeSet_eq (s : State) (tag : Nat) (cut : Bool) :
    s.closeSet tag cut = { s with
      request := { s.request with slot := some ⟨s.request.openSet, tag, cut⟩ }
      counters := if s.request.slot = none then s.counters
        else { s.counters with overtaken := sat16 s.counters.overtaken } } := by
  unfold State.closeSet
  cases s.request.slot <;> rfl

/-- Settles O39. -/
theorem nudgeAndClose : Obligations.NudgeAndClose := by
  intro t r d tag cut s hlen
  refine ⟨fun hdense => exec_nudge_dense hdense t r d, fun hsparse hout => exec_nudge_range hsparse hout t d,
    fun hsparse hgrid hcols hrows => ⟨_, exec_nudge_accepted hsparse hgrid hcols hrows t d,
      (List.length_mapIdx).trans hlen, fun i hi => ?_⟩,
    fun hdense hpart => if_pos ⟨hdense, hpart⟩, fun hwhole => ?_⟩
  · rw [nudgeLevels_getD _ _ _ _ (hlen ▸ hi), Nat.cast_ite, nudgeLevel_eq]
    exact if_congr (rectHolds_clampRect_iff ..) rfl rfl
  · have hclose : ¬ (s.picture.profile = .dense ∧ s.picture.pointer < s.grid.count) := by
      rintro ⟨hdense, hpart⟩
      exact hwhole.elim (fun hsparse => by cases hsparse.symm.trans hdense) (Nat.not_le.2 hpart)
    have hexec : exec (.close t tag cut) s = .next ({ (s.arrive t).closeSet tag.toNat cut with
        picture := { s.picture with pointer := 0, errorMark := false } }.pictureResult .done) := if_neg hclose
    rw [hexec, State.closeSet_eq]
    rfl

end Sys2Proof.Machine

namespace Sys2Proof.Machine

/-! # Every command completes (0.6.6)

None of the operations that the commands share touches the queue or turns time back, so a command completes as soon as
each of its branches ends in one of them. -/

/-- The queue stands as it was, and time has not turned back. -/
structure QueueKept (s u : State) : Prop where
  pending : u.pending = s.pending := by simp
  now : s.now ≤ u.now := by simp

/-- The outcome is a next state, with the queue of `s` and no earlier than `s`. -/
def Completes (o : Host.Outcome State Fault Refusal) (s : State) : Prop := ∃ u, o = .next u ∧ QueueKept s u

theorem Completes.next {s u : State} (h : QueueKept s u) : Completes (.next u) s := ⟨u, rfl, h⟩

theorem Completes.ite {s : State} {c : Prop} [Decidable c] {a b : Host.Outcome State Fault Refusal}
    (ha : Completes a s) (hb : Completes b s) : Completes (if c then a else b) s := by
  split
  · exact ha
  · exact hb

/-! ## Commands that look something up -/

section
variable (t c k : Nat) (s : State)

theorem execClearFault_completes (z : Nat) : Completes (execClearFault t z s) s := by
  unfold execClearFault
  refine .ite (.next {}) ?_
  split <;> exact .next {}

theorem execTakeReport_completes : Completes (execTakeReport t s) s := by
  unfold execTakeReport
  dsimp only
  split <;> exact .next {}

theorem execReadSnapshot_completes (b g : Nat) : Completes (execReadSnapshot t b g s) s := by
  unfold execReadSnapshot
  refine .ite (.next {}) ?_
  split <;> exact .next {}

theorem execSnapshotHoldExpiry_completes (b : Nat) : Completes (execSnapshotHoldExpiry b s) s := by
  unfold execSnapshotHoldExpiry
  split <;> exact .next {}

theorem execPictureWindow_completes (w : WindowFields) : Completes (execPictureWindow t w s) s := by
  unfold execPictureWindow
  dsimp only
  split <;> exact .next {}

theorem execPanelWindow_completes (w : WindowFields) : Completes (execPanelWindow t w s) s := by
  unfold execPanelWindow
  dsimp only
  split <;> exact .next {}

theorem execOutgoingMessageEnd_completes : Completes (execOutgoingMessageEnd s) s := by
  unfold execOutgoingMessageEnd
  split <;> exact .next {}

theorem execFsyncEdge_completes : Completes (execFsyncEdge t s) s := by
  unfold execFsyncEdge
  refine .ite (.next {}) (.ite (.next {}) ?_)
  split <;> exact .next {}

theorem execGeneratedFrameStart_completes : Completes (execGeneratedFrameStart s) s := by
  cases hd : s.timebase.pendingStart with
  | none =>
    rw [execGeneratedFrameStart_idle hd]
    exact .next {}
  | some d =>
    rw [execGeneratedFrameStart_pending hd]
    exact .next {}

theorem execHoldoverEntry_completes : Completes (execHoldoverEntry s) s := by
  cases hd : s.timebase.holdoverDue with
  | none =>
    rw [execHoldoverEntry_idle hd]
    exact .next {}
  | some d =>
    rw [execHoldoverEntry_due hd]
    exact .next {}

theorem execEmissionBlock_completes : Completes (execEmissionBlock s) s := by
  by_cases hp : s.pass.phase = .emitting
  · rw [execEmissionBlock_emitting hp]
    exact .next { pending := rfl, now := Nat.le_max_left .. }
  · rw [execEmissionBlock, if_neg hp]
    exact .next {}

theorem execCommitPoint_completes : Completes (execCommitPoint k s) s := by
  unfold execCommitPoint
  split
  · exact .next {}
  · exact .ite (.next {}) (.next {})

theorem execLatchPoint_completes : Completes (execLatchPoint k s) s := by
  unfold execLatchPoint
  split
  · exact .next {}
  · exact .ite (.next {}) (.next {})

theorem execEchoBegin_completes : Completes (execEchoBegin t c s) s := by
  unfold execEchoBegin
  refine .ite (.next {}) ?_
  split <;> exact .next {}

theorem execEchoOverdue_completes : Completes (execEchoOverdue c s) s := by
  unfold execEchoOverdue
  split
  · exact .next {}
  · exact .ite (.next {}) (.next {})

theorem execAttemptBegin_completes : Completes (execAttemptBegin c s) s := by
  unfold execAttemptBegin
  split <;> exact .next {}

theorem execRunningTimerExpiry_completes : Completes (execRunningTimerExpiry c s) s := by
  unfold execRunningTimerExpiry
  split <;> exact .next {}

theorem execPollTick_completes : Completes (execPollTick c s) s := by
  unfold execPollTick
  split <;> exact .next {}

end

/-! ## Every command -/

theorem exec_completes (c : Instr) (s : State) : Completes (exec c s) s := by
  cases c with
  | powerOn t => exact .next { pending := rfl, now := Nat.le_max_left .. }
  | setGrid t cols rows => exact .ite (.next {}) (.ite (.next {}) (.ite (.next {}) (.next {})))
  | setChain t c d w sensor => exact .ite (.next {}) (.ite (.next {}) (.next {}))
  | mapZone t z c p k => exact .ite (.next {}) (.ite (.next {}) (.ite (.next {}) (.next {})))
  | unmapZone t z => exact .ite (.next {}) (.ite (.next {}) (.next {}))
  | setGroups t g offsets lead => exact .ite (.next {}) (.ite (.next {}) (.next {}))
  | setProfile t profile => exact .ite (.next {}) (.next {})
  | setPower t budget => exact .next {}
  | setEasing t rise fall => exact .ite (.next {}) (.next {})
  | setService t pollUs holdMs => exact .ite (.next {}) (.next {})
  | setThermal t p => exact .ite (.next {}) (.next {})
  | setTimebase t f => exact .ite (.next {}) (.next {})
  | followSync t => exact .next {}
  | freeRun t => exact .next {}
  | loadGains t start gains => exact .ite (.next {}) (.next {})
  | setOverride t z l => exact .ite (.next {}) (.next {})
  | clearOverride t z => exact .ite (.next {}) (.next {})
  | clearFault t z => exact execClearFault_completes t s z
  | clearWindows t => exact .next {}
  | start t => exact .ite (.next {}) (.ite (.next {}) (.next {}))
  | stop t => exact .next {}
  | restartChain t c => exact .ite (.next {}) (.ite (.next {}) (.ite (.next {}) (.next {})))
  | driverTrim t c a code => exact .next {}
  | driverIdent t c a => exact .next {}
  | systemBlank t on => exact .next {}
  | takeReport t => exact execTakeReport_completes t s
  | readSnapshot t b g => exact execReadSnapshot_completes t s b g
  | probe t z mode => exact .ite (.next {}) (.next {})
  | readProbe t => exact .next {}
  | readZone t z => exact .ite (.next {}) (.next {})
  | readCounters t => exact .next {}
  | readState t => exact .next {}
  | softRestart t => exact .next {}
  | unknownCommandWrite t bytes => exact .ite (.next {}) (.next {})
  | responseCapture t => exact .next {}
  | run12 t start values => exact .next {}
  | run8 t start values => exact .next {}
  | fine4 t start values => exact .next {}
  | nudge t r delta => exact .ite (.next {}) (.ite (.next {}) (.next {}))
  | close t tag cut => exact .ite (.next {}) (.next {})
  | pictureWindow t w => exact execPictureWindow_completes t s w
  | pictureUnwindow t n => exact .ite (.next {}) (.next {})
  | pictureBlank t on => exact .next {}
  | status t => exact .next {}
  | malformedMessage t bytes n => exact .ite (.next {}) (.next {})
  | hold t m => exact .ite (.next {}) (.next {})
  | resume t => exact .next {}
  | panelWindow t w => exact execPanelWindow_completes t s w
  | panelUnwindow t n => exact .ite (.next {}) (.next {})
  | panelBlank t on => exact .next {}
  | messageDiscarded t reason => exact .next {}
  | outgoingMessageEnd => exact execOutgoingMessageEnd_completes s
  | fsyncEdge t => exact execFsyncEdge_completes t s
  | generatedFrameStart => exact execGeneratedFrameStart_completes s
  | holdoverEntry => exact execHoldoverEntry_completes s
  | holdExpired => exact .ite (.next {}) (.next {})
  | problemFrames c => exact .ite (.next {}) (.next {})
  | compositionEnd => exact .ite (.next {}) (.next {})
  | limitingEnd => exact .ite (.next {}) (.next {})
  | emissionBlock => exact execEmissionBlock_completes s
  | commitPoint k => exact execCommitPoint_completes k s
  | latchPoint k => exact execLatchPoint_completes k s
  | frameBoundary c => exact .ite (.next {}) (.next {})
  | echoEnd t c bits => exact .ite (.next {}) (.next {})
  | echoOverdue c => exact execEchoOverdue_completes c s
  | loopLost t c => exact .ite (.next {}) (.next {})
  | attemptBegin c => exact execAttemptBegin_completes c s
  | runningTimerExpiry c => exact execRunningTimerExpiry_completes c s
  | pollTick c => exact execPollTick_completes c s
  | conversionComplete code => exact .ite (.next {}) (.next {})
  | snapshotHoldExpiry b => exact execSnapshotHoldExpiry_completes s b
  | echoBegin t c => exact execEchoBegin_completes t c s

/-- Settles O2. -/
theorem everyCommandCompletes : Obligations.EveryCommandCompletes := by
  intro c s
  obtain ⟨u, hu, hpending, hnow⟩ := exec_completes c s
  exact ⟨u, hu, hpending, hnow⟩

end Sys2Proof.Machine

namespace Sys2Proof.Machine

/-! # The outgoing panel line (R173, R177 to R179)

Whatever is placed at the port, the line is served next, so nothing is left waiting on an idle line
(`panelSound_of_served`). Few operations place anything there; all others leave the port as it is. -/

/-! ## What the port serves -/

/-- A port that has been served has only taken from its queues, and on an idle line nothing waits (R179). -/
theorem PanelPort.serve_spec (p : PanelPort) (now : Nat) :
    (p.serve now).sections.length ≤ p.sections.length ∧ (p.serve now).notices.length ≤ p.notices.length ∧
      ((p.serve now).sending = none →
        (p.serve now).sections = [] ∧ (p.serve now).notices = [] ∧ (p.serve now).holdEnded = false) := by
  cases hs : p.sending with
  | some x => simp [p.serve_busy now x hs, hs]
  | none =>
    obtain ⟨hended, hrest⟩ := p.serve_idle now hs
    cases hh : p.holdEnded with
    | true => simp [hended hh]
    | false =>
      obtain ⟨hnotice, hsection⟩ := hrest hh
      cases hn : p.notices with
      | cons n rest => simp [hnotice n rest hn]
      | nil =>
        obtain ⟨hbegun, hnone⟩ := hsection hn
        cases hb : p.sections with
        | cons b rest => simp [hbegun b rest hb, hn]
        | nil => simp [hnone hb, hb, hn, hh]

/-- A panel port that has just been served is sound where no more than eight sections and notices waited. -/
theorem panelSound_of_served {u : State} {p : PanelPort} {now : Nat} (h : u.panel = p.serve now)
    (hsections : p.sections.length ≤ 8) (hnotices : p.notices.length ≤ 8) : PanelSound u := by
  obtain ⟨hs, hn, hidle⟩ := p.serve_spec now
  exact ⟨h ▸ hs.trans hsections, h ▸ hn.trans hnotices, h ▸ hidle⟩

/-! ## What keeps the panel port sound -/

/-- The panel port is sound afterwards if it was before. -/
def PanelKept (s u : State) : Prop := PanelSound s → PanelSound u

theorem PanelKept.same {s u : State} (h : u.panel = s.panel) : PanelKept s u := fun hs =>
  ⟨h ▸ hs.sections, h ▸ hs.notices, h ▸ hs.busy⟩

theorem PanelKept.trans {s t u : State} (h : PanelKept s t) (k : PanelKept t u) : PanelKept s u := k ∘ h

/-- `PanelKept.trans` with the later move first, so that a proof reads from the outermost operation inwards. -/
theorem PanelKept.after {s t u : State} (k : PanelKept t u) (h : PanelKept s t) : PanelKept s u := h.trans k

theorem State.queueSection_panelKept (s : State) (b : LightSection) : PanelKept s (s.queueSection b) := by
  intro hs
  have hsections := hs.sections
  unfold State.queueSection
  split
  · exact panelSound_of_served rfl (by simpa) hs.notices
  · exact panelSound_of_served rfl (by simp; omega) hs.notices

theorem State.placeNotice_panelKept (s : State) (n : WindowNotice) : PanelKept s (s.placeNotice n) := by
  intro hs
  unfold State.placeNotice
  split
  · exact panelSound_of_served rfl hs.sections (by simpa)
  · exact panelSound_of_served rfl hs.sections hs.notices

theorem State.markHoldEnded_panelKept (s : State) : PanelKept s s.markHoldEnded := fun hs =>
  panelSound_of_served rfl hs.sections hs.notices

/-! ## Commit points and frame starts (R52, R63 to R71) -/

theorem State.commitGroup_panelKept (s : State) (k : Nat) : PanelKept s (s.commitGroup k) :=
  .after (State.queueSection_panelKept _ _) (.same rfl)

theorem State.commitGroups_panelKept (ks : List Nat) : ∀ s : State, PanelKept s (s.commitGroups ks) := by
  induction ks with
  | nil => exact fun _ => id
  | cons k ks ih => exact fun s => (s.commitGroup_panelKept k).trans (ih _)

theorem State.moveHold_panelKept (s : State) : PanelKept s s.moveHold := by
  by_cases h : s.schedule.holdExpires = true
  · rw [State.moveHold_expired h]
    exact .after (.same (by simp)) (.after (State.markHoldEnded_panelKept _) (.same rfl))
  · rw [State.moveHold, if_neg h]
    exact .same rfl

theorem State.maybePass_panelKept (s : State) : PanelKept s s.maybePass := by
  unfold State.maybePass
  split
  · exact .after (State.commitGroups_panelKept _ _) (.same (by simp))
  · exact .same rfl

theorem State.ready_panelKept (s : State) : PanelKept s s.ready := by
  have hbefore : s.closed.endPeriods.panel = s.panel := by simp [State.closed]
  have hafter : s.ready.panel = s.closed.endPeriods.moveHold.panel := by simp [State.ready]
  exact .after (.same hafter) (.after (State.moveHold_panelKept _) (.same hbefore))

theorem State.deliverFrame_panelKept (s : State) : PanelKept s s.deliverFrame :=
  .after (.same (State.serveAll_panel _)) (.after (State.maybePass_panelKept _) s.ready_panelKept)

theorem State.frameStart_panelKept (s : State) : PanelKept s s.frameStart :=
  .after (State.deliverFrame_panelKept _) (.same rfl)

theorem State.edgeFrame_panelKept (s : State) : PanelKept s s.edgeFrame := by
  unfold State.edgeFrame
  split
  · exact s.frameStart_panelKept
  · exact .same rfl

theorem State.acquireEdge_panelKept (s : State) : PanelKept s s.acquireEdge := by
  unfold State.acquireEdge
  split
  · exact .same rfl
  · split
    · exact .same rfl
    · exact .after (State.edgeFrame_panelKept _) (.same rfl)

theorem State.lockedEdge_panelKept (s : State) : PanelKept s s.lockedEdge := by
  unfold State.lockedEdge
  split <;> exact .after (State.edgeFrame_panelKept _) (.same rfl)

theorem State.holdoverEdge_panelKept (s : State) : PanelKept s s.holdoverEdge := by
  unfold State.holdoverEdge
  dsimp only
  split
  · exact .after (State.deliverFrame_panelKept _) (.same (by simp))
  · exact .same (by simp)

/-! ## Commands that place a message, end one, or begin a frame -/

/-- A command that comes to an operation with the panel port as it was. -/
theorem Yields.panelKept {s x u : State} (h : PanelKept x u) (hx : x.panel = s.panel := by rfl) :
    Yields (.next u) (PanelKept s) := .next (h.after (.same hx))

theorem Yields.samePanelKept {s u : State} (h : u.panel = s.panel := by rfl) : Yields (.next u) (PanelKept s) :=
  .next (.same h)

theorem execPanelWindow_panelKept (t : Nat) (w : WindowFields) (s : State) :
    Yields (execPanelWindow t w s) (PanelKept s) := by
  unfold execPanelWindow
  dsimp only
  split
  · exact .samePanelKept
  · exact .panelKept (State.placeNotice_panelKept _ _)

theorem execOutgoingMessageEnd_panelKept (s : State) : Yields (execOutgoingMessageEnd s) (PanelKept s) := by
  unfold execOutgoingMessageEnd
  split
  · exact .samePanelKept
  · exact .next fun hs =>
      panelSound_of_served (p := { s.panel with sending := none }) rfl hs.sections hs.notices

theorem execFsyncEdge_panelKept (t : Nat) (s : State) : Yields (execFsyncEdge t s) (PanelKept s) := by
  unfold execFsyncEdge
  dsimp only
  refine .ite .samePanelKept (.ite .samePanelKept ?_)
  split
  · exact .samePanelKept
  · exact .panelKept (State.acquireEdge_panelKept _)
  · exact .panelKept (State.lockedEdge_panelKept _)
  · exact .panelKept (State.holdoverEdge_panelKept _)

theorem execGeneratedFrameStart_panelKept (s : State) : Yields (execGeneratedFrameStart s) (PanelKept s) := by
  unfold execGeneratedFrameStart
  split
  · exact .samePanelKept
  · dsimp only
    split <;> exact .panelKept (State.frameStart_panelKept _)

theorem execHoldoverEntry_panelKept (s : State) : Yields (execHoldoverEntry s) (PanelKept s) := by
  unfold execHoldoverEntry
  split
  · exact .samePanelKept
  · exact .panelKept (State.deliverFrame_panelKept _) (by simp)

theorem execCommitPoint_panelKept (k : Nat) (s : State) : Yields (execCommitPoint k s) (PanelKept s) := by
  unfold execCommitPoint
  split
  · exact .samePanelKept
  · exact .ite .samePanelKept (.panelKept (State.commitGroups_panelKept _ _))

/-! ## Every command -/

/-- The commands that may change the panel port: a starting point, the messages that are answered by a notice, the end of
an outgoing message, and what may end HOLD or reach a commit point. -/
def movesPanel : Instr → Bool
  | .powerOn _ | .panelWindow _ _ | .panelUnwindow _ _ | .outgoingMessageEnd | .fsyncEdge _ | .generatedFrameStart
  | .holdoverEntry | .holdExpired | .commitPoint _ => true
  | _ => false

/-- The outcome leaves the panel port as it was in `s`. -/
def LeavesPanel (s : State) (o : Host.Outcome State Fault Refusal) : Prop := Yields o fun u => u.panel = s.panel

theorem LeavesPanel.next {s u : State} (h : u.panel = s.panel := by simp) : LeavesPanel s (.next u) := Yields.next h

theorem LeavesPanel.ite {s : State} {c : Prop} [Decidable c] {a b : Host.Outcome State Fault Refusal}
    (ha : LeavesPanel s a) (hb : LeavesPanel s b) : LeavesPanel s (if c then a else b) := Yields.ite ha hb

/-- Every other command leaves the panel port as it is. -/
theorem exec_leavesPanel (c : Instr) (s : State) (hc : movesPanel c = false) : LeavesPanel s (exec c s) := by
  cases c with
  | setGrid t cols rows => exact .ite .next (.ite .next (.ite .next .next))
  | setChain t c d w sensor => exact .ite .next (.ite .next .next)
  | mapZone t z c p k => exact .ite .next (.ite .next (.ite .next .next))
  | unmapZone t z => exact .ite .next (.ite .next .next)
  | setGroups t g offsets lead => exact .ite .next (.ite .next .next)
  | setProfile t profile => exact .ite .next .next
  | setPower t budget => exact .next
  | setEasing t rise fall => exact .ite .next .next
  | setService t pollUs holdMs => exact .ite .next .next
  | setThermal t p => exact .ite .next .next
  | setTimebase t f => exact .ite .next .next
  | followSync t => exact .next
  | freeRun t => exact .next
  | loadGains t start gains => exact .ite .next .next
  | setOverride t z l => exact .ite .next .next
  | clearOverride t z => exact .ite .next .next
  | clearFault t z =>
    refine .ite .next ?_
    split <;> exact .next
  | clearWindows t => exact .next
  | start t => exact .ite .next (.ite .next .next)
  | stop t => exact .next
  | restartChain t c => exact .ite .next (.ite .next (.ite .next .next))
  | driverTrim t c a code => exact .next
  | driverIdent t c a => exact .next
  | systemBlank t on => exact .next
  | takeReport t =>
    simp only [exec, execTakeReport]
    split <;> exact .next
  | readSnapshot t b g =>
    refine .ite .next ?_
    split <;> exact .next
  | probe t z mode => exact .ite .next .next
  | readProbe t => exact .next
  | readZone t z => exact .ite .next .next
  | readCounters t => exact .next
  | readState t => exact .next
  | softRestart t => exact .next
  | unknownCommandWrite t bytes => exact .ite .next .next
  | responseCapture t => exact .next
  | run12 t start values => exact .next
  | run8 t start values => exact .next
  | fine4 t start values => exact .next
  | nudge t r delta => exact .ite .next (.ite .next .next)
  | close t tag cut => exact .ite .next .next
  | pictureWindow t w =>
    simp only [exec, execPictureWindow]
    split <;> exact .next
  | pictureUnwindow t n => exact .ite .next .next
  | pictureBlank t on => exact .next
  | status t => exact .next
  | malformedMessage t bytes n => exact .ite .next .next
  | hold t m => exact .ite .next .next
  | resume t => exact .next
  | panelBlank t on => exact .next
  | messageDiscarded t reason => exact .next
  | problemFrames c => exact .ite .next .next
  | compositionEnd => exact .ite .next .next
  | limitingEnd => exact .ite .next .next
  | emissionBlock =>
    by_cases hp : s.pass.phase = .emitting
    · rw [exec, execEmissionBlock_emitting hp]
      exact .next rfl
    · rw [exec, execEmissionBlock, if_neg hp]
      exact .next
  | latchPoint k =>
    simp only [exec, execLatchPoint]
    split
    · exact .next
    · exact .ite .next .next
  | frameBoundary c => exact .ite .next .next
  | echoEnd t c bits => exact .ite .next .next
  | echoOverdue c =>
    simp only [exec, execEchoOverdue]
    split
    · exact .next
    · exact .ite .next .next
  | loopLost t c => exact .ite .next .next
  | attemptBegin c =>
    simp only [exec, execAttemptBegin]
    split <;> exact .next
  | runningTimerExpiry c =>
    simp only [exec, execRunningTimerExpiry]
    split <;> exact .next
  | pollTick c =>
    simp only [exec, execPollTick]
    split <;> exact .next
  | conversionComplete code => exact .ite .next .next
  | snapshotHoldExpiry b =>
    simp only [exec, execSnapshotHoldExpiry]
    split <;> exact .next
  | echoBegin t c =>
    refine .ite .next ?_
    split <;> exact .next
  | _ => cases hc

theorem exec_panelKept (c : Instr) (s : State) : Yields (exec c s) (PanelKept s) := by
  cases hc : movesPanel c with
  | false => exact fun u hu => .same (exec_leavesPanel c s hc u hu)
  | true =>
    cases c with
    | powerOn t => exact .next fun _ => ⟨Nat.zero_le _, Nat.zero_le _, fun _ => ⟨rfl, rfl, rfl⟩⟩
    | panelWindow t w => exact execPanelWindow_panelKept t w s
    | panelUnwindow t n => exact .ite (.panelKept (State.placeNotice_panelKept _ _)) .samePanelKept
    | outgoingMessageEnd => exact execOutgoingMessageEnd_panelKept s
    | fsyncEdge t => exact execFsyncEdge_panelKept t s
    | generatedFrameStart => exact execGeneratedFrameStart_panelKept s
    | holdoverEntry => exact execHoldoverEntry_panelKept s
    | holdExpired => exact .ite (.next s.moveHold_panelKept) .samePanelKept
    | commitPoint k => exact execCommitPoint_panelKept k s
    | _ => cases hc

/-- Settles O9. -/
theorem panelPortStaysSound : Obligations.PanelPortStaysSound := by
  intro s u hs hstep
  unfold step at hstep
  split at hstep
  · exact Host.Outcome.next.inj hstep ▸ hs
  · exact exec_panelKept _ _ u hstep (PanelKept.same (s := s) rfl hs)

/-! ## What is placed at the port (R177, R178) -/

section
variable {s : State}

theorem State.servePanel_busy (h : s.panel.sending ≠ none) : s.servePanel = s := by
  obtain ⟨x, hx⟩ := Option.ne_none_iff_exists'.1 h
  simp [State.servePanel, s.panel.serve_busy s.now x hx]

theorem State.queueSection_busy (h : s.panel.sending ≠ none) (b : LightSection) :
    (s.panel.sections.length < 8 →
      s.queueSection b = { s with panel := { s.panel with sections := s.panel.sections ++ [b] } }) ∧
    (8 ≤ s.panel.sections.length →
      s.queueSection b = { s with
        panel := { s.panel with sections := s.panel.sections.drop 1 ++ [b] }
        counters := { s.counters with sectionsDropped := sat16 s.counters.sectionsDropped } }) := by
  refine ⟨fun hroom => ?_, fun hfull => ?_⟩
  · rw [State.queueSection, if_pos hroom]
    exact State.servePanel_busy h
  · rw [State.queueSection, if_neg (Nat.not_lt.2 hfull)]
    exact State.servePanel_busy h

theorem State.placeNotice_busy (h : s.panel.sending ≠ none) (n : WindowNotice) :
    (s.panel.notices.length < 8 →
      s.placeNotice n = { s with panel := { s.panel with notices := s.panel.notices ++ [n] } }) ∧
    (8 ≤ s.panel.notices.length → s.placeNotice n = s) := by
  refine ⟨fun hroom => ?_, fun hfull => ?_⟩
  · rw [State.placeNotice, if_pos hroom]
    exact State.servePanel_busy h
  · rw [State.placeNotice, if_neg (Nat.not_lt.2 hfull)]
    exact State.servePanel_busy h

theorem State.markHoldEnded_busy (h : s.panel.sending ≠ none) :
    s.markHoldEnded = { s with panel := { s.panel with holdEnded := true } } := State.servePanel_busy h

/-- What is placed at the port of an idle line on which nothing waits is sent at once (R179). -/
theorem State.placed_idle (hs : PanelSound s) (h : s.panel.sending = none) (b : LightSection) (n : WindowNotice) :
    s.queueSection b = { s with panel := { s.panel with
      sending := some ⟨.lightSection b, s.now + (PanelMessage.lightSection b).duration⟩ } } ∧
    s.placeNotice n = { s with panel := { s.panel with sending := some ⟨.refused n, s.now + 64⟩ } } ∧
    s.markHoldEnded = { s with panel := { s.panel with sending := some ⟨.holdEnded, s.now + 64⟩ } } := by
  obtain ⟨hsections, hnotices, hended⟩ := hs.busy h
  refine ⟨?_, ?_, ?_⟩
  · simp [State.queueSection, State.servePanel, PanelPort.serve, PanelPort.next, *]
  · simp [State.placeNotice, State.servePanel, PanelPort.serve, PanelPort.next, *, PanelMessage.duration,
      PanelMessage.byteCount]
  · simp [State.markHoldEnded, State.servePanel, PanelPort.serve, PanelPort.next, *, PanelMessage.duration,
      PanelMessage.byteCount]

end

/-- A light section is sent for two symbols of 8 bit times, and 8 bit times for each byte of its fields and CRC (R173). -/
theorem PanelMessage.duration_lightSection (b : LightSection) :
    (PanelMessage.lightSection b).duration = 16 + 8 * (11 + (12 * b.values.length + 7) / 8) := by
  simp only [PanelMessage.duration, PanelMessage.byteCount, ceilDiv]
  omega

/-- Settles O43. -/
theorem outgoingLineServesInOrder : Obligations.OutgoingLineServesInOrder := by
  intro s
  refine ⟨fun hidle => ?_, fun x hx => ?_, fun b n => ⟨fun hbusy => ?_, fun hidle hs => ?_⟩⟩
  · simp [exec, execOutgoingMessageEnd, hidle]
  · refine ⟨({ s.panel with sending := none } : PanelPort).serve (max s.now x.ends), ?_, ?_⟩
    · simp [exec, execOutgoingMessageEnd, hx, State.servePanel, State.arrive]
    · simp only [← PanelMessage.duration_lightSection]
      exact PanelPort.serve_idle { s.panel with sending := none } _ rfl
  · obtain ⟨hroom, hfull⟩ := State.queueSection_busy hbusy b
    obtain ⟨hnotice, hlost⟩ := State.placeNotice_busy hbusy n
    exact ⟨hroom, hfull, hnotice, hlost, State.markHoldEnded_busy hbusy⟩
  · rw [← PanelMessage.duration_lightSection]
    exact State.placed_idle hs hidle b n

/-! ## Discarded messages (R175) -/

/-- Settles O42. -/
theorem discardedMessagesAreReported : Obligations.DiscardedMessagesAreReported := by
  intro t why s
  refine ⟨rfl, fun hroom => ?_, fun older newest hqueue hfull => ?_⟩
  · simp only [exec, execMessageDiscarded, State.discardMessage]
    rw [State.queueReport_room]
    · cases ha : s.reports.armed <;> simp [State.arrive, State.entry, linkEntries, sat16, ha]
    · exact Nat.succ_le_succ hroom
  · simp only [exec, execMessageDiscarded, State.discardMessage]
    rw [State.queueReport_newest (older := older) (newest := newest)]
    · rfl
    · exact hqueue
    · exact Nat.lt_succ_of_le hfull

end Sys2Proof.Machine

namespace Sys2Proof.Machine

/-! # Fields, bytes and bits read back (12.1)

A message is its fields one behind another. A field behind others is read by skipping them (`num_append_right`), the
first by what was written (`num_natBytes_append`), so that a message is read back field by field. -/

/-! ## Numbers in bytes -/

@[simp] theorem natBytes_length (len n : Nat) : (natBytes len n).length = len := by
  induction len with
  | zero => rfl
  | succ len ih => simp [natBytes, ih]

@[simp] theorem intBytes_length (len : Nat) (i : Int) : (intBytes len i).length = len := natBytes_length ..

/-- The numbers that `len` bytes hold. -/
theorem byte_pow (len : Nat) : 256 ^ len = 2 ^ (8 * len) := by rw [Nat.pow_mul]

/-- The number that `len` bytes spell, taken on from the number of the bytes before them. -/
theorem natBytes_foldl (len n : Nat) : ∀ a : Nat,
    (natBytes len n).foldl (fun m (b : Byte) => 256 * m + b.toNat) a = a * 256 ^ len + n % 256 ^ len := by
  induction len with
  | zero => simp [natBytes, Nat.mod_one]
  | succ len ih =>
    intro a
    simp only [natBytes, List.foldl_cons, ih, BitVec.toNat_ofNat]
    rw [Nat.pow_succ 256, Nat.mod_mul]
    ring

/-- A number that its bytes hold is read from them. -/
@[simp] theorem num_natBytes_append {len n : Nat} (h : n < 256 ^ len) (rest : List Byte) :
    num (natBytes len n ++ rest) 0 len = n := by
  rw [num, List.drop_zero, List.take_left' (natBytes_length ..), natBytes_foldl, Nat.zero_mul, Nat.zero_add,
    Nat.mod_eq_of_lt h]

@[simp] theorem num_natBytes {len n : Nat} (h : n < 256 ^ len) : num (natBytes len n) 0 len = n := by
  simpa using num_natBytes_append h []

/-- Reading behind a field. -/
@[simp] theorem num_append_right {a b : List Byte} {start : Nat} (h : a.length ≤ start) (len : Nat) :
    num (a ++ b) start len = num b (start - a.length) len := by
  rw [num, List.drop_append, List.drop_eq_nil_of_le h, List.nil_append, num]

/-- Reading in front of what follows. -/
theorem num_append_left {a : List Byte} {start len : Nat} (h : start + len ≤ a.length) (b : List Byte) :
    num (a ++ b) start len = num a start len := by
  rw [num, List.drop_append_of_le_length (Nat.le_of_add_right_le h),
    List.take_append_of_le_length (by rw [List.length_drop]; omega), num]

@[simp] theorem num_cons (b : Byte) (rest : List Byte) : num (b :: rest) 0 1 = b.toNat := by simp [num]

@[simp] theorem num_cons_succ (b : Byte) (rest : List Byte) (start len : Nat) :
    num (b :: rest) (start + 1) len = num rest start len := rfl

/-! ## Signed numbers -/

@[simp] theorem signedNum_append_right {a b : List Byte} {start : Nat} (h : a.length ≤ start) (len : Nat) :
    signedNum (a ++ b) start len = signedNum b (start - a.length) len := by
  rw [signedNum, num_append_right h, signedNum]

/-- A signed number that its field carries is read back from it in two's complement. -/
@[simp] theorem signedNum_intBytes_append {len : Nat} {i : Int} (h : fitsSigned len i = true) (rest : List Byte) :
    signedNum (intBytes len i ++ rest) 0 len = i := by
  simp only [fitsSigned, byte_pow, Bool.and_eq_true, decide_eq_true_eq] at h
  obtain ⟨hlow, hhigh⟩ := h
  have hfield : (BitVec.ofInt (8 * len) i).toNat < 256 ^ len := byte_pow len ▸ (BitVec.ofInt (8 * len) i).isLt
  rw [signedNum, intBytes, num_natBytes_append hfield, BitVec.ofNat_toNat, BitVec.setWidth_eq, BitVec.toInt_ofInt,
    Int.bmod_eq_of_le_mul_two (by omega) (by omega)]

/-! ## Lists of words -/

@[simp] theorem words_append_right {a b : List Byte} {start : Nat} (h : a.length ≤ start) (count : Nat) :
    words (a ++ b) start count = words b (start - a.length) count := by
  refine List.map_congr_left fun i _ => ?_
  rw [num_append_right (Nat.le_add_right_of_le h), Nat.sub_add_comm h]

@[simp] theorem wordBytes_length (ns : List Nat) : (ns.flatMap (natBytes 2)).length = 2 * ns.length := by
  simp [List.length_flatMap, Nat.mul_comm]

/-- Numbers of two bytes each are read back one behind another. -/
@[simp] theorem words_flatMap_append {ns : List Nat} (h : ∀ n ∈ ns, n < 65536) {count : Nat} (hcount : ns.length = count)
    (rest : List Byte) : words (ns.flatMap (natBytes 2) ++ rest) 0 count = ns := by
  subst hcount
  induction ns with
  | nil => rfl
  | cons n ns ih =>
    have hn : n < 256 ^ 2 := h n List.mem_cons_self
    rw [List.flatMap_cons, List.append_assoc, words, List.length_cons, List.range_succ_eq_map, List.map_cons,
      List.map_map, Nat.mul_zero, Nat.add_zero, num_natBytes_append hn]
    have hrest := ih fun m hm => h m (List.mem_cons_of_mem n hm)
    refine congrArg (n :: ·) (Eq.trans (List.map_congr_left fun i _ => ?_) hrest)
    rw [Function.comp_apply, num_append_right (by simp), natBytes_length]
    exact congrArg (num _ · 2) (by omega)

@[simp] theorem words_flatMap {ns : List Nat} (h : ∀ n ∈ ns, n < 65536) {count : Nat} (hcount : ns.length = count) :
    words (ns.flatMap (natBytes 2)) 0 count = ns := by
  simpa using words_flatMap_append h hcount []

/-! ## Bits -/

theorem toBits_add (a b n : Nat) : toBits (a + b) n = toBits a (n / 2 ^ b) ++ toBits b n := by
  induction a with
  | zero => simp [toBits]
  | succ a ih => rw [Nat.succ_add, toBits, toBits, ih, Nat.testBit_div_two_pow, List.cons_append]

/-- A field of `w` bits holds a number modulo 2 to the power `w`. -/
theorem toBits_mod {w v : Nat} (h : w ≤ v) (n : Nat) : toBits w (n % 2 ^ v) = toBits w n := by
  induction w with
  | zero => rfl
  | succ w ih =>
    rw [toBits, toBits, ih (Nat.le_of_succ_le h), Nat.testBit_mod_two_pow, decide_eq_true (Nat.lt_of_succ_le h),
      Bool.true_and]

/-- The bits of a number that bits spell are those bits. -/
theorem toBits_ofBits (bits : List Bool) : toBits bits.length (ofBits bits) = bits := by
  induction bits using List.reverseRecOn with
  | nil => rfl
  | append_singleton bits b ih =>
    have hlow : (2 * ofBits bits + b.toNat) / 2 ^ 1 = ofBits bits := by have := b.toNat_lt; omega
    have hbit : toBits 1 (2 * ofBits bits + b.toNat) = [b] := by cases b <;> simp [toBits]
    have hval : ofBits (bits ++ [b]) = 2 * ofBits bits + b.toNat := by simp [ofBits]
    rw [List.length_append, hval, List.length_singleton, toBits_add, hlow, ih, hbit]

/-! ## Bytes as bits -/

@[simp] theorem byteBits_length (bytes : List Byte) : (byteBits bytes).length = 8 * bytes.length := by
  induction bytes with
  | nil => rfl
  | cons b bytes ih => simp [byteBits, List.flatMap_cons] at ih ⊢; omega

theorem byteBits_append (a b : List Byte) : byteBits (a ++ b) = byteBits a ++ byteBits b := List.flatMap_append

theorem byteBits_cons (b : Byte) (bytes : List Byte) : byteBits (b :: bytes) = toBits 8 b.toNat ++ byteBits bytes :=
  List.flatMap_cons

/-- A number's bytes hold its bits. -/
theorem byteBits_natBytes (len n : Nat) : byteBits (natBytes len n) = toBits (8 * len) n := by
  induction len with
  | zero => rfl
  | succ len ih =>
    rw [natBytes, byteBits_cons, ih, BitVec.toNat_ofNat, toBits_mod le_rfl, byte_pow, ← toBits_add,
      show 8 + 8 * len = 8 * (len + 1) by ring]

/-- Bytes are read back from their bits. -/
theorem toBytes_byteBits (bytes : List Byte) : toBytes bytes.length (byteBits bytes) = bytes := by
  induction bytes with
  | nil => rfl
  | cons b bytes ih =>
    have hbyte : (toBits 8 b.toNat ++ List.replicate 8 false).take 8 = toBits 8 b.toNat :=
      List.take_left' (toBits_length ..)
    rw [List.length_cons, toBytes, byteBits_cons, List.take_left' (toBits_length ..), List.drop_left' (toBits_length ..),
      hbyte, ih, ofBits_toBits, Nat.mod_eq_of_lt b.isLt, BitVec.ofNat_toNat, BitVec.setWidth_eq]

@[simp] theorem toBytes_length (n : Nat) : ∀ bits : List Bool, (toBytes n bits).length = n := by
  induction n with
  | zero => exact fun _ => rfl
  | succ n ih => exact fun bits => congrArg (· + 1) (ih _)

/-- Bits that `n` bytes hold stand at their front. -/
theorem byteBits_toBytes (n : Nat) : ∀ bits : List Bool, bits.length ≤ 8 * n →
    ∃ fill, byteBits (toBytes n bits) = bits ++ fill := by
  induction n with
  | zero => exact fun bits h => ⟨[], by simp [List.length_eq_zero_iff.1 (Nat.le_zero.1 h), toBytes, byteBits]⟩
  | succ n ih =>
    intro bits h
    have hbyte : ∀ first : List Bool, first.length = 8 → toBits 8 (BitVec.ofNat 8 (ofBits first)).toNat = first := by
      intro first hfirst
      rw [BitVec.toNat_ofNat, toBits_mod le_rfl, ← hfirst, toBits_ofBits]
    obtain ⟨fill, hfill⟩ := ih (bits.drop 8) (by rw [List.length_drop]; omega)
    rw [toBytes, byteBits_cons, hfill, hbyte _ (by simp)]
    rcases Nat.lt_or_ge bits.length 8 with hshort | hlong
    · refine ⟨(List.replicate 8 false).take (8 - bits.length) ++ fill, ?_⟩
      rw [List.take_of_length_le hshort.le, List.drop_of_length_le hshort.le, List.take_append,
        List.take_of_length_le hshort.le, List.nil_append, List.append_assoc]
    · refine ⟨fill, ?_⟩
      rw [List.take_append_of_le_length (by simp [hlong]), List.take_take, Nat.min_self, ← List.append_assoc,
        List.take_append_drop]

/-! ## Packed values (12.3) -/

theorem unpack_flatMap_append {width : Nat} (fill : List Bool) (values : List (BitVec width)) :
    unpack width values.length ((values.flatMap fun v => toBits width v.toNat) ++ fill) = values := by
  induction values with
  | nil => rfl
  | cons v values ih =>
    rw [List.flatMap_cons, List.append_assoc, List.length_cons, unpack, List.take_left' (toBits_length ..),
      List.drop_left' (toBits_length ..), ih, ofBits_toBits, Nat.mod_eq_of_lt v.isLt, BitVec.ofNat_toNat, BitVec.setWidth_eq]

theorem pack_length {width : Nat} (values : List (BitVec width)) :
    (pack values).length = ceilDiv (width * values.length) 8 := toBytes_length ..

/-- Packed values are read back from their bytes, whatever fills the last. -/
theorem unpack_pack {width : Nat} (values : List (BitVec width)) :
    unpack width values.length (byteBits (pack values)) = values := by
  have hlen : (values.flatMap fun v => toBits width v.toNat).length = width * values.length := by
    simp [List.length_flatMap, Nat.mul_comm]
  have hroom : width * values.length ≤ 8 * ceilDiv (width * values.length) 8 := by
    unfold ceilDiv
    omega
  obtain ⟨fill, hfill⟩ := byteBits_toBytes _ _ (hlen.trans_le hroom)
  rw [pack, hfill, unpack_flatMap_append]

end Sys2Proof.Machine

namespace Sys2Proof.Machine

/-! # Messages read back (R173, R191, R193, R194)

Port by port: each command's bytes have the length that their kind requires, and each operand is read from its field. On
the panel line the bytes stand between two symbols, with a CRC that is right. -/

/-! ## The system port (12.4) -/

theorem sysCommandOf_code (cmd : SysCommand) : sysCommandOf cmd.code = some cmd := by cases cmd <;> rfl

/-- A write of the length that its command requires is read as that command (R180). -/
theorem decodeWrite_of_fits {cmd : SysCommand} {t : Nat} {bytes : List Byte} (hname : namedCommand bytes = some cmd)
    (hlen : cmd.length bytes = bytes.length) : decodeWrite t bytes = some (cmd.read t bytes) := by
  unfold decodeWrite
  split
  next => cases hname
  next found =>
    obtain rfl := Option.some.inj (found.symm.trans hname)
    exact if_pos hlen
  next found => cases found.symm.trans hname

/-- A write that does not fit is the refused one (R180). -/
theorem decodeWrite_of_unfit {t : Nat} {bytes : List Byte} (hbyte : bytes ≠ []) (h : writeFits bytes = false) :
    decodeWrite t bytes = some (.unknownCommandWrite t bytes) := by
  unfold decodeWrite
  split
  next => exact absurd rfl hbyte
  next found => exact if_neg (of_decide_eq_false (by simpa [writeFits, found] using h))
  next => rfl

/-- The bytes of a command's write are read back if they have the length it requires and spell its operands. -/
theorem decodeWrite_sysWrite {c : Instr} {cmd : SysCommand} {t : Nat} {bytes params : List Byte}
    (hwf : c.wf = true) (ht : c.arrival = some t) (h : sysWrite cmd params = some bytes)
    (hlen : c.wf = true → cmd.length (natBytes 1 cmd.code ++ params) = 1 + params.length := by
      simp +contextual [SysCommand.length, Instr.wf, fits])
    (hread : c.arrival = some t → c.wf = true → cmd.read t (natBytes 1 cmd.code ++ params) = c := by
      simp +contextual [SysCommand.read, Instr.arrival, Instr.wf, fits]) : decodeWrite t bytes = some c := by
  obtain rfl := Option.some.inj h
  have hcode : BitVec.toNat (BitVec.ofNat 8 (cmd.code / 256 ^ 0)) = cmd.code := by cases cmd <;> rfl
  have hname : namedCommand (natBytes 1 cmd.code ++ params) = some cmd :=
    (congrArg sysCommandOf hcode).trans (sysCommandOf_code cmd)
  rw [decodeWrite_of_fits hname (by simpa using hlen hwf), hread ht hwf]

theorem word_lt (v : BitVec 16) : v.toNat < 65536 := v.isLt

/-- A sensor field is read back, 255 as none. -/
theorem sensorField_getD {sensor : Option Nat} (h : sensorWf sensor = true) :
    sensor.getD 255 < 256 ∧ sensorField (sensor.getD 255) = sensor := by
  cases sensor with
  | none => simp [sensorField]
  | some i =>
    have hi : i < 255 := of_decide_eq_true h
    exact ⟨hi.trans (by decide), if_neg hi.ne⟩

/-- Every write of Table 12-5 is read back: where an operand is no plain number, by the rule of its field. -/
theorem decodeWrite_encodeWrite {c : Instr} {t : Nat} {bytes : List Byte} (hwf : c.wf = true) (ht : c.arrival = some t)
    (h : encodeWrite c = some bytes) : decodeWrite t bytes = some c := by
  cases c with
  | setGrid | setGroups | mapZone | unmapZone | setService | setTimebase | followSync | freeRun
  | setOverride | clearOverride | clearFault | clearWindows | start | stop | restartChain | driverTrim | driverIdent
  | takeReport | readSnapshot | readProbe | readZone | readCounters | readState | softRestart =>
    exact decodeWrite_sysWrite hwf ht h
  | setPower | setEasing =>
    exact decodeWrite_sysWrite hwf ht h (hread := by
      simp +contextual [SysCommand.read, Instr.arrival, word_lt])
  | setChain t' c d w sensor =>
    exact decodeWrite_sysWrite hwf ht h (hlen := by simp [SysCommand.length, sensorByte]) (hread := by
      simp +contextual [SysCommand.read, Instr.arrival, Instr.wf, fits, sensorByte, sensorField_getD])
  | setProfile t' profile =>
    exact decodeWrite_sysWrite hwf ht h (hread := by
      cases profile <;> simp +contextual [SysCommand.read, Instr.arrival, bit0, profileCode])
  | setThermal t' p =>
    exact decodeWrite_sysWrite hwf ht h (hread := by
      simp +contextual [SysCommand.read, Instr.arrival, Instr.wf, ThermalParams.wf, fits])
  | loadGains t' start gains =>
    refine decodeWrite_sysWrite hwf ht h (hlen := ?_)
    simp +contextual [SysCommand.length, Instr.wf, fits]
    intros
    omega
  | systemBlank t' on =>
    exact decodeWrite_sysWrite hwf ht h (hread := by
      cases on <;> simp +contextual [SysCommand.read, Instr.arrival, bit0])
  | probe t' z mode =>
    exact decodeWrite_sysWrite hwf ht h (hread := by
      cases mode <;> simp +contextual [SysCommand.read, Instr.arrival, Instr.wf, fits, bit0, modeCode])
  | unknownCommandWrite t' written =>
    obtain rfl := Option.some.inj ht
    simp only [Instr.wf, Bool.and_eq_true, Bool.not_eq_true', List.isEmpty_eq_false_iff] at hwf
    obtain ⟨hbyte, hunfit⟩ := hwf
    obtain rfl : written = bytes := by simpa [encodeWrite, hbyte] using h
    exact decodeWrite_of_unfit hbyte hunfit
  | _ => cases h

/-! ## The picture port (12.3) -/

@[simp] theorem rectBytes_length (r : Rect) : (rectBytes r).length = 4 := by simp [rectBytes]

@[simp] theorem windowBytes_length (w : WindowFields) : (windowBytes w).length = 10 := by simp [windowBytes]

/-- A rectangle is read back behind a field of one byte. -/
theorem readRect_rectBytes {r : Rect} (h : r.wf = true) (kind : Nat) (rest : List Byte) :
    readRect (natBytes 1 kind ++ (rectBytes r ++ rest)) 1 = r := by
  revert h
  simp +contextual [Rect.wf, fits, readRect, rectBytes]

/-- The fields of a WINDOW are read back behind a field of one byte. -/
theorem readWindow_windowBytes {w : WindowFields} (h : w.wf = true) (kind : Nat) (rest : List Byte) :
    readWindow (natBytes 1 kind ++ (windowBytes w ++ rest)) 1 = w := by
  revert h
  obtain ⟨number, window, rect, level, lifetime⟩ := w
  cases window <;>
    simp +contextual [WindowFields.wf, Rect.wf, fits, readWindow, readRect, windowBytes, rectBytes, windowCode]

/-- What the fields of a run hold (Table 12-2). -/
theorem runBytes_fields {width code start : Nat} {values : List (BitVec width)} (hcode : code < 256)
    (h : runWf start values.length = true) {bytes : List Byte} (hbytes : bytes = runBytes code start values) :
    num bytes 0 1 = code ∧ num bytes 1 2 = start ∧ num bytes 3 1 + 1 = values.length ∧
      bytes.length = 4 + ceilDiv (width * values.length) 8 ∧ unpack width values.length (runBits bytes) = values := by
  subst hbytes
  simp only [runWf, fits, Bool.and_eq_true, decide_eq_true_eq] at h
  obtain ⟨hstart, hsome, hmany⟩ := h
  have hcount : values.length - 1 < 256 := by omega
  have hbits : runBits (runBytes code start values) = byteBits (pack values) :=
    congrArg byteBits (List.drop_left' (by simp))
  refine ⟨?_, ?_, ?_, ?_, hbits ▸ unpack_pack values⟩
  · simp [runBytes, hcode]
  · simp [runBytes, num_natBytes_append hstart]
  · simp [runBytes, hcount, Nat.sub_add_cancel hsome]
  · simp [runBytes, pack_length]
    omega

theorem shortBytes_eq {code : Nat} {fields : List Byte} (h : fields.length ≤ 4) :
    shortBytes code fields = natBytes 1 code ++ (fields ++ (natBytes 4 0).take (4 - fields.length)) := by
  rw [shortBytes, List.take_append, List.take_of_length_le h]

/-- A message of a known length is well formed (R163). -/
theorem malformed_of_length {bytes : List Byte} (h : pictureLength bytes = some bytes.length) :
    malformed bytes 0 = false := by
  simp [malformed, h]

/-- A picture message has the length that its kind requires, and is read back. -/
theorem decodePicture_encodePicture {c : Instr} {t : Nat} {bytes : List Byte} (hwf : c.wf = true)
    (ht : c.arrival = some t) (h : encodePicture c = some bytes) :
    pictureLength bytes = some bytes.length ∧ decodePicture t bytes = some c := by
  cases c with
  | run12 t' start values =>
    obtain rfl := Option.some.inj ht
    obtain ⟨hkind, hstart, hcount, hlen, hvalues⟩ := runBytes_fields (by decide) hwf (Option.some.inj h).symm
    simp [pictureLength, decodePicture, hkind, hstart, hcount, hlen, hvalues]
  | run8 t' start values =>
    obtain rfl := Option.some.inj ht
    obtain ⟨hkind, hstart, hcount, hlen, hvalues⟩ := runBytes_fields (by decide) hwf (Option.some.inj h).symm
    have hceil : ceilDiv (8 * values.length) 8 = values.length := by unfold ceilDiv; omega
    simp [pictureLength, decodePicture, hkind, hstart, hcount, hlen, hvalues, hceil]
  | fine4 t' start values =>
    obtain rfl := Option.some.inj ht
    obtain ⟨hkind, hstart, hcount, hlen, hvalues⟩ := runBytes_fields (by decide) hwf (Option.some.inj h).symm
    have hceil : ceilDiv (4 * values.length) 8 = ceilDiv values.length 2 := by unfold ceilDiv; omega
    simp [pictureLength, decodePicture, hkind, hstart, hcount, hlen, hvalues, hceil]
  | nudge t' rect delta =>
    obtain rfl := Option.some.inj ht
    obtain rfl := Option.some.inj h
    have hrect := readRect_rectBytes hwf 4 [delta]
    simp [pictureLength, decodePicture, hrect]
  | close t' tag cut =>
    obtain rfl := Option.some.inj ht
    obtain rfl := Option.some.inj h
    cases cut <;> simp [pictureLength, decodePicture, shortBytes_eq]
  | pictureWindow t' w =>
    obtain rfl := Option.some.inj ht
    obtain rfl := Option.some.inj h
    have hwindow : readWindow (natBytes 1 6 ++ windowBytes w) 1 = w := by
      simpa using readWindow_windowBytes hwf 6 []
    simp [pictureLength, decodePicture, hwindow]
  | pictureUnwindow t' n =>
    obtain rfl := Option.some.inj ht
    obtain rfl := Option.some.inj h
    have hn : n < 256 := of_decide_eq_true hwf
    simp [pictureLength, decodePicture, shortBytes_eq, hn]
  | pictureBlank t' on =>
    obtain rfl := Option.some.inj ht
    obtain rfl := Option.some.inj h
    cases on <;> simp [pictureLength, decodePicture, shortBytes_eq]
  | status t' =>
    obtain rfl := Option.some.inj ht
    obtain rfl := Option.some.inj h
    simp [pictureLength, decodePicture, shortBytes_eq]
  | _ => cases h

/-! ## The panel port (12.3) -/

@[simp] theorem crcBytes_length (bytes : List Byte) : (crcBytes bytes).length = 2 := natBytes_length ..

@[simp] theorem panelFrame_length (fields : List Byte) : (panelFrame fields).length = fields.length + 2 := by
  simp [panelFrame]

theorem panelCrcRight_panelFrame (fields : List Byte) : panelCrcRight (panelFrame fields) = true := by
  simp [panelCrcRight, panelFrame]

/-- The CRC of a frame's bits is that of its fields. -/
theorem crcRight_panelFrame (fields : List Byte) : crcRight (byteBits (panelFrame fields)) = true := by
  have hcrc : (crc16 (byteBits fields)).toNat % 2 ^ 16 = (crc16 (byteBits fields)).toNat :=
    Nat.mod_eq_of_lt (crc16 (byteBits fields)).isLt
  rw [panelFrame, byteBits_append, crcBytes, byteBits_natBytes]
  exact crcRight_withCrc _

theorem num_panelFrame {fields : List Byte} {start len : Nat} (h : start + len ≤ fields.length) :
    num (panelFrame fields) start len = num fields start len := num_append_left h _

/-- The kind of a WINDOW is one that Table 12-4 admits (R175). -/
theorem num_windowBytes_kind (w : WindowFields) : num (windowBytes w) 1 1 = windowCode w.kind := by
  cases hk : w.kind <;> simp [windowBytes, windowCode, hk]

/-- A message with a right CRC is read back. -/
theorem decodePanel_encodePanel {c : Instr} {t : Nat} {bytes : List Byte} (hwf : c.wf = true)
    (ht : c.arrival = some t) (h : encodePanel c = some bytes) : decodePanel t true bytes = .ok c := by
  cases c with
  | hold t' m =>
    obtain rfl := Option.some.inj ht
    obtain rfl := Option.some.inj h
    have hm : m.toNat ≠ 0 := fun h0 => of_decide_eq_true hwf (BitVec.eq_of_toNat_eq h0)
    simp [decodePanel, panelCrcRight_panelFrame, num_panelFrame, panelLength, hm]
  | resume t' =>
    obtain rfl := Option.some.inj ht
    obtain rfl := Option.some.inj h
    simp [decodePanel, panelCrcRight_panelFrame, num_panelFrame, panelLength]
  | panelWindow t' w =>
    obtain rfl := Option.some.inj ht
    obtain rfl := Option.some.inj h
    have hwindow : readWindow (panelFrame (natBytes 1 5 ++ windowBytes w)) 1 = w := by
      simpa [panelFrame] using readWindow_windowBytes hwf 5 (crcBytes _)
    have hkind : ¬ 1 < windowCode w.kind := by cases w.kind <;> decide
    simp [decodePanel, panelCrcRight_panelFrame, num_panelFrame, panelLength, num_windowBytes_kind, hkind, hwindow]
  | panelUnwindow t' n =>
    obtain rfl := Option.some.inj ht
    obtain rfl := Option.some.inj h
    have hn : n < 256 := of_decide_eq_true hwf
    simp [decodePanel, panelCrcRight_panelFrame, num_panelFrame, panelLength, hn]
  | panelBlank t' on =>
    obtain rfl := Option.some.inj ht
    obtain rfl := Option.some.inj h
    cases on <;> simp [decodePanel, panelCrcRight_panelFrame, num_panelFrame, panelLength]
  | _ => cases h

/-- A message is its fields with their CRC, 13 bytes at most (Table 12-4). -/
theorem encodePanel_spec {c : Instr} {bytes : List Byte} (h : encodePanel c = some bytes) :
    ∃ fields, bytes = panelFrame fields ∧ fields.length ≤ 11 := by
  cases c with
  | hold | resume | panelWindow | panelUnwindow | panelBlank => exact ⟨_, (Option.some.inj h).symm, by simp⟩
  | _ => cases h

/-! ## The incoming panel line (R173, R191) -/

theorem receiveLine_nil (limit fuel pos : Nat) : receiveLine limit fuel none pos [] = [] := by cases fuel <;> rfl

/-- The bits of bytes with a right CRC are the command that the bytes spell (R175). -/
theorem Incoming.command_whole {c : Instr} {t : Nat} {bytes : List Byte} (hcrc : crcRight (byteBits bytes) = true)
    (hread : decodePanel t true bytes = .ok c) : (Incoming.whole (byteBits bytes)).command t = c := by
  simp [Incoming.command, hcrc, toBytes_byteBits, hread]

/-- A message with a right CRC is received by the end of its end symbol, and nothing else is. -/
theorem panelReceives_panelFrame {c : Instr} {t0 : Nat} {fields : List Byte} (hlen : fields.length ≤ 11)
    (hread : decodePanel (t0 + 16 + 8 * (panelFrame fields).length) true (panelFrame fields) = .ok c) :
    panelReceives t0 (messageOnLine (panelFrame fields)) = [c] := by
  have hbits : (byteBits (panelFrame fields)).length = 8 * (panelFrame fields).length := byteBits_length _
  have hshort : (byteBits (panelFrame fields)).length < 105 + Config.panelIdleRun := by
    rw [hbits, panelFrame_length]
    omega
  have hline := receiveLine_message _ (8 * (panelFrame fields).length + 31) 0 _ [] hshort
  have hfuel : (messageOnLine (panelFrame fields)).length + 1 =
      8 * (panelFrame fields).length + 31 + (byteBits (panelFrame fields)).length + 1 + 1 := by
    simp [messageOnLine, startSymbol, endSymbol, lineBit, List.length_flatMap]
    omega
  have hends : t0 + ceilDiv (0 + 16 + 2 * (byteBits (panelFrame fields)).length + 16) 2 =
      t0 + 16 + 8 * (panelFrame fields).length := by
    rw [hbits, ceilDiv]
    omega
  rw [panelReceives, panelCommands, hfuel, messageOnLine, List.append_assoc, ← List.append_nil endSymbol, hline,
    receiveLine_nil, List.map_singleton, hends]
  exact congrArg ([·]) (Incoming.command_whole (crcRight_panelFrame fields) hread)

/-! ## All three ports -/

theorem encodeWrite_of_port {c : Instr} (hwf : c.wf = true) (h : c.port = some .system) : encodeWrite c ≠ none := by
  cases c with
  | unknownCommandWrite t bytes =>
    simp only [Instr.wf, Bool.and_eq_true, Bool.not_eq_true'] at hwf
    obtain ⟨hbyte, -⟩ := hwf
    simp [encodeWrite, hbyte]
  | _ => simp [encodeWrite, sysWrite, Instr.port] at h ⊢

theorem encodePicture_of_port {c : Instr} (h : c.port = some .picture) : encodePicture c ≠ none := by
  cases c with
  | run12 | run8 | fine4 | nudge | close | pictureWindow | pictureUnwindow | pictureBlank | status =>
    exact Option.some_ne_none _
  | _ => cases h

theorem encodePanel_of_port {c : Instr} (h : c.port = some .panel) : encodePanel c ≠ none := by
  cases c with
  | hold | resume | panelWindow | panelUnwindow | panelBlank => exact Option.some_ne_none _
  | _ => cases h

/-- Settles O59. -/
theorem messagesReadBack : Obligations.MessagesReadBack := by
  intro c t bytes hwf ht
  refine ⟨decodeWrite_encodeWrite hwf ht, fun h => ?_, fun h => ?_, fun hport => ?_, fun hport => ?_, fun hport => ?_⟩
  · obtain ⟨hlen, hread⟩ := decodePicture_encodePicture hwf ht h
    exact ⟨hread, malformed_of_length hlen⟩
  · obtain ⟨fields, rfl, hlen⟩ := encodePanel_spec h
    have hread := decodePanel_encodePanel hwf ht h
    exact ⟨hread, fun t0 ht0 => panelReceives_panelFrame hlen (ht0 ▸ hread)⟩
  · exact encodeWrite_of_port hwf hport
  · exact encodePicture_of_port hport
  · exact encodePanel_of_port hport

end Sys2Proof.Machine

namespace Sys2Proof.Machine

/-! # Operating states (11.3)

START is accepted exactly under R184's conditions, and each starting point sets every chain engine by one operation of
its own: `startUp`, `halt`, `restart`. -/

/-! ## Chain engines -/

/-- An engine after an operation that every engine goes through. -/
theorem State.chain_map (s : State) (f : Chain → Chain) {k : Nat} (hk : k < s.chains.length) :
    (s.chains.map f).getD k Chain.powerOn = f (s.chain k) := by
  simp [State.chain, hk]

theorem State.blankAsserted_of_unlatched {s : State} {k : Nat} (h : (s.chain k).latched = false) :
    s.blankAsserted k = true := by
  simp [State.blankAsserted, blankLine, h]

theorem Chain.startUp_unused {ch : Chain} (now : Nat) (h : ch.drivers = 0) : ch.startUp now = ch := if_pos h

theorem Chain.startUp_used {ch : Chain} (now : Nat) (h : ch.drivers ≠ 0) :
    ch.startUp now = ch.beginEnumeration now false := if_neg h

theorem Chain.halt_unused {ch : Chain} (now : Nat) (h : ch.drivers = 0) : ch.halt now = ch := if_pos h

/-- What STOP and SOFT RESTART discard of an engine, before its CLEAR is sent (R125). -/
theorem Chain.halt_used {ch : Chain} (now : Nat) (h : ch.drivers ≠ 0) :
    ch.halt now = { ch.discard.unassignAll with
      state := .stopped, attempts := 0, wait := none, attempt := none, pollPointer := 0 }.transmit now .clear := if_neg h

/-- The mark that a chain has left RUNNING since the last frame start, once its engine has been discarded (R64). -/
theorem Chain.discard_leftFrame (ch : Chain) :
    ch.discard.leftFrame = true ↔ ch.leftFrame = true ∨ ch.state = .running := by
  simp [Chain.discard]

/-! ## START (R184) -/

theorem positionServed_iff (s : State) (z : Zone) :
    positionServed s z = true ↔ ∀ x, z.channel = some x → x.position < (s.chain x.chain).drivers := by
  unfold positionServed
  cases z.channel <;> simp

theorem groupAgrees_iff (s : State) (z : Zone) (i : Nat) :
    groupAgrees s z i = true ↔ ∀ x, z.channel = some x →
      driverGroup s.grid s.schedule.groups s.zones x.chain x.position = some (s.grid.zoneGroup s.schedule.groups i) := by
  unfold groupAgrees
  cases z.channel <;> simp

/-- Every zone's record agrees with the group of its driver position. -/
theorem groupAgrees_all_iff (s : State) :
    (s.zones.zipIdx.all fun x => groupAgrees s x.1 x.2) = true ↔ ∀ i x, (s.zone i).channel = some x →
      driverGroup s.grid s.schedule.groups s.zones x.chain x.position = some (s.grid.zoneGroup s.schedule.groups i) := by
  simp only [List.all_eq_true, Prod.forall, List.mem_zipIdx_iff_getElem?, groupAgrees_iff, s.zone_channel_eq_some_iff]
  exact ⟨fun h i x ⟨z, hz, hx⟩ => h z i hz x hx, fun h z i hz x hx => h i x ⟨z, hz, hx⟩⟩

/-- A driver position has the group of its first zone, so that every zone there agrees with it exactly when any two of
them agree. -/
theorem driverGroup_agrees_iff (s : State) :
    (∀ i x, (s.zone i).channel = some x →
      driverGroup s.grid s.schedule.groups s.zones x.chain x.position = some (s.grid.zoneGroup s.schedule.groups i)) ↔
    ∀ i j x y, (s.zone i).channel = some x → (s.zone j).channel = some y → x.chain = y.chain →
      x.position = y.position → s.grid.zoneGroup s.schedule.groups i = s.grid.zoneGroup s.schedule.groups j := by
  constructor
  · intro h i j x y hx hy hchain hposition
    have hi := h i x hx
    rw [hchain, hposition, h j y hy] at hi
    exact (Option.some.inj hi).symm
  · intro h i x hx
    cases hgroup : driverGroup s.grid s.schedule.groups s.zones x.chain x.position with
    | none => exact absurd hx ((s.driverGroup_eq_none_iff _ _).1 hgroup i x.channel)
    | some g =>
      obtain ⟨j, c, hy, rfl⟩ := State.driverGroup_eq_some hgroup
      exact congrArg some (h j i _ _ hy hx rfl rfl)

theorem startConsistent_iff (s : State) : startConsistent s = true ↔ StartAllowed s := by
  have hmapped : (s.zones.any fun z => z.channel.isSome) = true ↔ ∃ z ∈ s.zones, z.channel ≠ none := by
    simp [Option.isSome_iff_ne_none]
  have hserved : s.zones.all (positionServed s) = true ↔
      ∀ z ∈ s.zones, ∀ x, z.channel = some x → x.position < (s.chain x.chain).drivers := by
    simp [positionServed_iff]
  rw [startConsistent, Bool.and_eq_true, Bool.and_eq_true, Bool.and_eq_true, decide_eq_true_iff, hmapped, hserved,
    groupAgrees_all_iff, driverGroup_agrees_iff]
  exact ⟨fun ⟨⟨⟨hgrid, hmapped⟩, hserved⟩, hgroups⟩ => ⟨hgrid, hmapped, hserved, hgroups⟩,
    fun ⟨hgrid, hmapped, hserved, hgroups⟩ => ⟨⟨⟨hgrid, hmapped⟩, hserved⟩, hgroups⟩⟩

theorem startConsistent_arrive (s : State) (t : Nat) : startConsistent (s.arrive t) = startConsistent s := rfl

/-- START accepted. -/
theorem execStart_accepted {t : Nat} {s : State} (hpart : s.system.part = .config) (h : StartAllowed s) :
    execStart t s = .next { s with
      now := max s.now t
      system := { s.system with part := .starting, response := ⟨true, some .start, some .done, .none, none⟩ }
      chains := s.chains.map (Chain.startUp · (max s.now t))
      thermal := s.thermal.startConverting (max s.now t) } := by
  simp only [execStart, State.arrive_system, hpart, startConsistent_arrive, (startConsistent_iff s).2 h]
  rfl

/-- Settles O16. -/
theorem startBeginsService : Obligations.StartBeginsService := by
  intro t s
  refine ⟨fun hpart => if_pos hpart, fun hpart hrefused => ?_, fun hpart hallowed => ?_⟩
  · have hinconsistent : (!startConsistent (s.arrive t)) = true := by
      rw [startConsistent_arrive, Bool.not_eq_true', ← Bool.not_eq_true, startConsistent_iff]
      exact hrefused
    exact (if_neg (not_not.2 hpart)).trans (if_pos hinconsistent)
  · refine ⟨_, execStart_accepted hpart hallowed, rfl, List.length_map _, fun k hk hunused => ?_,
      fun k hk hused => ?_, rfl, rfl, rfl, rfl, ?_, ?_⟩
    · exact (s.chain_map _ hk).trans (Chain.startUp_unused _ hunused)
    · rw [State.chain, s.chain_map _ hk, Chain.startUp_used _ hused]
      exact ⟨rfl, rfl, rfl, rfl, rfl, rfl, rfl, rfl⟩
    · exact List.forall_mem_map.2 fun _ _ => ⟨rfl, rfl⟩
    · exact List.map_map

/-! ## STOP (R186) -/

/-- STOP as one equation: a working store that no pass is filling stays (R48, R51). -/
theorem execStop_eq (t : Nat) (s : State) :
    execStop t s = .next { s with
      now := max s.now t
      system := { s.system with part := .config, response := ⟨true, some .stop, some .done, .none, none⟩ }
      pass := { s.pass with
        phase := .idle
        work := if s.pass.phase = .idle then s.pass.work else []
        power := if s.pass.phase = .idle then s.pass.power else 0
        entryMark := false
        emitted := List.replicate 8 false }
      schedule := { s.schedule with points := List.replicate 8 none }
      chains := s.chains.map (Chain.halt · (max s.now t))
      thermal := { s.thermal with converting := false } } := by
  rw [← s.pass.stop_eq]
  rfl

/-- Settles O17. -/
theorem stopLeavesService : Obligations.StopLeavesService := by
  intro t s
  refine ⟨_, execStop_eq t s, rfl, fun hidle => ⟨if_pos hidle, if_pos hidle⟩, List.length_map _,
    fun k hk => ⟨fun hunused => ?_, fun hused => ?_⟩⟩
  · exact (s.chain_map _ hk).trans (Chain.halt_unused _ hunused)
  · have hchain := (s.chain_map (Chain.halt · (max s.now t)) hk).trans (Chain.halt_used _ hused)
    exact ⟨State.blankAsserted_of_unlatched (congrArg Chain.latched hchain), _, hchain, (s.chain k).discard_leftFrame⟩

/-! ## SOFT RESTART (R187) -/

/-- Settles O18: outside the chain engines each item is what `State.restart` writes there. -/
theorem softRestartSetsAfresh : Obligations.SoftRestartSetsAfresh := by
  intro t s
  refine ⟨_, rfl, ?_⟩
  repeat refine ⟨rfl, ?_⟩
  refine ⟨List.length_map _, fun k hk => ?_⟩
  have hchain := s.chain_map (Chain.restart · (max s.now t)) hk
  refine ⟨State.blankAsserted_of_unlatched (congrArg Chain.latched hchain), 0, fun hunused => ?_, fun hused => ?_⟩
  · refine hchain.trans ?_
    simp only [Chain.restart, Chain.halt_unused _ hunused]
  · refine ⟨_, hchain.trans ?_, (s.chain k).discard_leftFrame⟩
    simp only [Chain.restart, Chain.halt_used _ hused]
    rfl

/-! ## POWER ON (R53, R187) -/

theorem State.powered_chain (t : Nat) (queue : List Instr) (k : Nat) :
    (State.powered t queue).chain k = Chain.powerOn := getD_replicate_same 8 k _

theorem Chain.powerOn_record (a : Nat) : Chain.powerOn.record a = Mirror.powerOn := getD_replicate_same 48 a _

/-- Settles O15: outside the chain engines each item is what `State.powered` holds there. -/
theorem powerOnSetsEveryBlock : Obligations.PowerOnSetsEveryBlock := by
  intro t s
  refine ⟨State.powered (max s.now t) s.pending, rfl, ?_⟩
  repeat refine ⟨rfl, ?_⟩
  refine ⟨fun k => ?_, ?_⟩
  · have hchain := State.powered_chain (max s.now t) s.pending k
    rw [State.blankAsserted_of_unlatched (congrArg Chain.latched hchain), hchain]
    repeat refine ⟨rfl, ?_⟩
    intro a
    rw [Chain.powerOn_record]
    exact ⟨rfl, rfl⟩
  · repeat refine ⟨rfl, ?_⟩
    rfl

/-! ## Reset -/

theorem Chain.powerOn_sound : Chain.powerOn.Sound where
  records := rfl
  window := Nat.zero_le _
  tags := nofun
  running := nofun
  attempt := fun h => absurd rfl h
  resend := fun h => absurd rfl h
  waiting := fun h => absurd rfl h
  resting _ _ := rfl
  quiet _ := ⟨rfl, rfl, rfl, rfl, rfl, rfl, rfl, rfl⟩
  unused := ⟨fun _ => rfl, fun _ => rfl⟩

/-- A property of the power-on engine holds of each engine after power-on. -/
theorem State.powered_chains {p : Chain → Prop} (t : Nat) (queue : List Instr) (h : p Chain.powerOn) :
    ∀ ch ∈ (State.powered t queue).chains, p ch :=
  fun _ hch => List.eq_of_mem_replicate hch ▸ h

theorem State.powered_chainsSound (t : Nat) (queue : List Instr) : ChainsSound (State.powered t queue) :=
  ⟨rfl, State.powered_chains t queue Chain.powerOn_sound, fun _ => State.powered_chains t queue (.inl rfl)⟩

theorem State.powered_derateSound (t : Nat) (queue : List Instr) : DerateSound (State.powered t queue) :=
  ⟨(by decide : thermalInRange ⟨100, -160, 70, 95, 128⟩ = true), State.powered_chains t queue (by decide)⟩

theorem State.powered_countersSound (t : Nat) (queue : List Instr) : CountersSound (State.powered t queue) :=
  ⟨Counters.zero_le, State.powered_chains t queue (by decide)⟩

theorem State.powered_panelSound (t : Nat) (queue : List Instr) : PanelSound (State.powered t queue) :=
  ⟨Nat.zero_le _, Nat.zero_le _, fun _ => ⟨rfl, rfl, rfl⟩⟩

theorem State.powered_sizesSound (t : Nat) (queue : List Instr) : SizesSound (State.powered t queue) :=
  ⟨rfl, rfl, nofun, rfl, rfl, rfl, rfl, (by decide : 1 ≤ 1 ∧ 1 ≤ 8)⟩

/-- Settles O3: reset is a power-on, after which each part of the state is sound on its own. -/
theorem resetMeetsInvariants : Obligations.ResetMeetsInvariants :=
  ⟨windowsSound_empty rfl, mapSound_fresh rfl, levelsSound_powered 0 [], State.powered_derateSound 0 [],
    State.powered_countersSound 0 [], State.powered_reportsSound 0 [], State.powered_panelSound 0 [],
    State.powered_chainsSound 0 [], State.powered_sizesSound 0 [], .of_idle rfl,
    Timebase.restart_sound (tb := State.reset.timebase) 0 (by decide)⟩

end Sys2Proof.Machine

namespace Sys2Proof.Machine

/-! # The configuration of the system port (11.2)

Each command goes through its checks in order, and an accepted one writes the settings it names. -/

/-! ## SET CHAIN (R114, R181) -/

theorem badSensor_iff (sensor : Option Nat) : badSensor sensor = true ↔ ∃ i, sensor = some i ∧ 7 < i := by
  cases sensor <;> simp [badSensor]

theorem clampWeight_eq (w : Nat) : clampWeight w = if w = 0 then 1 else if 255 < w then 255 else w := by
  unfold clampWeight
  split_ifs <;> omega

theorem clampWeight_eq_self_iff (w : Nat) : clampWeight w = w ↔ 1 ≤ w ∧ w ≤ 255 := by
  unfold clampWeight
  omega

theorem Chain.configure_eq (ch : Chain) (d w : Nat) (sensor : Option Nat) :
    ch.configure d w sensor = { ch with
      state := if d = ch.drivers then ch.state else if d = 0 then .unused else .stopped
      drivers := d
      weight := if w = 0 then 1 else if 255 < w then 255 else w
      sensor := sensor } := by
  rw [← clampWeight_eq]
  rfl

/-- Settles O20. -/
theorem setChainStoresItsSettings : Obligations.SetChainStoresItsSettings := by
  intro t k d w sensor s
  refine ⟨fun hout => if_pos (hout.imp_right (.imp_right (badSensor_iff sensor).2)), fun hk hd hsensor => ?_⟩
  have hnamed : ¬ badSensor sensor = true := by
    rw [badSensor_iff]
    exact fun ⟨i, hi, h⟩ => Nat.not_le.2 h (hsensor i hi)
  have hin : ¬ (7 < k ∨ 48 < d ∨ badSensor sensor = true) :=
    not_or.2 ⟨Nat.not_lt.2 hk, not_or.2 ⟨Nat.not_lt.2 hd, hnamed⟩⟩
  refine ⟨fun hpart hne => (if_neg hin).trans (if_pos ⟨hpart, hne⟩), fun hallowed => ?_⟩
  have hstate : ¬ (s.system.part ≠ .config ∧ d ≠ (s.chain k).drivers) := by tauto
  refine (if_neg hin).trans ((if_neg hstate).trans ?_)
  rw [State.updChain_eq, Chain.configure_eq, if_congr (clampWeight_eq_self_iff w) rfl rfl]
  rfl

/-! ## SET GROUPS and SET PROFILE (R164, R182) -/

theorem groupsInRange_iff {g lead : Nat} {offsets : List Nat} (h : offsets.length = 8) :
    groupsInRange g offsets lead = true ↔ 1 ≤ g ∧ g ≤ 8 ∧ 100 ≤ lead ∧ lead ≤ 4000 ∧ ∀ x ∈ offsets, x ≤ 1023 := by
  simp only [groupsInRange, h, Bool.and_eq_true, decide_eq_true_iff, List.all_eq_true]
  tauto

/-- Settles O22. -/
theorem setGroupsAndProfile : Obligations.SetGroupsAndProfile := by
  intro t g lead offsets p s hlen
  refine ⟨fun hout => ?_, fun hg hg8 hlead hlead4000 hoffsets => ?_, fun hpart => if_pos hpart,
    fun hpart => if_neg (not_not.2 hpart)⟩
  · rw [← groupsInRange_iff hlen] at hout
    exact if_pos (by simpa using hout)
  · have hin := (groupsInRange_iff hlen).2 ⟨hg, hg8, hlead, hlead4000, hoffsets⟩
    have hin : ¬ (!groupsInRange g offsets lead) = true := by simpa using hin
    refine ⟨fun hpart hne => (if_neg hin).trans (if_pos ⟨hpart, hne⟩), fun hallowed => ?_⟩
    have hstate : ¬ (s.system.part ≠ .config ∧ g ≠ s.schedule.groups) := by tauto
    exact (if_neg hin).trans (if_neg hstate)

/-! ## SET POWER, SET EASING and SET SERVICE (R109, R183) -/

theorem serviceInRange_iff (pollUs holdMs : Nat) : serviceInRange pollUs holdMs = true ↔
    500 ≤ pollUs ∧ pollUs ≤ 16000 ∧ pollUs % 500 = 0 ∧ 250 ≤ holdMs ∧ holdMs ≤ 8000 ∧ holdMs % 250 = 0 := by
  simp [serviceInRange, and_assoc]

/-- Settles O23. -/
theorem setPowerEasingAndService : Obligations.SetPowerEasingAndService := by
  intro t b rise fall pollUs holdMs s
  refine ⟨rfl, fun hzero => if_pos hzero, fun hrise hfall => if_neg (not_or.2 ⟨hrise, hfall⟩), fun hout => ?_,
    fun hpoll hpollMax hpollStep hhold hholdMax hholdStep => ?_⟩
  · rw [← serviceInRange_iff] at hout
    exact if_neg hout
  · exact if_pos ((serviceInRange_iff pollUs holdMs).2 ⟨hpoll, hpollMax, hpollStep, hhold, hholdMax, hholdStep⟩)

/-! ## Writes that are no command (R180) -/

theorem writeFits_eq_false {b : Byte} {rest : List Byte}
    (h : sysCommandOf b.toNat = none ∨ ∃ cmd, sysCommandOf b.toNat = some cmd ∧
      cmd.length (b :: rest) ≠ rest.length + 1) : writeFits (b :: rest) = false := by
  rcases h with hnone | ⟨cmd, hcmd, hlen⟩
  · simp [writeFits, namedCommand, hnone]
  · simp [writeFits, namedCommand, hcmd, hlen]

/-- Settles O30. -/
theorem unknownWriteIsRefused : Obligations.UnknownWriteIsRefused := by
  intro t b rest s h
  have hunfit : ¬ ((b :: rest).isEmpty || writeFits (b :: rest)) = true := by simp [writeFits_eq_false h]
  exact ⟨namedCommand (b :: rest), if_neg hunfit⟩

end Sys2Proof.Machine

namespace Sys2Proof.Machine

/-! # One step (11.1)

What a step does depends on the queue alone: idle when no command waits (log 4), and otherwise run the front command
with the rest of the queue behind it. -/

theorem step_of_pending_nil {s : State} (h : s.pending = []) : step s = .next s := by
  unfold step
  rw [h]

theorem step_of_pending_cons {s : State} {c : Instr} {rest : List Instr} (h : s.pending = c :: rest) :
    step s = exec c { s with pending := rest } := by
  unfold step
  rw [h]

/-- Settles O1: a command put in front of a queue is taken off it again, which leaves the state it was put on. -/
theorem stepTakesFrontCommand : Obligations.StepTakesFrontCommand :=
  ⟨fun _ _ => step_of_pending_cons rfl, fun _ => step_of_pending_nil⟩

end Sys2Proof.Machine

namespace Sys2Proof.Machine

/-! # One sound chain engine (R73, R100, R113, R116)

`Chain.Kept x y` says that an operation on an engine keeps it sound, and at rest where it was. Most operations write
only records, settle records, marks and counters, or what a RUNNING chain alone holds; those are kept by
`Chain.Kept.of_link`. What sends a frame, takes one from the list or moves the chain's state is looked at one by one. -/

/-! ## Tags (R73) -/

@[simp] theorem tagsInOrder_nil (n : Nat) : tagsInOrder [] n := by simp [tagsInOrder]

/-- The oldest frame leaves the list. -/
theorem tagsInOrder.drop {fs : List InFlight} {n : Nat} (h : tagsInOrder fs n) : tagsInOrder (fs.drop 1) n := by
  intro i f hf
  rw [List.getElem?_drop] at hf
  have hi : 1 + i < fs.length := (List.getElem?_eq_some_iff.1 hf).1
  have hlen : (fs.drop 1).length - i = fs.length - (1 + i) := by rw [List.length_drop]; omega
  rw [hlen]
  exact h _ f hf

/-- One more frame is sent with the next tag. -/
theorem tagsInOrder.send {fs : List InFlight} {n : Nat} (h : tagsInOrder fs n) {f : InFlight} (hf : f.tag = n % 4) :
    tagsInOrder (fs ++ [f]) (n + 1) := by
  intro i g hg
  rw [List.length_append, List.length_singleton]
  rcases lt_or_ge i fs.length with hi | hi
  · obtain ⟨htag, hlt⟩ := h i g (by rwa [List.getElem?_append_left hi] at hg)
    exact ⟨by omega, hlt⟩
  · have hlast : i = fs.length := by
      have := (List.getElem?_eq_some_iff.1 hg).1
      rw [List.length_append, List.length_singleton] at this
      omega
    obtain rfl : f = g := by simpa [hlast] using hg
    exact ⟨by omega, by omega⟩

/-! ## What keeps an engine sound -/

/-- The chain is UNUSED or STOPPED, as every chain is in CONFIG (R113 to R115). -/
def Chain.AtRest (ch : Chain) : Prop := ch.state = .unused ∨ ch.state = .stopped

/-- An engine that was sound is sound still, and at rest where it was. -/
def Chain.Kept (x y : Chain) : Prop := x.Sound → y.Sound ∧ (x.AtRest → y.AtRest)

theorem Chain.Kept.refl (x : Chain) : x.Kept x := fun h => ⟨h, id⟩

theorem Chain.Kept.trans {x y z : Chain} (h : x.Kept y) (k : y.Kept z) : x.Kept z := fun hx =>
  ⟨(k (h hx).1).1, (k (h hx).1).2 ∘ (h hx).2⟩

/-- The chain's state with its driver count, its attempt, and its frames in flight. -/
def Chain.link (ch : Chain) :
    ChainState × Nat × Option Attempt × Option Nat × Option Sent × List InFlight × Nat :=
  (ch.state, ch.drivers, ch.attempt, ch.wait, ch.resend, ch.inflight, ch.sentCount)

/-- What only a RUNNING chain holds: queues, sources, timers and marks. -/
def Chain.traffic (ch : Chain) : List StageEntry × List LatchRequest × Option DirectRequest × Option PollRequest ×
    Option Nat × Option Nat × Bool × Bool :=
  (ch.staging, ch.latchSource, ch.direct, ch.poll, ch.pollDue, ch.runDue, ch.latched, ch.problem)

/-- The chain holds none of it. -/
def Chain.Quiet (ch : Chain) : Prop := ch.traffic = ([], [], none, none, none, none, false, false)

theorem Chain.quiet_iff (ch : Chain) : ch.Quiet ↔
    ch.staging = [] ∧ ch.latchSource = [] ∧ ch.direct = none ∧ ch.poll = none ∧ ch.pollDue = none ∧ ch.runDue = none
      ∧ ch.latched = false ∧ ch.problem = false := by
  simp [Chain.Quiet, Chain.traffic]

theorem Chain.Sound.isQuiet {ch : Chain} (h : ch.Sound) (hr : ch.state ≠ .running) : ch.Quiet :=
  ch.quiet_iff.2 (h.quiet hr)

/-- An operation that leaves the link alone and gives no traffic to a chain that is not RUNNING. -/
theorem Chain.Kept.of_link {x y : Chain} (hlink : y.link = x.link) (hlen : y.mirror.length = x.mirror.length)
    (hquiet : x.state ≠ .running → x.Quiet → y.Quiet) : x.Kept y := by
  intro h
  obtain ⟨hstate, hdrivers, hattempt, hwait, hresend, hflight, hsent⟩ : y.state = x.state ∧ y.drivers = x.drivers ∧
      y.attempt = x.attempt ∧ y.wait = x.wait ∧ y.resend = x.resend ∧ y.inflight = x.inflight ∧
      y.sentCount = x.sentCount := by simpa [Chain.link] using hlink
  refine ⟨?_, fun hrest => by simpa [Chain.AtRest, hstate] using hrest⟩
  exact {
    records := hlen.trans h.records
    window := hflight ▸ h.window
    tags := by rw [hflight, hsent]; exact h.tags
    running := by rw [hstate, hattempt, hwait, hflight]; exact h.running
    attempt := by rw [hstate, hattempt, hwait, hflight]; exact h.attempt
    resend := by rw [hresend, hattempt, hflight]; exact h.resend
    waiting := by rw [hstate, hwait, hflight]; exact h.waiting
    resting := by rw [hstate, hattempt, hflight]; exact h.resting
    quiet := hstate ▸ fun hr => y.quiet_iff.1 (hquiet hr (h.isQuiet hr))
    unused := by rw [hstate, hdrivers]; exact h.unused }

/-- An operation that writes neither link nor traffic. -/
theorem Chain.Kept.of_same {x y : Chain} (hlink : y.link = x.link) (htraffic : y.traffic = x.traffic)
    (hlen : y.mirror.length = x.mirror.length) : x.Kept y :=
  .of_link hlink hlen fun _ hx => htraffic.trans hx

/-- An operation on the traffic of a RUNNING chain. -/
theorem Chain.Kept.of_running {x y : Chain} (hr : x.state = .running) (hlink : y.link = x.link)
    (hlen : y.mirror.length = x.mirror.length) : x.Kept y :=
  .of_link hlink hlen fun h => absurd hr h

/-- A chain that is not at rest may come to any sound state. -/
theorem Chain.Kept.of_sound {x y : Chain} (hrest : ¬ x.AtRest) (h : x.Sound → y.Sound) : x.Kept y :=
  fun hx => ⟨h hx, fun hr => absurd hr hrest⟩

theorem Chain.AtRest.not_running {ch : Chain} (h : ch.AtRest) : ch.state ≠ .running := by
  rcases h with h | h <;> simp [h]

theorem Chain.not_atRest_of_running {ch : Chain} (h : ch.state = .running) : ¬ ch.AtRest := fun hr => hr.not_running h

theorem Chain.not_atRest_of_enumerates {ch : Chain} (h : ch.state = .enumerating ∨ ch.state = .recovering) :
    ¬ ch.AtRest := by
  rintro (hr | hr) <;> simp [hr] at h

/-- A chain in an attempt is ENUMERATING or RECOVERING (R116). -/
theorem Chain.Sound.enumerates {ch : Chain} (h : ch.Sound) (ha : ch.attempt ≠ none) :
    ch.state = .enumerating ∨ ch.state = .recovering := (h.attempt ha).1

/-- No wait runs in an attempt (R116). -/
theorem Chain.Sound.wait_eq_none {ch : Chain} (h : ch.Sound) (ha : ch.attempt ≠ none) : ch.wait = none :=
  have ⟨_, hwait, _⟩ := h.attempt ha
  hwait

/-- Nor on a RUNNING chain (R116). -/
theorem Chain.Sound.wait_of_running {ch : Chain} (h : ch.Sound) (hr : ch.state = .running) : ch.wait = none :=
  have ⟨_, hwait, _⟩ := h.running hr
  hwait

theorem Chain.Sound.not_running {ch : Chain} (h : ch.Sound) (ha : ch.attempt ≠ none) : ch.state ≠ .running :=
  fun hr => ha (h.running hr).1

/-- Outside an attempt nothing waits to be sent again (R100). -/
theorem Chain.Sound.resend_eq_none {ch : Chain} (h : ch.Sound) (ha : ch.attempt = none) : ch.resend = none := by
  by_contra hr
  exact (h.resend hr).1 ha

/-- A chain that has left UNUSED has drivers. -/
theorem Chain.Sound.drivers_ne {ch : Chain} (h : ch.Sound) (hs : ch.state ≠ .unused) : ch.drivers ≠ 0 :=
  mt h.unused.2 hs

/-- What a chain at rest is: nothing in flight, no attempt, no wait and no traffic. -/
theorem Chain.Sound.atRest {ch : Chain} (h : ch.Sound) (hr : ch.AtRest) :
    ch.inflight = [] ∧ ch.attempt = none ∧ ch.wait = none ∧ ch.resend = none ∧ ch.Quiet := by
  have hattempt : ch.attempt = none := by
    by_contra ha
    exact Chain.not_atRest_of_enumerates (h.enumerates ha) hr
  have hwait : ch.wait = none := by
    by_contra hw
    exact Chain.not_atRest_of_enumerates (h.waiting hw).1 hr
  exact ⟨h.resting hr.not_running hattempt, hattempt, hwait, h.resend_eq_none hattempt, h.isQuiet hr.not_running⟩

/-- A chain outside RUNNING with no attempt and nothing in flight or held is sound. -/
theorem Chain.Sound.of_idle {ch : Chain} (hrecords : ch.mirror.length = 48) (hflight : ch.inflight = [])
    (hattempt : ch.attempt = none) (hresend : ch.resend = none) (hquiet : ch.Quiet) (hrunning : ch.state ≠ .running)
    (hwait : ch.wait ≠ none → ch.state = .enumerating ∨ ch.state = .recovering)
    (hunused : ch.state = .unused ↔ ch.drivers = 0) : ch.Sound where
  records := hrecords
  window := by simp [hflight]
  tags := by simp [hflight]
  running hr := absurd hr hrunning
  attempt ha := absurd hattempt ha
  resend hr := absurd hresend hr
  waiting hw := ⟨hwait hw, hflight⟩
  resting _ _ := hflight
  quiet _ := ch.quiet_iff.1 hquiet
  unused := hunused

/-! ## Operations that leave the link alone -/

theorem Chain.updRecord_kept (ch : Chain) (a : Nat) (f : Mirror → Mirror) : ch.Kept (ch.updRecord a f) :=
  .of_same rfl rfl (by simp [Chain.updRecord])

theorem Chain.forgetGroups_kept (ch : Chain) (m : BitVec 8) : ch.Kept (ch.forgetGroups m) :=
  .of_same rfl rfl (by simp [Chain.forgetGroups])

/-- The problem mark is set on a RUNNING chain only (R103). -/
theorem Chain.markProblem_kept (ch : Chain) : ch.Kept ch.markProblem :=
  .of_link rfl rfl fun hr hq => by simpa [Chain.Quiet, Chain.traffic, Chain.markProblem, hr] using hq

/-- The latched mark is set on a RUNNING chain only (R127). -/
theorem Chain.takeLatched_kept (ch : Chain) : ch.Kept ch.takeLatched :=
  .of_link rfl rfl fun hr hq => by simpa [Chain.Quiet, Chain.traffic, Chain.takeLatched, hr] using hq

/-- A claim ends: the latched mark is cleared (R126). -/
theorem Chain.dropLatched_kept (ch : Chain) : ch.Kept { ch with latched := false } :=
  .of_link rfl rfl fun _ hq =>
    have ⟨hstaging, hlatch, hdirect, hpoll, htick, hrun, _, hproblem⟩ := ch.quiet_iff.1 hq
    (Chain.quiet_iff _).2 ⟨hstaging, hlatch, hdirect, hpoll, htick, hrun, rfl, hproblem⟩

/-- The running timer has run its 10 s (R122). -/
theorem Chain.endRunTimer_kept (ch : Chain) : ch.Kept { ch with attempts := 0, runDue := none } :=
  .of_link rfl rfl fun _ hq =>
    have ⟨hstaging, hlatch, hdirect, hpoll, htick, _, hmarks⟩ := ch.quiet_iff.1 hq
    (Chain.quiet_iff _).2 ⟨hstaging, hlatch, hdirect, hpoll, htick, rfl, hmarks⟩

theorem Chain.giveUpStage_kept (ch : Chain) (e : StageEntry) (n : Nat) : ch.Kept (ch.giveUpStage e n) := by
  unfold Chain.giveUpStage
  dsimp only
  split <;> exact .of_same rfl rfl (by simp [Chain.updRecord, Chain.updSettle])

theorem Chain.acceptStage_kept (ch : Chain) (e : StageEntry) (n : Nat) : ch.Kept (ch.acceptStage e n) := by
  unfold Chain.acceptStage
  dsimp only
  split <;> exact .of_same rfl rfl (by simp [Chain.updRecord, Chain.updSettle])

/-- STAGEs wait on a RUNNING chain only, so elsewhere none is discarded (R65, R98). -/
theorem Chain.lateFor_kept (ch : Chain) (k : Nat) : ch.Kept (ch.lateFor k) :=
  .of_link rfl (by simp [Chain.lateFor]) fun _ hq => by
    simp only [Chain.quiet_iff] at hq ⊢
    simpa [Chain.lateFor, hq.1] using hq

theorem Chain.oweLatch_kept (ch : Chain) (m : BitVec 8) : ch.Kept (ch.oweLatch m) := by
  unfold Chain.oweLatch
  split
  next h =>
    obtain ⟨-, hr, -⟩ := h
    exact .of_running hr rfl rfl
  next => exact .refl ch

theorem Chain.takeHandOver_kept (ch : Chain) (k n : Nat) (late : Bool) (ho : List HandedZone) :
    ch.Kept (ch.takeHandOver k n late ho) := by
  unfold Chain.takeHandOver
  split
  next => exact .refl ch
  next h => exact .of_running (by simpa using (not_or.1 h).1) rfl rfl

theorem Chain.restartTick_kept (ch : Chain) (due : Nat) : ch.Kept (ch.restartTick due) := by
  unfold Chain.restartTick
  split
  next h => exact .of_running h rfl rfl
  next => exact .refl ch

/-- The tick of a RUNNING chain: a POLL may come to wait. -/
theorem Chain.pollTick_kept {ch : Chain} (hr : ch.state = .running) (due : Option Nat) :
    ch.Kept { ch.pollTick with pollDue := due } := by
  unfold Chain.pollTick
  split
  · exact .of_running hr rfl rfl
  · split <;> exact .of_running hr rfl rfl

/-- A new frame: settle records and the chain's departure are cleared (R64, R98). -/
theorem Chain.clearFrame_kept (ch : Chain) :
    ch.Kept { ch with settle := List.replicate 8 Settle.clear, leftFrame := false } := .of_same rfl rfl rfl

theorem State.closeChain_kept (s : State) (c : Nat) (ch : Chain) : ch.Kept (s.closeChain c ch) := by
  unfold State.closeChain
  induction s.unreached using List.reverseRecOn with
  | nil => exact ch.oweLatch_kept _
  | append_singleton ks k ih =>
    rw [List.foldl_append]
    refine .trans ih ?_
    simp only [List.foldl_cons, List.foldl_nil]
    split
    · exact Chain.lateFor_kept _ k
    · exact .refl _

/-! ## Frames sent and frames heard (R73, R85, R100) -/

/-- The oldest frame leaves the list. -/
theorem Chain.hear_kept (ch : Chain) (n : Nat) : ch.Kept { ch with inflight := ch.inflight.drop 1, damaged := n } := by
  have hle : (ch.inflight.drop 1).length ≤ ch.inflight.length := List.length_drop ▸ Nat.sub_le _ _
  refine fun h => ⟨?_, id⟩
  exact {
    records := h.records
    window := hle.trans h.window
    tags := h.tags.drop
    running := fun hr =>
      have ⟨hattempt, hwait, hall⟩ := h.running hr
      ⟨hattempt, hwait, fun f hf => hall f (List.mem_of_mem_drop hf)⟩
    attempt := fun ha =>
      have ⟨hstate, hwait, hone, hall⟩ := h.attempt ha
      ⟨hstate, hwait, hle.trans hone, fun f hf => hall f (List.mem_of_mem_drop hf)⟩
    resend := fun hx =>
      have ⟨hattempt, hnone, hall⟩ := h.resend hx
      ⟨hattempt, by simp [hnone], hall⟩
    waiting := fun hw => ⟨(h.waiting hw).1, by simp [(h.waiting hw).2]⟩
    resting := fun hr ha => by simp [h.resting hr ha]
    quiet := h.quiet
    unused := h.unused }

/-- The echo of the oldest frame begins (R89). -/
theorem Chain.beginEcho_kept {ch : Chain} {f : InFlight} {rest : List InFlight} (hflight : ch.inflight = f :: rest) :
    ch.Kept { ch with inflight := { f with begun := true } :: rest } := by
  have hall : ∀ {b : Bool}, (∀ g ∈ ch.inflight, g.sent.ofAttempt = b) →
      ∀ g ∈ { f with begun := true } :: rest, g.sent.ofAttempt = b := by
    intro b hp
    rw [hflight] at hp
    exact List.forall_mem_cons.2 (List.forall_mem_cons.1 hp)
  refine fun h => ⟨?_, id⟩
  exact {
    records := h.records
    window := by simpa [hflight] using h.window
    tags := by
      intro i g hg
      have htags := h.tags i
      rw [hflight] at htags
      cases i with
      | zero => exact Option.some.inj hg ▸ htags f rfl
      | succ i => exact htags g hg
    running := fun hr =>
      have ⟨hattempt, hwait, hsent⟩ := h.running hr
      ⟨hattempt, hwait, hall hsent⟩
    attempt := fun ha =>
      have ⟨hstate, hwait, hone, hsent⟩ := h.attempt ha
      ⟨hstate, hwait, by simpa [hflight] using hone, hall hsent⟩
    resend := fun hx =>
      have ⟨_, hnone, _⟩ := h.resend hx
      absurd (hflight.symm.trans hnone) nofun
    waiting := fun hw => by simp [(h.waiting hw).2] at hflight
    resting := fun hr ha => by simp [h.resting hr ha] at hflight
    quiet := h.quiet
    unused := h.unused }

/-- A frame that a RUNNING chain sends (R100). -/
theorem Chain.Sound.granted {ch : Chain} (h : ch.Sound) (hr : ch.state = .running) (hroom : ch.inflight.length < 4)
    {x : Sent} (hx : x.ofAttempt = false) (now : Nat) (retry : Bool) : (ch.granted now x retry).Sound where
  records := h.records
  window := by simp [Chain.granted]; omega
  tags := h.tags.send rfl
  running _ :=
    have ⟨hattempt, hwait, hall⟩ := h.running hr
    ⟨hattempt, hwait, List.forall_mem_append.2 ⟨hall, List.forall_mem_singleton.2 hx⟩⟩
  attempt ha := absurd (h.running hr).1 ha
  resend hs := absurd (h.running hr).1 (h.resend hs).1
  waiting hw := absurd (h.wait_of_running hr) hw
  resting hn := absurd hr hn
  quiet hn := absurd hr hn
  unused := h.unused

/-- A chain in an attempt whose CLEAR or ASSIGN is in flight (R116, R117). -/
theorem Chain.Sound.of_attempt {ch : Chain} {f : InFlight} (hrecords : ch.mirror.length = 48)
    (hstate : ch.state = .enumerating ∨ ch.state = .recovering) (hwait : ch.wait = none) (hresend : ch.resend = none)
    (hflight : ch.inflight = [f]) (hsent : f.sent.ofAttempt = true) (htags : tagsInOrder [f] ch.sentCount)
    (hattempt : ch.attempt ≠ none) (hquiet : ch.Quiet) (hunused : ch.state = .unused ↔ ch.drivers = 0) : ch.Sound where
  records := hrecords
  window := by simp [hflight]
  tags := hflight ▸ htags
  running hr := by simp [hr] at hstate
  attempt _ := ⟨hstate, hwait, by simp [hflight], by simpa [hflight] using hsent⟩
  resend hr := absurd hresend hr
  waiting hw := absurd hwait hw
  resting _ ha := absurd ha hattempt
  quiet _ := ch.quiet_iff.1 hquiet
  unused := hunused

/-- A frame that an attempt sends, nothing being in flight (R117, R118). -/
theorem Chain.Sound.granted_attempt {ch : Chain} (h : ch.Sound) (ha : ch.attempt ≠ none) (hflight : ch.inflight = [])
    {x : Sent} (hx : x.ofAttempt = true) (now : Nat) (retry : Bool) (next : Attempt) :
    Chain.Sound { ch.granted now x retry with attempt := some next, resend := none } :=
  .of_attempt (f := ⟨x, ch.sentCount % 4, max now ch.lineFree + 2 * x.bits, retry, false⟩) h.records (h.enumerates ha)
    (h.wait_eq_none ha) rfl (by simp [Chain.granted, hflight]) hx ((tagsInOrder_nil ch.sentCount).send rfl) nofun
    (h.isQuiet (h.not_running ha)) h.unused

/-- What the arbiter picks is no frame of an attempt, and leaves the link alone. -/
theorem Chain.pick_link {ch rest : Chain} {x : Sent} {retry : Bool} (h : ch.pick = some (x, retry, rest)) :
    x.ofAttempt = false ∧ rest.link = ch.link ∧ rest.mirror = ch.mirror := by
  rcases ch.pick_cases x retry rest h with ⟨l, ls, -, rfl, -, rfl⟩ | ⟨d, -, rfl, -, rfl⟩ | ⟨p, -, rfl, -, rfl⟩ |
    ⟨_, e, _, -, -, rfl, -, rfl⟩ <;> exact ⟨rfl, rfl, rfl⟩

/-- The arbiter sends at most one frame more (R100, R104, R106). -/
theorem Chain.serve_kept (ch : Chain) (now : Nat) : ch.Kept (ch.serve now) := by
  rcases ch.serve_cases now with h | ⟨x, retry, rest, -, hroom, h, ⟨hr, hp⟩ | ⟨hr, hx, rfl, rfl⟩⟩ <;> rw [h]
  · exact .refl ch
  · obtain ⟨hx, hlink, hmirror⟩ := Chain.pick_link hp
    obtain ⟨hstate, -, -, -, -, hflight, -⟩ := by simpa only [Chain.link, Prod.mk.injEq] using hlink
    refine .of_sound (Chain.not_atRest_of_running hr) fun hs => ?_
    have hrest : rest.Sound := (Chain.Kept.of_running hr hlink (congrArg List.length hmirror) hs).1
    exact hrest.granted (hstate.trans hr) (hflight ▸ hroom) hx now retry
  · intro hs
    obtain ⟨hattempt, hflight, hsent⟩ := hs.resend (by simp [hx])
    obtain ⟨next, hnext⟩ := Option.ne_none_iff_exists'.1 hattempt
    have hgranted := hs.granted_attempt hattempt hflight (hsent x hx) now true next
    rw [← hnext] at hgranted
    exact ⟨hgranted, fun hrest => absurd hrest (Chain.not_atRest_of_enumerates (hs.enumerates hattempt))⟩

/-- A retry joins its source, or waits in its attempt for the next boundary (R87, R101). -/
theorem Chain.requeue_kept {ch : Chain} {x : Sent} (hrunning : x.ofAttempt = false → ch.state = .running)
    (hattempt : x.ofAttempt = true → ch.attempt ≠ none ∧ ch.inflight = []) : ch.Kept (ch.requeue x) := by
  have waits (hx : x.ofAttempt = true) : ch.Kept { ch with resend := some x } := fun h =>
    have ⟨ha, hflight⟩ := hattempt hx
    ⟨{ h with resend := fun _ => ⟨ha, hflight, by rintro y ⟨⟩; exact hx⟩ }, id⟩
  cases x with
  | stage e => exact .of_running (hrunning rfl) rfl rfl
  | latch m => exact .of_running (hrunning rfl) rfl rfl
  | poll a => exact .of_running (hrunning rfl) rfl rfl
  | direct a q => exact .of_running (hrunning rfl) rfl rfl
  | assign a g => exact waits rfl
  | clear => exact waits rfl

/-! ## Chain states (R113 to R125) -/

@[simp] theorem Chain.unassignAll_mirror_length (ch : Chain) : ch.unassignAll.mirror.length = ch.mirror.length := by
  simp [Chain.unassignAll]

/-- A RUNNING chain that leaves RUNNING (R113, R121). -/
theorem Chain.recovered_kept {ch : Chain} (hr : ch.state = .running) (now : Nat) (cause : Cause) :
    ch.Kept (ch.recovered now cause) := by
  refine .of_sound (Chain.not_atRest_of_running hr) fun h => ?_
  have hdrivers : ch.drivers ≠ 0 := h.drivers_ne (by simp [hr])
  have hrecords : (ch.enterRecovering cause).mirror.length = 48 := by
    simp [Chain.enterRecovering, Chain.unassignAll, Chain.discard, h.records]
  unfold Chain.recovered
  split
  · exact .of_idle hrecords rfl rfl rfl rfl nofun (fun _ => .inr rfl) (iff_of_false nofun hdrivers)
  · exact .of_idle (by simpa using hrecords) rfl rfl rfl rfl nofun (fun hw => absurd rfl hw)
      (iff_of_false nofun hdrivers)

/-- An attempt fails and another follows (R119). -/
theorem Chain.attemptLost_kept {ch : Chain} (ha : ch.attempt ≠ none) (now : Nat) (cause : Cause) :
    ch.Kept (ch.attemptLost now cause) := fun h =>
  ⟨.of_idle h.records rfl rfl rfl (h.isQuiet (h.not_running ha)) (h.not_running ha) (fun _ => h.enumerates ha) h.unused,
    fun hr => absurd hr (Chain.not_atRest_of_enumerates (h.enumerates ha))⟩

/-- The last attempt fails (R122). -/
theorem Chain.attemptsExhausted_kept {ch : Chain} (ha : ch.attempt ≠ none) (cause : Cause) :
    ch.Kept (ch.attemptsExhausted cause) := fun h =>
  have hdrivers : ch.drivers ≠ 0 := h.drivers_ne fun hu => by simpa [hu] using h.enumerates ha
  ⟨.of_idle (by simpa [Chain.attemptsExhausted] using h.records) rfl rfl rfl (h.isQuiet (h.not_running ha)) nofun
      (fun hw => absurd rfl hw) (iff_of_false nofun hdrivers),
    fun hr => absurd hr (Chain.not_atRest_of_enumerates (h.enumerates ha))⟩

/-- An attempt succeeds (R120). -/
theorem Chain.enterRunning_kept {ch : Chain} (ha : ch.attempt ≠ none) (hflight : ch.inflight = [])
    (hresend : ch.resend = none) (now interval n : Nat) : ch.Kept (ch.enterRunning now interval n) := by
  intro h
  have hdrivers : ch.drivers ≠ 0 := h.drivers_ne fun hu => by simpa [hu] using h.enumerates ha
  refine ⟨?_, fun hr => absurd hr (Chain.not_atRest_of_enumerates (h.enumerates ha))⟩
  exact {
    records := h.records
    window := h.window
    tags := h.tags
    running := fun _ => ⟨rfl, rfl, by simp [Chain.enterRunning, hflight]⟩
    attempt := fun ha => absurd rfl ha
    resend := fun hr => absurd hresend hr
    waiting := fun hw => absurd rfl hw
    resting := fun hr => absurd rfl hr
    quiet := fun hr => absurd rfl hr
    unused := iff_of_false nofun hdrivers }

/-- The wait before an attempt ends and its CLEAR is sent (R117). -/
theorem Chain.beginAttempt_kept {ch : Chain} (hw : ch.wait ≠ none) (now : Nat) : ch.Kept (ch.beginAttempt now) := by
  intro h
  obtain ⟨hstate, hflight⟩ := h.waiting hw
  have hattempt : ch.attempt = none := by
    by_contra ha
    exact hw (h.wait_eq_none ha)
  have hrunning : ch.state ≠ .running := fun hr => hw (h.wait_of_running hr)
  refine ⟨?_, fun hr => absurd hr (Chain.not_atRest_of_enumerates hstate)⟩
  exact .of_attempt (f := ⟨.clear, 0, max now ch.lineFree + 2 * Sent.clear.bits, false, false⟩) h.records hstate rfl
    (h.resend_eq_none hattempt) (by simp [Chain.beginAttempt, Chain.send, Chain.transmit, hflight]) rfl
    ((tagsInOrder_nil 0).send rfl) nofun (h.isQuiet hrunning) h.unused

/-- A chain in use is enumerated afresh (R116, R124, R131). -/
theorem Chain.Sound.beginEnumeration {ch : Chain} (h : ch.Sound) (hd : ch.drivers ≠ 0) (now : Nat) (announce : Bool) :
    (ch.beginEnumeration now announce).Sound :=
  .of_idle (by simpa [Chain.beginEnumeration, Chain.discard, Chain.unassignAll] using h.records) rfl rfl rfl rfl nofun
    (fun _ => .inl rfl) (iff_of_false nofun hd)

theorem Chain.Sound.startUp {ch : Chain} (h : ch.Sound) (now : Nat) : (ch.startUp now).Sound := by
  unfold Chain.startUp
  split
  next => exact h
  next hd => exact h.beginEnumeration hd now false

/-- STOP leaves a chain sound and at rest (R125). -/
theorem Chain.Sound.halt {ch : Chain} (h : ch.Sound) (now : Nat) : (ch.halt now).Sound ∧ (ch.halt now).AtRest := by
  unfold Chain.halt
  split
  next hd => exact ⟨h, .inl (h.unused.2 hd)⟩
  next hd =>
    exact ⟨.of_idle (by simpa [Chain.transmit, Chain.discard, Chain.unassignAll] using h.records) rfl rfl rfl rfl nofun
      (fun hw => absurd rfl hw) (iff_of_false nofun hd), .inr rfl⟩

/-- SOFT RESTART leaves a chain sound and at rest (R113, R125). -/
theorem Chain.Sound.restart {ch : Chain} (h : ch.Sound) (now : Nat) :
    (ch.restart now).Sound ∧ (ch.restart now).AtRest := by
  obtain ⟨hsound, hrest⟩ := h.halt now
  obtain ⟨hflight, hattempt, hwait, hresend, hquiet⟩ := hsound.atRest hrest
  have hquiet' : (ch.restart now).Quiet :=
    have ⟨hstaging, hlatch, hdirect, hpoll, htick, hrun, _, hproblem⟩ := (Chain.quiet_iff _).1 hquiet
    (Chain.quiet_iff _).2 ⟨hstaging, hlatch, hdirect, hpoll, htick, hrun, rfl, hproblem⟩
  exact ⟨.of_idle hsound.records hflight hattempt hresend hquiet' hrest.not_running (fun hw => absurd hwait hw)
    hsound.unused, hrest⟩

/-- SET CHAIN with a new driver count, which it takes for a chain at rest alone (R114, R181). -/
theorem Chain.configure_kept {ch : Chain} {d : Nat} (hd : d = ch.drivers ∨ ch.AtRest) (w : Nat) (sensor : Option Nat) :
    ch.Kept (ch.configure d w sensor) := by
  by_cases hsame : d = ch.drivers
  · subst hsame
    exact .of_same (by simp [Chain.link, Chain.configure, Chain.stateFor]) rfl rfl
  · intro h
    have hrest := hd.resolve_left hsame
    obtain ⟨hflight, hattempt, hwait, hresend, hquiet⟩ := h.atRest hrest
    have hstate : (ch.configure d w sensor).state = if d = 0 then .unused else .stopped := by
      simp [Chain.configure, Chain.stateFor, hsame]
    have hnew : (ch.configure d w sensor).AtRest := by
      rw [Chain.AtRest, hstate]
      split <;> simp
    refine ⟨.of_idle h.records hflight hattempt hresend hquiet hnew.not_running (fun hw => absurd hwait hw) ?_,
      fun _ => hnew⟩
    rw [hstate]
    by_cases h0 : d = 0 <;> simp [h0, Chain.configure]

end Sys2Proof.Machine

namespace Sys2Proof.Machine

/-! # The chain engines of a sound part (R73, R100, R113, R116)

`EnginesKept s u` says of an operation that each engine is kept and that the part does not come to CONFIG. Every
operation but a power-on, START, STOP and SOFT RESTART is made of such operations. -/

/-! ## All chain engines -/

/-- Each engine is kept. -/
def ChainsKept (xs ys : List Chain) : Prop :=
  ys.length = xs.length ∧ ∀ k, (xs.getD k Chain.powerOn).Kept (ys.getD k Chain.powerOn)

theorem ChainsKept.of_eq {xs ys : List Chain} (h : ys = xs) : ChainsKept xs ys := h ▸ ⟨rfl, fun _ => .refl _⟩

theorem ChainsKept.mapIdx (xs : List Chain) {f : Nat → Chain → Chain} (hf : ∀ (c : Nat) (x : Chain), x.Kept (f c x)) :
    ChainsKept xs (xs.mapIdx f) := by
  refine ⟨List.length_mapIdx, fun k => ?_⟩
  rcases lt_or_ge k xs.length with hlt | hge
  · simpa [List.getD_eq_getElem?_getD, hlt] using hf k xs[k]
  · simpa [List.getD_eq_getElem?_getD, List.getElem?_eq_none hge] using Chain.Kept.refl _

theorem ChainsKept.map (xs : List Chain) {f : Chain → Chain} (hf : ∀ x : Chain, x.Kept (f x)) :
    ChainsKept xs (xs.map f) := by
  rw [map_eq_mapIdx]
  exact .mapIdx xs fun _ => hf

theorem ChainsKept.set (xs : List Chain) (c : Nat) {y : Chain} (h : (xs.getD c Chain.powerOn).Kept y) :
    ChainsKept xs (xs.set c y) := by
  refine ⟨List.length_set, fun k => ?_⟩
  by_cases hk : c = k
  · subst hk
    rcases lt_or_ge c xs.length with hlt | hge
    · rwa [getD_set_self _ _ _ _ hlt]
    · rw [List.set_eq_of_length_le hge]
      exact .refl _
  · rw [getD_set_ne _ _ _ _ _ hk]
    exact .refl _

/-! ## The whole state -/

/-- Each engine is kept, and the part is in CONFIG only where it was. -/
structure EnginesKept (s u : State) : Prop where
  part : u.system.part = .config → s.system.part = .config
  chains : ChainsKept s.chains u.chains

/-- Engines and state of the part stand as they were. -/
theorem EnginesKept.same {s u : State} (h : u.system.part = s.system.part ∧ u.chains = s.chains) : EnginesKept s u :=
  ⟨h.1.symm.trans, .of_eq h.2⟩

theorem EnginesKept.refl (s : State) : EnginesKept s s := .same ⟨rfl, rfl⟩

theorem EnginesKept.trans {s t u : State} (h : EnginesKept s t) (k : EnginesKept t u) : EnginesKept s u where
  part := h.part ∘ k.part
  chains := ⟨k.chains.1.trans h.chains.1, fun c => (h.chains.2 c).trans (k.chains.2 c)⟩

/-- `EnginesKept.trans` with the later move first, so that a proof reads from the outermost operation inwards. -/
theorem EnginesKept.after {s t u : State} (k : EnginesKept t u) (h : EnginesKept s t) : EnginesKept s u := h.trans k

theorem EnginesKept.foldl {α : Type} {f : State → α → State} (hf : ∀ s a, EnginesKept s (f s a)) (as : List α) :
    ∀ s, EnginesKept s (as.foldl f s) := by
  induction as with
  | nil => exact EnginesKept.refl
  | cons a as ih => exact fun s => (hf s a).trans (ih _)

/-- The engine of any chain number, in range or not, is sound. -/
theorem ChainsSound.chain {s : State} (h : ChainsSound s) (k : Nat) : (s.chain k).Sound :=
  getD_all (p := Chain.Sound) _ _ _ h.each Chain.powerOn_sound

/-- In CONFIG the engine of any chain number is at rest (R113 to R115). -/
theorem ChainsSound.chain_atRest {s : State} (h : ChainsSound s) (hp : s.system.part = .config) (k : Nat) :
    (s.chain k).AtRest :=
  getD_all (p := Chain.AtRest) _ _ _ (h.config hp) (.inl rfl)

theorem EnginesKept.chainsSound {s u : State} (k : EnginesKept s u) (h : ChainsSound s) : ChainsSound u := by
  have heach : ∀ ch ∈ u.chains, ∃ c, u.chain c = ch := fun ch hch => by
    obtain ⟨c, hc, rfl⟩ := List.getElem_of_mem hch
    exact ⟨c, by simp [State.chain, hc]⟩
  refine ⟨k.chains.1.trans h.eight, fun ch hch => ?_, fun hp ch hch => ?_⟩ <;> obtain ⟨c, rfl⟩ := heach ch hch
  · exact (k.chains.2 c (h.chain c)).1
  · exact (k.chains.2 c (h.chain c)).2 (h.chain_atRest (k.part hp) c)

/-! ## Operations on engines -/

/-- A change of one engine that keeps the engine it finds. -/
theorem State.updChain_enginesKept (s : State) (c : Nat) {f : Chain → Chain} (hf : (s.chain c).Kept (f (s.chain c))) :
    EnginesKept s (s.updChain c f) := by
  rw [State.updChain_eq]
  exact ⟨id, .set _ _ hf⟩

theorem State.mapChains_enginesKept (s : State) {f : Chain → Chain} (hf : ∀ x : Chain, x.Kept (f x)) :
    EnginesKept s (s.mapChains f) := ⟨id, .map _ hf⟩

theorem State.arrive_enginesKept (s : State) (t : Nat) : EnginesKept s (s.arrive t) := .same (by simp)

theorem State.serve_enginesKept (s : State) (c : Nat) : EnginesKept s (s.serve c) :=
  s.updChain_enginesKept c (Chain.serve_kept _ _)

theorem State.serveAll_enginesKept (s : State) : EnginesKept s s.serveAll :=
  s.mapChains_enginesKept fun ch => ch.serve_kept _

/-- A chain is no other after a move that writes no engine. -/
theorem State.chain_eq_of_chains {s u : State} (h : u.chains = s.chains) (k : Nat) : u.chain k = s.chain k := by
  rw [State.chain, h, State.chain]

theorem State.queueReport_enginesKept (s : State) (es : List ReportEntry) : EnginesKept s (s.queueReport es) :=
  .same (by simp)

theorem State.answer_enginesKept (s : State) (cmd : SysCommand) (r : SysResult) : EnginesKept s (s.answer cmd r) :=
  .same (by simp)

theorem State.pictureResult_enginesKept (s : State) (r : PictureResult) : EnginesKept s (s.pictureResult r) :=
  .same (by simp)

theorem State.fixDirect_enginesKept (s : State) (c : Nat) (r : SysResult) (d : ResponseData) :
    EnginesKept s (s.fixDirect c r d) := .same (by simp)

theorem State.recover_enginesKept {s : State} {c : Nat} (hr : (s.chain c).state = .running) (cause : Cause) :
    EnginesKept s (s.recover c cause) := by
  have hchain : (s.dropDirect c).chain c = s.chain c := State.chain_eq_of_chains (by simp) c
  rw [State.recover_eq]
  exact .after (State.queueReport_enginesKept _ _)
    (.after (State.updChain_enginesKept _ c (hchain ▸ Chain.recovered_kept hr _ _)) (.same (by simp)))

theorem State.failAttempt_enginesKept {s : State} {c : Nat} (ha : (s.chain c).attempt ≠ none) (cause : Cause) :
    EnginesKept s (s.failAttempt c cause) := by
  rcases lt_or_ge (s.chain c).attempts 3 with h | h
  · rw [State.failAttempt_again h]
    exact ⟨id, .set _ _ (Chain.attemptLost_kept ha _ _)⟩
  · rw [State.failAttempt_last h]
    exact .after (State.queueReport_enginesKept _ _) ⟨id, .set _ _ (Chain.attemptsExhausted_kept ha _)⟩

theorem State.linkFailure_enginesKept (s : State) (c : Nat) (cause : Cause) :
    EnginesKept s (s.linkFailure c cause) := by
  unfold State.linkFailure
  split
  next hr => exact State.recover_enginesKept hr cause
  next =>
    split
    next ha => exact State.failAttempt_enginesKept (Option.isSome_iff_ne_none.1 ha) cause
    next => exact .refl s

/-! ## Attempts (R117 to R120) -/

/-- An attempt whose last frame has been heard, so that it may send the next. -/
structure Chain.AttemptReady (ch : Chain) : Prop where
  attempt : ch.attempt ≠ none
  flight : ch.inflight = []
  resend : ch.resend = none

theorem State.continueAttempt_enginesKept {s : State} {c : Nat} (h : (s.chain c).AttemptReady) (n a : Nat) :
    EnginesKept s (s.continueAttempt c n a) := by
  rcases lt_or_ge a (min n 48) with ha | ha
  · rw [State.continueAttempt_assigns ha]
    refine ⟨id, .set _ _ fun hs => ⟨?_, fun hr => ?_⟩⟩
    · have hgranted := hs.granted_attempt h.attempt h.flight (x := .assign a (s.assignGroup c a)) rfl s.now false
        (.assigning n a)
      rw [← h.resend] at hgranted
      exact hgranted
    · exact absurd hr (Chain.not_atRest_of_enumerates (hs.enumerates h.attempt))
  · rw [State.continueAttempt_succeeds ha]
    refine .trans (t := s.entered c n) ⟨id, .set _ _ (Chain.enterRunning_kept h.attempt h.flight h.resend _ _ _)⟩ ?_
    exact EnginesKept.foldl (fun x e => x.queueReport_enginesKept [e]) _ _

/-! ## The fault monitor (R132 to R140) -/

/-- A record of a driver changed, and a report of it. -/
theorem State.updRecord_enginesKept (s : State) (c p : Nat) (f : Mirror → Mirror) :
    EnginesKept s (s.updChain c fun ch => ch.updRecord p f) := s.updChain_enginesKept c (Chain.updRecord_kept _ p f)

theorem State.compareHot_enginesKept (s : State) (c p : Nat) (b : Bool) : EnginesKept s (s.compareHot c p b) := by
  unfold State.compareHot
  split
  · exact .refl s
  · exact .after (State.queueReport_enginesKept _ _) (s.updRecord_enginesKept c p _)

theorem State.compareSupply_enginesKept (s : State) (c p : Nat) (b : Bool) :
    EnginesKept s (s.compareSupply c p b) := by
  unfold State.compareSupply
  split
  · exact .refl s
  · exact .after (State.queueReport_enginesKept _ _) (s.updRecord_enginesKept c p _)

theorem State.statusCheck_enginesKept (s : State) (c p : Nat) : EnginesKept s (s.statusCheck c p) :=
  .after (.same (by simp [State.statusCheck])) (s.updChain_enginesKept c (.of_same rfl rfl rfl) (f := fun ch =>
    { ch with damaged := sat16 ch.damaged }))

theorem State.interpret_enginesKept (s : State) (c p : Nat) (r : PollReply) : EnginesKept s (s.interpret c p r) := by
  have hmarks : EnginesKept s
      ({ s with zones := setFaults s.zones (confirmedBy s.zones c p ((s.chain c).record p) r) }.updChain c
        fun ch => ch.updRecord p (examineRecord s.zones c p r)) :=
    .after (State.updRecord_enginesKept _ c p _) (.same ⟨rfl, rfl⟩)
  exact .after (State.compareSupply_enginesKept _ c p _) (.after (State.compareHot_enginesKept _ c p _)
    (.after (.same (by simp)) hmarks))

theorem State.takeReply_enginesKept (s : State) (c p : Nat) (r : PollReply) : EnginesKept s (s.takeReply c p r) := by
  unfold State.takeReply
  dsimp only
  split
  · exact .after (State.interpret_enginesKept _ c p r) (s.updRecord_enginesKept c p _)
  · exact .after (State.statusCheck_enginesKept _ c p) (s.updRecord_enginesKept c p _)

/-! ## Echoes (R85 to R94) -/

theorem State.giveUp_enginesKept {s : State} {c : Nat} {x : Sent}
    (ha : x.ofAttempt = true → (s.chain c).attempt ≠ none) : EnginesKept s (s.giveUp c x) := by
  cases x with
  | stage e => exact s.updChain_enginesKept c (.trans (Chain.giveUpStage_kept _ e _) (Chain.markProblem_kept _))
  | latch m => exact s.updChain_enginesKept c (.trans (Chain.forgetGroups_kept _ m) (Chain.markProblem_kept _))
  | poll a => exact s.updChain_enginesKept c (Chain.markProblem_kept _)
  | direct a q =>
    exact .after (State.updChain_enginesKept _ c (Chain.markProblem_kept _)) (s.fixDirect_enginesKept c _ _)
  | assign a g => exact State.failAttempt_enginesKept (ha rfl) _
  | clear => exact State.failAttempt_enginesKept (ha rfl) _

theorem State.acceptLatch_enginesKept (s : State) (c : Nat) (m : BitVec 8) (n : Nat) :
    EnginesKept s (s.acceptLatch c m n) := by
  have hlatched : EnginesKept s (s.updChain c Chain.takeLatched) :=
    s.updChain_enginesKept c (Chain.takeLatched_kept _)
  unfold State.acceptLatch
  dsimp only
  split
  · exact .after (State.queueReport_enginesKept _ _) (.after
      (State.updChain_enginesKept _ c (.trans (Chain.forgetGroups_kept _ m) (Chain.markProblem_kept _))) hlatched)
  · exact hlatched

/-- An echo accepted on a chain whose attempt, if it has one, is ready to go on. -/
theorem State.acceptReply_enginesKept {s : State} {c : Nat} {x : Sent} {r : Reply}
    (h : (s.chain c).attempt ≠ none → (s.chain c).AttemptReady) : EnginesKept s (s.acceptReply c x r) := by
  have goesOn (f : Chain → Chain) (hf : (s.chain c).Kept (f (s.chain c)))
      (hready : (s.chain c).AttemptReady → (f (s.chain c)).AttemptReady) (ha : (s.chain c).attempt ≠ none) (n a : Nat) :
      EnginesKept s ((s.updChain c f).continueAttempt c n a) := by
    have hchain : ((s.updChain c f).chain c).AttemptReady := by
      rcases s.chain_updChain_cases c c f with hsame | ⟨-, hnew⟩
      · exact hsame ▸ h ha
      · exact hnew ▸ hready (h ha)
    exact .after (State.continueAttempt_enginesKept hchain n a) (s.updChain_enginesKept c hf)
  unfold State.acceptReply
  split
  · exact s.updChain_enginesKept c (Chain.acceptStage_kept _ _ _)
  · exact s.acceptLatch_enginesKept c _ _
  · exact s.takeReply_enginesKept c _ _
  · unfold State.acceptAssign
    split
    next n _ hassign =>
      have ha : (s.chain c).attempt ≠ none := by simp [hassign]
      split
      · exact goesOn _ (Chain.updRecord_kept _ _ _) (fun hr => ⟨hr.1, hr.2, hr.3⟩) ha _ _
      · exact State.failAttempt_enginesKept ha _
    next => exact .refl s
  · exact .after (State.fixDirect_enginesKept _ c _ _) (s.updRecord_enginesKept c _ _)
  · exact s.fixDirect_enginesKept c _ _
  · split
    next ha =>
      exact goesOn _ (.of_same rfl rfl (by simp)) (fun hr => ⟨hr.1, hr.2, hr.3⟩) (Option.isSome_iff_ne_none.1 ha) _ _
    next => exact .refl s
  · exact .refl s

/-- The oldest frame in flight is one of an attempt in an attempt alone, and is then the only one (R100). -/
theorem Chain.Sound.oldest {ch : Chain} (h : ch.Sound) {f : InFlight} {rest : List InFlight}
    (hflight : ch.inflight = f :: rest) :
    (f.sent.ofAttempt = false → ch.state = .running) ∧ (f.sent.ofAttempt = true → ch.attempt ≠ none) ∧
      (ch.attempt ≠ none → rest = [] ∧ ch.resend = none) := by
  have hmem : f ∈ ch.inflight := by simp [hflight]
  refine ⟨fun hf => ?_, fun hf ha => ?_, fun ha => ⟨?_, ?_⟩⟩
  · by_contra hr
    by_cases ha : ch.attempt = none
    · simp [h.resting hr ha] at hflight
    · obtain ⟨-, -, -, hall⟩ := h.attempt ha
      exact absurd (hall f hmem) (by simp [hf])
  · by_cases hr : ch.state = .running
    · obtain ⟨-, -, hall⟩ := h.running hr
      exact absurd (hall f hmem) (by simp [hf])
    · simp [h.resting hr ha] at hflight
  · obtain ⟨-, -, hone, -⟩ := h.attempt ha
    simpa [hflight] using hone
  · by_contra hr
    obtain ⟨-, hnone, -⟩ := h.resend hr
    exact absurd (hflight.symm.trans hnone) nofun

/-- A number past the part's chains reads as the power-on engine. -/
theorem State.lt_chains_of_ne {s : State} {k : Nat} (h : s.chain k ≠ Chain.powerOn) : k < s.chains.length := by
  by_contra hk
  exact h (by simp [State.chain, List.getD_eq_getElem?_getD, List.getElem?_eq_none (Nat.le_of_not_lt hk)])

/-- A chain with a frame in flight is one of the part's chains. -/
theorem State.lt_chains_of_flight {s : State} {k : Nat} {f : InFlight} {rest : List InFlight}
    (h : (s.chain k).inflight = f :: rest) : k < s.chains.length :=
  State.lt_chains_of_ne fun hk => by simp [hk, Chain.powerOn] at h

/-- A damaged echo of the oldest frame: the frame is sent again, or given up. -/
theorem State.echoDamaged_enginesKept {s : State} {c : Nat} {f : InFlight} {rest : List InFlight}
    (h : (s.chain c).Sound) (hflight : (s.chain c).inflight = f :: rest) : EnginesKept s (s.echoDamaged c f) := by
  obtain ⟨hrunning, hsent, hattempt⟩ := h.oldest hflight
  have hchain := s.chain_updChain_same c (fun ch =>
    { ch with inflight := ch.inflight.drop 1, damaged := sat16 ch.damaged }) (State.lt_chains_of_flight hflight)
  have hheard : EnginesKept s (s.updChain c fun ch =>
      { ch with inflight := ch.inflight.drop 1, damaged := sat16 ch.damaged }) :=
    s.updChain_enginesKept c (Chain.hear_kept _ _)
  refine hheard.trans ?_
  unfold State.echoDamaged
  dsimp only
  split
  · exact State.giveUp_enginesKept fun hx => by rw [hchain]; exact hsent hx
  · refine State.updChain_enginesKept _ c ?_
    rw [hchain]
    exact Chain.requeue_kept hrunning fun hx => ⟨hsent hx, by simp [hflight, (hattempt (hsent hx)).1]⟩

/-- The oldest frame's echo is accepted: what it answers takes effect on a chain that the frame has left. -/
theorem State.echoAccepted_enginesKept {s : State} {c : Nat} {f : InFlight} {rest : List InFlight} (r : Reply)
    (h : (s.chain c).Sound) (hflight : (s.chain c).inflight = f :: rest) : EnginesKept s (s.echoAccepted c f r) := by
  obtain ⟨-, -, hattempt⟩ := h.oldest hflight
  have hchain := s.chain_updChain_same c (fun ch => { ch with inflight := ch.inflight.drop 1 })
    (State.lt_chains_of_flight hflight)
  have hheard : EnginesKept s (s.updChain c fun ch => { ch with inflight := ch.inflight.drop 1 }) :=
    s.updChain_enginesKept c (Chain.hear_kept _ _)
  refine hheard.trans (State.acceptReply_enginesKept ?_)
  rw [hchain]
  exact fun ha => ⟨ha, by simp [hflight, (hattempt ha).1], (hattempt ha).2⟩

theorem State.checkEcho_enginesKept {s : State} {c : Nat} (h : (s.chain c).Sound) (bits : List Bool) :
    EnginesKept s (s.checkEcho c bits) := by
  unfold State.checkEcho
  split
  · exact s.linkFailure_enginesKept c _
  next f rest hflight =>
    split
    · exact State.echoDamaged_enginesKept h hflight
    · exact s.linkFailure_enginesKept c _
    · exact State.echoAccepted_enginesKept _ h hflight

/-! ## The schedule (R64 to R71) -/

theorem State.queueSection_enginesKept (s : State) (b : LightSection) : EnginesKept s (s.queueSection b) :=
  .same (by simp)

theorem State.commitGroup_enginesKept (s : State) (k : Nat) : EnginesKept s (s.commitGroup k) :=
  .after (State.queueSection_enginesKept _ _)
    { part := id
      chains := .mapIdx _ fun c ch => by
        split
        · exact ch.lateFor_kept k
        · exact .refl ch }

theorem State.commitGroups_enginesKept (s : State) (ks : List Nat) : EnginesKept s (s.commitGroups ks) :=
  EnginesKept.foldl State.commitGroup_enginesKept ks s

theorem State.latchAt_enginesKept (s : State) (t : Nat) : EnginesKept s (s.latchAt t) :=
  ⟨id, .mapIdx _ fun _ ch => ch.oweLatch_kept _⟩

theorem State.emitGroup_enginesKept (s : State) (k : Nat) : EnginesKept s (s.emitGroup k) := by
  refine ⟨id, .mapIdx _ fun c ch => ?_⟩
  split
  · exact ch.takeHandOver_kept _ _ _ _
  · exact .refl ch

/-! ## Frame starts (R52) -/

theorem State.slewAll_enginesKept (s : State) : EnginesKept s s.slewAll := by
  unfold State.slewAll
  split
  · exact s.mapChains_enginesKept fun _ => .of_same rfl rfl rfl
  · exact .refl s

/-- The end of a problem period; a mark that is set is that of a RUNNING chain (R103). -/
theorem State.endPeriod_enginesKept {s : State} {c : Nat} (h : (s.chain c).Sound) : EnginesKept s (s.endPeriod c) := by
  unfold State.endPeriod
  dsimp only
  split
  · exact s.updChain_enginesKept c (.of_same rfl rfl rfl)
  next hp =>
    have hr : (s.chain c).state = .running := h.running_of_problem (by simpa using hp)
    split
    · exact State.recover_enginesKept hr _
    · exact s.updChain_enginesKept c (.of_running hr rfl rfl)

theorem State.endPeriods_enginesKept {s : State} (h : ChainsSound s) : EnginesKept s s.endPeriods := by
  unfold State.endPeriods
  induction List.range 8 using List.reverseRecOn with
  | nil => exact .refl s
  | append_singleton ks k ih =>
    rw [List.foldl_append]
    exact .trans ih (State.endPeriod_enginesKept ((ih.chainsSound h).chain k))

theorem State.enterService_enginesKept (s : State) : EnginesKept s s.enterService where
  part := by
    unfold State.enterService
    split <;> simp
  chains := .of_eq (by simp)

theorem State.maybePass_enginesKept (s : State) : EnginesKept s s.maybePass := by
  unfold State.maybePass
  split
  · exact .after (State.commitGroups_enginesKept _ _) (.same (by simp))
  · exact .refl s

theorem State.deliverFrame_enginesKept {s : State} (h : ChainsSound s) : EnginesKept s s.deliverFrame := by
  have hclosed : EnginesKept s s.slewAll.closeFrame.overrun.clearFrame := by
    refine .trans s.slewAll_enginesKept (.trans (t := s.slewAll.closeFrame) ⟨id, .mapIdx _ fun c ch => ?_⟩
      (.trans (t := s.slewAll.closeFrame.overrun) (.same (by simp)) ⟨id, .map _ fun ch => ch.clearFrame_kept⟩))
    exact State.closeChain_kept _ c ch
  have hperiods := hclosed.trans (State.endPeriods_enginesKept (hclosed.chainsSound h))
  exact .after (State.serveAll_enginesKept _) (.after (State.maybePass_enginesKept _)
    (.after (State.enterService_enginesKept _) (.after (.same (by simp)) hperiods)))

/-- A frame start delivered after a change that keeps the engines. -/
theorem EnginesKept.deliverFrame {s u : State} (k : EnginesKept s u) (h : ChainsSound s) :
    EnginesKept s u.deliverFrame := k.trans (State.deliverFrame_enginesKept (k.chainsSound h))

theorem EnginesKept.frameStart {s u : State} (k : EnginesKept s u) (h : ChainsSound s) : EnginesKept s u.frameStart :=
  .deliverFrame (k.trans (.same (by simp))) h

theorem EnginesKept.edgeFrame {s u : State} (k : EnginesKept s u) (h : ChainsSound s) : EnginesKept s u.edgeFrame := by
  unfold State.edgeFrame
  split
  · exact k.frameStart h
  · exact k

theorem State.acquireEdge_enginesKept {s : State} (h : ChainsSound s) : EnginesKept s s.acquireEdge := by
  unfold State.acquireEdge
  split
  · exact .same (by simp)
  · split
    · exact .same (by simp)
    · exact EnginesKept.edgeFrame (.same (by simp)) h

theorem State.lockedEdge_enginesKept {s : State} (h : ChainsSound s) : EnginesKept s s.lockedEdge := by
  unfold State.lockedEdge
  split <;> exact EnginesKept.edgeFrame (.same (by simp)) h

theorem State.holdoverEdge_enginesKept {s : State} (h : ChainsSound s) : EnginesKept s s.holdoverEdge := by
  unfold State.holdoverEdge
  dsimp only
  split
  · exact EnginesKept.deliverFrame (.same (by simp)) h
  · exact .same (by simp)

/-! ## Outcomes -/

theorem Yields.untouched {s u : State} (h : u.system.part = s.system.part ∧ u.chains = s.chains) :
    Yields (.next u) (EnginesKept s) := .next (.same h)

theorem Yields.chainsSound {s : State} {o : Host.Outcome State Fault Refusal} (h : ChainsSound s)
    (ho : Yields o (EnginesKept s)) : Yields o ChainsSound := fun u hu => (ho u hu).chainsSound h

/-! ## Commands one by one -/

/-- In CONFIG the chains are at rest; elsewhere the driver count stands (R114, R181). -/
theorem execSetChain_enginesKept (t c d w : Nat) (sensor : Option Nat) {s : State} (h : ChainsSound s) :
    Yields (execSetChain t c d w sensor s) (EnginesKept s) := by
  unfold execSetChain
  dsimp only
  split
  · exact .untouched (by simp)
  · split
    · exact .untouched (by simp)
    next hallowed =>
      have hchain : (s.arrive t).chain c = s.chain c := rfl
      have hd : d = (s.chain c).drivers ∨ (s.chain c).AtRest := by
        rw [hchain, State.arrive_system, not_and_or, not_not, not_not] at hallowed
        exact hallowed.symm.imp_right fun hp => h.chain_atRest hp c
      have hset : EnginesKept (s.arrive t) ((s.arrive t).updChain c fun ch => ch.configure d w sensor) :=
        State.updChain_enginesKept _ c (Chain.configure_kept hd w sensor)
      exact .next (.after (State.answer_enginesKept _ _ _) (hset.after (s.arrive_enginesKept t)))

theorem execSetService_enginesKept (t pollUs holdMs : Nat) (s : State) :
    Yields (execSetService t pollUs holdMs s) (EnginesKept s) :=
  .ite (.next ⟨by simp, .map _ fun ch => ch.restartTick_kept _⟩) (.untouched (by simp))

theorem execClearFault_enginesKept (t z : Nat) (s : State) : Yields (execClearFault t z s) (EnginesKept s) := by
  unfold execClearFault
  dsimp only
  refine .ite (.untouched (by simp)) ?_
  split
  · exact .untouched (by simp)
  next x _ =>
    have hcleared : EnginesKept s ((s.arrive t).updZone z Zone.clearFault) := .same (by simp)
    have hmarks := hcleared.trans (State.updRecord_enginesKept _ x.chain x.position fun m =>
      if m.assigned then m.clearCandidates x.channel else m)
    exact .next (.after (State.answer_enginesKept _ _ _) hmarks)

theorem execReadCounters_enginesKept (t : Nat) (s : State) : Yields (execReadCounters t s) (EnginesKept s) :=
  .next ⟨by simp, .map _ fun _ => .of_same rfl rfl rfl⟩

/-- Every chain with drivers is enumerated afresh (R115, R116). -/
theorem execStart_chainsSound (t : Nat) {s : State} (h : ChainsSound s) : Yields (execStart t s) ChainsSound := by
  refine .ite (.chainsSound h (.untouched (by simp))) (.ite (.chainsSound h (.untouched (by simp))) (.next ?_))
  refine ⟨by simpa using h.eight, fun ch hch => ?_, nofun⟩
  obtain ⟨x, hx, rfl⟩ := List.mem_map.1 hch
  exact (h.each x hx).startUp _

/-- Every chain comes to rest (R115, R125). -/
theorem execStop_chainsSound (t : Nat) {s : State} (h : ChainsSound s) : Yields (execStop t s) ChainsSound := by
  have hhalted : ∀ ch ∈ s.chains.map (Chain.halt · (max s.now t)), ch.Sound ∧ ch.AtRest :=
    List.forall_mem_map.2 fun x hx => (h.each x hx).halt _
  exact .next ⟨by simpa using h.eight, fun ch hch => (hhalted ch hch).1, fun _ ch hch => (hhalted ch hch).2⟩

/-- Every chain comes to rest (R113, R187). -/
theorem execSoftRestart_chainsSound (t : Nat) {s : State} (h : ChainsSound s) :
    Yields (execSoftRestart t s) ChainsSound := by
  have hrestarted : ∀ ch ∈ s.chains.map (Chain.restart · (max s.now t)), ch.Sound ∧ ch.AtRest :=
    List.forall_mem_map.2 fun x hx => (h.each x hx).restart _
  exact .next ⟨by simpa [State.restart] using h.eight, fun ch hch => (hrestarted ch hch).1,
    fun _ ch hch => (hrestarted ch hch).2⟩

/-- RESTART CHAIN is refused in CONFIG and of an UNUSED chain, so no chain at rest changes there (R124, R131). -/
theorem execRestartChain_chainsSound (t c : Nat) {s : State} (h : ChainsSound s) :
    Yields (execRestartChain t c s) ChainsSound := by
  unfold execRestartChain
  dsimp only
  split
  · exact .chainsSound h (.untouched (by simp))
  split
  · exact .chainsSound h (.untouched (by simp))
  next hpart =>
    split
    · exact .chainsSound h (.untouched (by simp))
    next hused =>
      have hnew : ((s.chain c).beginEnumeration (max s.now t) true).Sound :=
        (h.chain c).beginEnumeration ((h.chain c).drivers_ne hused) _ _
      rw [State.answer_dropDirect, State.updChain_eq]
      refine .next ⟨by simpa using h.eight, fun ch hch => ?_, fun hp => absurd hp hpart⟩
      rcases List.mem_or_eq_of_mem_set hch with hch | rfl
      · exact h.each ch hch
      · exact hnew

theorem State.takeDirect_enginesKept (s : State) (cmd : SysCommand) (c a : Nat) (q : DirectKind) :
    EnginesKept s (s.takeDirect cmd c a q) := by
  unfold State.takeDirect
  split
  · exact .same (by simp)
  next hallowed =>
    have hr : (s.chain c).state = .running := by
      by_contra hr
      simp only [State.directRefusal, ne_eq, hr, not_false_iff, if_true] at hallowed
      split at hallowed <;> cases hallowed
    have hpending : EnginesKept s (s.respondPending cmd c) := .same (by simp)
    exact .after (State.serve_enginesKept _ c) (.after (State.updChain_enginesKept _ c
      (.of_running hr rfl rfl)) hpending)

theorem execAttemptBegin_enginesKept (c : Nat) (s : State) : Yields (execAttemptBegin c s) (EnginesKept s) := by
  cases hw : (s.chain c).wait with
  | none => rw [execAttemptBegin_idle hw]; exact .untouched ⟨rfl, rfl⟩
  | some w =>
    have hwait : (s.chain c).wait ≠ none := by simp [hw]
    rw [execAttemptBegin_due hw]
    exact .next ⟨id, .set _ _ (Chain.beginAttempt_kept hwait _)⟩

/-- The running timer runs on a RUNNING chain only (R122). -/
theorem execRunningTimerExpiry_enginesKept (c : Nat) (s : State) :
    Yields (execRunningTimerExpiry c s) (EnginesKept s) := by
  cases hw : (s.chain c).runDue with
  | none => rw [execRunningTimerExpiry_idle hw]; exact .untouched ⟨rfl, rfl⟩
  | some w =>
    rw [execRunningTimerExpiry_due hw]
    exact .next ⟨id, .set _ _ (Chain.endRunTimer_kept _)⟩

/-- The tick timer runs on a RUNNING chain only (R108). -/
theorem execPollTick_enginesKept (c : Nat) {s : State} (h : ChainsSound s) :
    Yields (execPollTick c s) (EnginesKept s) := by
  cases hw : (s.chain c).pollDue with
  | none => rw [execPollTick_idle hw]; exact .untouched ⟨rfl, rfl⟩
  | some w =>
    have hr : (s.chain c).state = .running := by
      by_contra hr
      obtain ⟨-, -, -, -, htick, -⟩ := (h.chain c).quiet hr
      exact absurd (hw.symm.trans htick) nofun
    rw [execPollTick_due hw]
    exact .next ⟨id, .set _ _ (.trans (Chain.pollTick_kept hr _) (Chain.serve_kept _ _))⟩

theorem execEchoBegin_enginesKept (t c : Nat) (s : State) : Yields (execEchoBegin t c s) (EnginesKept s) := by
  unfold execEchoBegin
  dsimp only
  refine .ite (.untouched (by simp)) ?_
  split
  · exact .next (.after (State.linkFailure_enginesKept _ c _) (s.arrive_enginesKept t))
  next hflight =>
    exact .next (.after (State.updChain_enginesKept _ c (Chain.beginEcho_kept hflight)) (s.arrive_enginesKept t))

theorem execEchoEnd_enginesKept (t c : Nat) (bits : List Bool) {s : State} (h : ChainsSound s) :
    Yields (execEchoEnd t c bits s) (EnginesKept s) :=
  .ite (.untouched (by simp)) (.next (.after (State.serve_enginesKept _ c)
    (.after (State.checkEcho_enginesKept (s := s.arrive t) (h.chain c) bits) (s.arrive_enginesKept t))))

theorem execEchoOverdue_enginesKept (c : Nat) (s : State) : Yields (execEchoOverdue c s) (EnginesKept s) := by
  unfold execEchoOverdue
  split
  · exact .untouched ⟨rfl, rfl⟩
  · exact .ite (.untouched ⟨rfl, rfl⟩)
      (.next (.after (State.linkFailure_enginesKept _ c _) (s.arrive_enginesKept _)))

theorem execProblemFrames_enginesKept (c : Nat) (s : State) : Yields (execProblemFrames c s) (EnginesKept s) := by
  unfold execProblemFrames
  split
  next h => exact .next (State.recover_enginesKept h.1 _)
  next => exact .untouched ⟨rfl, rfl⟩

theorem execEmissionBlock_enginesKept (s : State) : Yields (execEmissionBlock s) (EnginesKept s) := by
  have hemitted : EnginesKept s ((s.groupsOfBlock s.pass.blocks).foldl State.emitGroup
      ((s.blockZones s.pass.blocks).foldl State.emitZone (s.arrive s.emitDue))) :=
    .after (EnginesKept.foldl State.emitGroup_enginesKept _ _)
      (.after (EnginesKept.foldl (fun s i => .same (by simp)) _ _) (s.arrive_enginesKept _))
  refine .ite (.next (.after (State.serveAll_enginesKept _) (.after ?_ hemitted))) (.untouched ⟨rfl, rfl⟩)
  exact { part := id, chains := .of_eq rfl }

theorem execCommitPoint_enginesKept (k : Nat) (s : State) : Yields (execCommitPoint k s) (EnginesKept s) := by
  unfold execCommitPoint
  split
  · exact .untouched ⟨rfl, rfl⟩
  · exact .ite (.untouched ⟨rfl, rfl⟩)
      (.next (.after (State.commitGroups_enginesKept _ _) (s.arrive_enginesKept _)))

theorem execLatchPoint_enginesKept (k : Nat) (s : State) : Yields (execLatchPoint k s) (EnginesKept s) := by
  unfold execLatchPoint
  split
  · exact .untouched ⟨rfl, rfl⟩
  · exact .ite (.next (.after (State.serveAll_enginesKept _) (.after (State.latchAt_enginesKept _ _)
      (s.arrive_enginesKept _)))) (.untouched ⟨rfl, rfl⟩)

theorem execTakeReport_enginesKept (t : Nat) (s : State) : Yields (execTakeReport t s) (EnginesKept s) := by
  unfold execTakeReport
  dsimp only
  split <;> exact .untouched (by simp)

theorem execReadSnapshot_enginesKept (t b g : Nat) (s : State) : Yields (execReadSnapshot t b g s) (EnginesKept s) := by
  unfold execReadSnapshot
  dsimp only
  refine .ite (.untouched (by simp)) ?_
  split <;> exact .untouched (by simp)

theorem execSnapshotHoldExpiry_enginesKept (b : Nat) (s : State) :
    Yields (execSnapshotHoldExpiry b s) (EnginesKept s) := by
  unfold execSnapshotHoldExpiry
  split <;> exact .untouched (by simp)

theorem execPictureWindow_enginesKept (t : Nat) (w : WindowFields) (s : State) :
    Yields (execPictureWindow t w s) (EnginesKept s) := by
  unfold execPictureWindow
  dsimp only
  split <;> exact .untouched (by simp)

theorem execPanelWindow_enginesKept (t : Nat) (w : WindowFields) (s : State) :
    Yields (execPanelWindow t w s) (EnginesKept s) := by
  unfold execPanelWindow
  dsimp only
  split <;> exact .untouched (by simp)

theorem execOutgoingMessageEnd_enginesKept (s : State) : Yields (execOutgoingMessageEnd s) (EnginesKept s) := by
  unfold execOutgoingMessageEnd
  split <;> exact .untouched (by simp)

theorem execFsyncEdge_enginesKept (t : Nat) {s : State} (h : ChainsSound s) :
    Yields (execFsyncEdge t s) (EnginesKept s) := by
  have harrived : EnginesKept s (s.arrive t) := s.arrive_enginesKept t
  unfold execFsyncEdge
  dsimp only
  refine .ite (.untouched (by simp)) (.ite (.untouched (by simp)) ?_)
  split
  · exact .untouched (by simp)
  · exact .next (harrived.trans (State.acquireEdge_enginesKept (harrived.chainsSound h)))
  · exact .next (harrived.trans (State.lockedEdge_enginesKept (harrived.chainsSound h)))
  · exact .next (harrived.trans (State.holdoverEdge_enginesKept (harrived.chainsSound h)))

theorem execGeneratedFrameStart_enginesKept {s : State} (h : ChainsSound s) :
    Yields (execGeneratedFrameStart s) (EnginesKept s) := by
  unfold execGeneratedFrameStart
  split
  · exact .untouched ⟨rfl, rfl⟩
  · dsimp only
    split <;> exact .next (EnginesKept.frameStart (.same (by simp)) h)

theorem execHoldoverEntry_enginesKept {s : State} (h : ChainsSound s) :
    Yields (execHoldoverEntry s) (EnginesKept s) := by
  unfold execHoldoverEntry
  split
  · exact .untouched ⟨rfl, rfl⟩
  · exact .next (EnginesKept.deliverFrame (.same (by simp)) h)

/-- A claim that ends clears latched marks, and no other change of a claim touches an engine (R126 to R128). -/
theorem State.moveClaims_enginesKept (s : State) (x : Claims) (b : Bool) : EnginesKept s (s.moveClaims x b) where
  part := id
  chains := by
    cases b
    · exact .of_eq rfl
    · exact .map _ fun ch => ch.dropLatched_kept

/-! ## Every command -/

theorem exec_chainsSound (c : Instr) {s : State} (h : ChainsSound s) : Yields (exec c s) ChainsSound := by
  cases c with
  | powerOn t => exact .next (State.powered_chainsSound _ _)
  | setGrid t cols rows =>
    exact .chainsSound h (.ite (.untouched (by simp)) (.ite (.untouched (by simp)) (.ite (.untouched (by simp))
      (.untouched (by simp)))))
  | setChain t c d w sensor => exact .chainsSound h (execSetChain_enginesKept t c d w sensor h)
  | mapZone t z c p k =>
    exact .chainsSound h (.ite (.untouched (by simp)) (.ite (.untouched (by simp)) (.ite (.untouched (by simp))
      (.untouched (by simp)))))
  | unmapZone t z =>
    exact .chainsSound h (.ite (.untouched (by simp)) (.ite (.untouched (by simp)) (.untouched (by simp))))
  | setGroups t g offsets lead =>
    exact .chainsSound h (.ite (.untouched (by simp)) (.ite (.untouched (by simp)) (.untouched (by simp))))
  | setProfile t profile => exact .chainsSound h (.ite (.untouched (by simp)) (.untouched (by simp)))
  | setPower t budget => exact .chainsSound h (.untouched (by simp))
  | setEasing t rise fall => exact .chainsSound h (.ite (.untouched (by simp)) (.untouched (by simp)))
  | setService t pollUs holdMs => exact .chainsSound h (execSetService_enginesKept t pollUs holdMs s)
  | setThermal t p => exact .chainsSound h (.ite (.untouched (by simp)) (.untouched (by simp)))
  | setTimebase t f => exact .chainsSound h (.ite (.untouched (by simp)) (.untouched (by simp)))
  | followSync t => exact .chainsSound h (.untouched (by simp))
  | freeRun t => exact .chainsSound h (.untouched (by simp))
  | loadGains t start gains => exact .chainsSound h (.ite (.untouched (by simp)) (.untouched (by simp)))
  | setOverride t z l => exact .chainsSound h (.ite (.untouched (by simp)) (.untouched (by simp)))
  | clearOverride t z => exact .chainsSound h (.ite (.untouched (by simp)) (.untouched (by simp)))
  | clearFault t z => exact .chainsSound h (execClearFault_enginesKept t z s)
  | clearWindows t => exact .chainsSound h (.untouched (by simp))
  | start t => exact execStart_chainsSound t h
  | stop t => exact execStop_chainsSound t h
  | restartChain t c => exact execRestartChain_chainsSound t c h
  | driverTrim t c a code =>
    exact .chainsSound h (.next (.after (State.takeDirect_enginesKept _ _ c a _) (s.arrive_enginesKept t)))
  | driverIdent t c a =>
    exact .chainsSound h (.next (.after (State.takeDirect_enginesKept _ _ c a _) (s.arrive_enginesKept t)))
  | systemBlank t on =>
    exact .chainsSound h (.next (.after (State.answer_enginesKept _ _ _)
      (.after (State.moveClaims_enginesKept _ _ _) (s.arrive_enginesKept t))))
  | takeReport t => exact .chainsSound h (execTakeReport_enginesKept t s)
  | readSnapshot t b g => exact .chainsSound h (execReadSnapshot_enginesKept t b g s)
  | probe t z mode => exact .chainsSound h (.ite (.untouched (by simp)) (.untouched (by simp)))
  | readProbe t => exact .chainsSound h (.untouched (by simp))
  | readZone t z => exact .chainsSound h (.ite (.untouched (by simp)) (.untouched (by simp)))
  | readCounters t => exact .chainsSound h (execReadCounters_enginesKept t s)
  | readState t => exact .chainsSound h (.untouched (by simp))
  | softRestart t => exact execSoftRestart_chainsSound t h
  | unknownCommandWrite t bytes => exact .chainsSound h (.ite (.untouched (by simp)) (.untouched (by simp)))
  | responseCapture t => exact .chainsSound h (.untouched (by simp))
  | run12 t start values => exact .chainsSound h (.untouched (by simp))
  | run8 t start values => exact .chainsSound h (.untouched (by simp))
  | fine4 t start values => exact .chainsSound h (.untouched (by simp))
  | nudge t r delta =>
    exact .chainsSound h (.ite (.untouched (by simp)) (.ite (.untouched (by simp)) (.untouched (by simp))))
  | close t tag cut => exact .chainsSound h (.ite (.untouched (by simp)) (.untouched (by simp)))
  | pictureWindow t w => exact .chainsSound h (execPictureWindow_enginesKept t w s)
  | pictureUnwindow t n => exact .chainsSound h (.ite (.untouched (by simp)) (.untouched (by simp)))
  | pictureBlank t on =>
    exact .chainsSound h (.next (.after (State.pictureResult_enginesKept _ _)
      (.after (State.moveClaims_enginesKept _ _ _) (s.arrive_enginesKept t))))
  | status t => exact .chainsSound h (.untouched (by simp))
  | malformedMessage t bytes n => exact .chainsSound h (.ite (.untouched (by simp)) (.untouched (by simp)))
  | hold t m => exact .chainsSound h (.ite (.untouched (by simp)) (.untouched (by simp)))
  | resume t => exact .chainsSound h (.untouched (by simp))
  | panelWindow t w => exact .chainsSound h (execPanelWindow_enginesKept t w s)
  | panelUnwindow t n => exact .chainsSound h (.ite (.untouched (by simp)) (.untouched (by simp)))
  | panelBlank t on =>
    exact .chainsSound h (.next (.after (State.moveClaims_enginesKept _ _ _) (s.arrive_enginesKept t)))
  | messageDiscarded t reason => exact .chainsSound h (.untouched (by simp))
  | outgoingMessageEnd => exact .chainsSound h (execOutgoingMessageEnd_enginesKept s)
  | fsyncEdge t => exact .chainsSound h (execFsyncEdge_enginesKept t h)
  | generatedFrameStart => exact .chainsSound h (execGeneratedFrameStart_enginesKept h)
  | holdoverEntry => exact .chainsSound h (execHoldoverEntry_enginesKept h)
  | holdExpired => exact .chainsSound h (.ite (.untouched (by simp)) (.untouched (by simp)))
  | problemFrames c => exact .chainsSound h (execProblemFrames_enginesKept c s)
  | compositionEnd => exact .chainsSound h (.ite (.untouched (by simp)) (.untouched (by simp)))
  | limitingEnd => exact .chainsSound h (.ite (.untouched (by simp)) (.untouched (by simp)))
  | emissionBlock => exact .chainsSound h (execEmissionBlock_enginesKept s)
  | commitPoint k => exact .chainsSound h (execCommitPoint_enginesKept k s)
  | latchPoint k => exact .chainsSound h (execLatchPoint_enginesKept k s)
  | frameBoundary c =>
    exact .chainsSound h (.ite (.untouched (by simp)) (.next
      (.after (State.serve_enginesKept _ c) (s.arrive_enginesKept _))))
  | echoEnd t c bits => exact .chainsSound h (execEchoEnd_enginesKept t c bits h)
  | echoOverdue c => exact .chainsSound h (execEchoOverdue_enginesKept c s)
  | loopLost t c =>
    exact .chainsSound h (.ite (.untouched (by simp)) (.next
      (.after (State.linkFailure_enginesKept _ c _) (s.arrive_enginesKept t))))
  | attemptBegin c => exact .chainsSound h (execAttemptBegin_enginesKept c s)
  | runningTimerExpiry c => exact .chainsSound h (execRunningTimerExpiry_enginesKept c s)
  | pollTick c => exact .chainsSound h (execPollTick_enginesKept c h)
  | conversionComplete code => exact .chainsSound h (.ite (.untouched (by simp)) (.untouched (by simp)))
  | snapshotHoldExpiry b => exact .chainsSound h (execSnapshotHoldExpiry_enginesKept b s)
  | echoBegin t c => exact .chainsSound h (execEchoBegin_enginesKept t c s)

/-- Settles O10: each command keeps every engine, but for the five that begin or end service or enumerate a chain afresh,
which leave the engines they change sound. -/
theorem chainEnginesStaySound : Obligations.ChainEnginesStaySound := by
  intro s u h hstep
  unfold step at hstep
  split at hstep
  · exact Host.Outcome.next.inj hstep ▸ h
  next c rest _ => exact exec_chainsSound c (s := { s with pending := rest }) ⟨h.eight, h.each, h.config⟩ u hstep

end Sys2Proof.Machine

namespace Sys2Proof.Machine

/-! # The frame boundary (R100 to R106) -/

/-! ## What the arbiter picks (R102, R104) -/

/-- With nothing in the STAGE source that R102 does not hold, a STAGE is not picked. -/
theorem takeStage_eq_none {held : Nat → Bool} {l : List StageEntry} (h : ∀ e ∈ l, held e.address = true) :
    takeStage held l = none := by
  induction l with
  | nil => rfl
  | cons e l ih =>
    obtain ⟨he, hl⟩ := List.forall_mem_cons.1 h
    simp [takeStage, he, ih hl]

/-- The first STAGE that R102 does not hold is picked. -/
theorem takeStage_eq_some {held : Nat → Bool} {before after : List StageEntry} {e : StageEntry}
    (h : ∀ y ∈ before, held y.address = true) (he : held e.address = false) :
    takeStage held (before ++ e :: after) = some (e, before ++ after) := by
  induction before with
  | nil => simp [takeStage, he]
  | cons y before ih =>
    obtain ⟨hy, hbefore⟩ := List.forall_mem_cons.1 h
    simp [takeStage, hy, ih hbefore]

theorem Chain.takeAged_direct {ch : Chain} {d : DirectRequest} (hd : ch.direct = some d)
    (hp : ∀ p, ch.poll = some p → p.age ≤ d.age) :
    ch.takeAged = some (.direct d.address d.kind, d.retry, { ch with direct := none }) := by
  cases h : ch.poll with
  | none => simp only [Chain.takeAged, hd, h]
  | some p => simp only [Chain.takeAged, hd, h, if_pos (hp p h)]

theorem Chain.takeAged_poll {ch : Chain} {p : PollRequest} (hp : ch.poll = some p)
    (hd : ∀ d, ch.direct = some d → d.age < p.age) :
    ch.takeAged = some (.poll p.address, p.retry, { ch with poll := none }) := by
  cases h : ch.direct with
  | none => simp only [Chain.takeAged, hp, h]
  | some d => simp only [Chain.takeAged, hp, h, if_neg (Nat.not_le.2 (hd d h))]

theorem Chain.aged_iff (ch : Chain) :
    ch.aged = true ↔ (∃ d, ch.direct = some d ∧ 16 ≤ d.age) ∨ ∃ p, ch.poll = some p ∧ 16 ≤ p.age := by
  cases hd : ch.direct <;> cases hp : ch.poll <;> simp [Chain.aged, hd, hp]

/-- R102 holds every STAGE that waits. -/
def Chain.AllHeld (ch : Chain) : Prop := ∀ e ∈ ch.staging, ch.holds e.address

/-- With no LATCH waiting, a DIRECT or POLL goes where one is of age 16, or where no STAGE may go (R104). -/
theorem Chain.pick_aged {ch : Chain} (hlatch : ch.latchSource = []) (h : ch.aged = true ∨ ch.AllHeld) :
    ch.pick = ch.takeAged := by
  by_cases haged : ch.aged = true
  · simp only [Chain.pick, hlatch, if_pos haged]
  · have hnone : takeStage ch.stageInFlight ch.staging = none :=
      takeStage_eq_none fun e he => (ch.stageInFlight_iff _).2 ((h.resolve_left haged) e he)
    simp only [Chain.pick, hlatch, if_neg haged, hnone]

/-- With no LATCH waiting and no request of age 16, the first STAGE that R102 does not hold goes, and ages those
requests (R104, R105). -/
theorem Chain.pick_stage {ch : Chain} {before after : List StageEntry} {e : StageEntry} (hlatch : ch.latchSource = [])
    (haged : ch.aged = false) (hstaging : ch.staging = before ++ e :: after)
    (hbefore : ∀ y ∈ before, ch.holds y.address) (he : ¬ ch.holds e.address) :
    ch.pick = some (.stage e, e.retry, { ch with
      staging := before ++ after
      direct := ch.direct.map fun d => { d with age := older d.age }
      poll := ch.poll.map fun p => { p with age := older p.age } }) := by
  have htake : takeStage ch.stageInFlight ch.staging = some (e, before ++ after) := by
    rw [hstaging]
    exact takeStage_eq_some (fun y hy => (ch.stageInFlight_iff _).2 (hbefore y hy))
      (by simpa using mt (ch.stageInFlight_iff _).1 he)
  simp only [Chain.pick, hlatch, haged, htake]
  rfl

/-! ## A frame boundary (R74, R100, R106) -/

theorem Chain.serve_sends {ch rest : Chain} {now : Nat} {x : Sent} {retry : Bool} (hfree : ch.lineFree ≤ now)
    (hroom : ch.inflight.length < 4) (h : ch.pickNext = some (x, retry, rest)) :
    ch.serve now = rest.granted now x retry := by
  rw [Chain.serve, if_pos ⟨hfree, hroom⟩, h]
  rfl

theorem Chain.serve_waits {ch : Chain} (h : 4 ≤ ch.inflight.length ∨ ch.pickNext = none) (now : Nat) :
    ch.serve now = ch := by
  unfold Chain.serve
  split
  next hopen => rw [h.resolve_left (Nat.not_le.2 hopen.2)]
  next => rfl

/-- At a frame boundary of a chain in use the line is served. -/
theorem exec_frameBoundary {s : State} {k : Nat} (h : (s.chain k).state ≠ .unused) :
    exec (.frameBoundary k) s = .next { s with
      now := max s.now (s.chain k).lineFree
      chains := s.chains.set k ((s.chain k).serve (max s.now (s.chain k).lineFree)) } := by
  simp only [exec, execFrameBoundary, if_neg h, State.serve, State.updChain_eq]
  rfl

/-- Where nothing may be sent, only time passes. -/
theorem exec_frameBoundary_waits {s : State} {k : Nat} (hused : (s.chain k).state ≠ .unused)
    (h : 4 ≤ (s.chain k).inflight.length ∨ (s.chain k).pickNext = none) :
    exec (.frameBoundary k) s = .next { s with now := max s.now (s.chain k).lineFree } := by
  rw [exec_frameBoundary hused, Chain.serve_waits h, s.set_chain_same]

/-- What is picked is sent. -/
theorem exec_frameBoundary_grants {s : State} {k : Nat} {x : Sent} {retry : Bool} {rest : Chain}
    (hused : (s.chain k).state ≠ .unused) (hroom : (s.chain k).inflight.length < 4)
    (h : (s.chain k).pickNext = some (x, retry, rest)) :
    exec (.frameBoundary k) s = .next { s with
      now := max s.now (s.chain k).lineFree
      chains := s.chains.set k (rest.granted (max s.now (s.chain k).lineFree) x retry) } := by
  rw [exec_frameBoundary hused, Chain.serve_sends (Nat.le_max_right _ _) hroom h]

theorem Chain.pickNext_running {ch : Chain} (h : ch.state = .running) : ch.pickNext = ch.pick := if_pos h

theorem Chain.pickNext_attempt {ch : Chain} (h : ch.state ≠ .running) :
    ch.pickNext = ch.resend.map fun x => (x, true, { ch with resend := none }) := if_neg h

/-- Settles O52. -/
theorem arbiterGrantsInOrder : Obligations.ArbiterGrantsInOrder := by
  intro k s ch n grants
  refine ⟨fun hunused => if_pos hunused, fun hused hidle => ?_, fun x hused hstate hroom hx => ?_, fun hr hroom => ?_⟩
  · refine exec_frameBoundary_waits hused (hidle.symm.imp_right fun ⟨hstate, hx⟩ => ?_)
    rw [Chain.pickNext_attempt hstate, hx]
    rfl
  · refine exec_frameBoundary_grants hused hroom ?_
    rw [Chain.pickNext_attempt hstate, hx]
    rfl
  have hused : ch.state ≠ .unused := by simp [hr]
  have sends {x : Sent} {retry : Bool} {rest : Chain} (h : ch.pick = some (x, retry, rest)) : grants x retry rest :=
    exec_frameBoundary_grants hused hroom ((Chain.pickNext_running hr).trans h)
  refine ⟨fun l rest hl => sends (by simp only [Chain.pick, hl]),
    fun hl => ⟨fun d hd hp hgo => ?_, fun p hp hd hgo => ?_, fun before e after hs hb he hd hp => ?_,
      fun hd hp hs => ?_⟩⟩
  · refine sends ((Chain.pick_aged hl (hgo.imp_left fun h => ?_)).trans (Chain.takeAged_direct hd hp))
    exact ch.aged_iff.2 (.inl ⟨d, hd, h⟩)
  · refine sends ((Chain.pick_aged hl (hgo.imp_left fun h => ?_)).trans (Chain.takeAged_poll hp hd))
    exact ch.aged_iff.2 (.inr ⟨p, hp, h⟩)
  · have hyoung : ch.aged = false := by
      rw [← Bool.not_eq_true, ch.aged_iff]
      rintro (⟨d, hdir, hage⟩ | ⟨p, hpoll, hage⟩)
      · exact absurd (hd d hdir) (Nat.not_lt.2 hage)
      · exact absurd (hp p hpoll) (Nat.not_lt.2 hage)
    exact sends (Chain.pick_stage hl hyoung hs hb he)
  · refine exec_frameBoundary_waits hused (.inr ((Chain.pickNext_running hr).trans ?_))
    rw [Chain.pick_aged hl (.inr hs)]
    simp only [Chain.takeAged, hd, hp]

end Sys2Proof.Machine

namespace Sys2Proof.Machine

/-! # Link failures (R85, R88 to R90, R103, R121, R122) -/

/-! ## A chain that leaves RUNNING, and an attempt that fails -/

theorem State.recover_leavesRunning {s : State} {k : Nat} (hr : (s.chain k).state = .running) (cause : Cause) :
    LeavesRunning s k cause (.next (s.recover k cause)) := by
  have hchain : (s.dropDirect k).chain k = s.chain k := State.chain_eq_of_chains (by simp) k
  refine ⟨if (s.chain k).directOutstanding then s.directAnswered k .linkError .none else s.system,
    fun h => if_pos ((Chain.directOutstanding_iff s k).2 h),
    fun h => if_neg (mt (Chain.directOutstanding_iff s k).1 h), ?_⟩
  have hleft : ((s.chain k).leftFrame || decide ((s.chain k).state = .running)) = true := by simp [hr]
  rw [State.recover_eq, State.updChain_eq, hchain, Chain.recovered_eq, hleft, State.dropDirect_eq]
  rfl

theorem State.failAttempt_attemptFails (s : State) (k : Nat) (cause : Cause) :
    AttemptFails s k cause (.next (s.failAttempt k cause)) := by
  refine ⟨fun h => ?_, fun h => ?_⟩
  · rw [State.failAttempt_again h]
    rfl
  · rw [State.failAttempt_last h]
    rfl

theorem State.linkFailure_running {s : State} {k : Nat} (hr : (s.chain k).state = .running) (cause : Cause) :
    s.linkFailure k cause = s.recover k cause := if_pos hr

theorem State.linkFailure_attempt {s : State} {k : Nat} (hr : (s.chain k).state ≠ .running)
    (ha : (s.chain k).attempt ≠ none) (cause : Cause) : s.linkFailure k cause = s.failAttempt k cause := by
  rw [State.linkFailure, if_neg hr, if_pos (Option.isSome_iff_ne_none.2 ha)]

theorem State.linkFailure_ignored {s : State} {k : Nat} (hr : (s.chain k).state ≠ .running)
    (ha : (s.chain k).attempt = none) (cause : Cause) : s.linkFailure k cause = s := by
  rw [State.linkFailure, if_neg hr, ha]
  rfl

/-- What a mismatch, an overdue echo or a lost loop does. -/
theorem State.linkFailure_linkFails (s : State) (k : Nat) (cause : Cause) :
    LinkFails s k cause (.next (s.linkFailure k cause)) := by
  refine ⟨fun hr => ?_, fun hr ha => ?_, fun hr ha => ?_⟩
  · rw [State.linkFailure_running hr]
    exact State.recover_leavesRunning hr cause
  · rw [State.linkFailure_attempt hr ha]
    exact s.failAttempt_attemptFails k cause
  · rw [State.linkFailure_ignored hr ha]

/-! ## ECHO BEGIN, ECHO OVERDUE, LOOP LOST and PROBLEM FRAMES -/

theorem Chain.checksEchoes_iff (ch : Chain) : ch.checksEchoes = true ↔ ch.state = .running ∨ ch.attempt ≠ none := by
  simp [Chain.checksEchoes, Option.isSome_iff_ne_none]

theorem Chain.checksEchoes_eq_false {ch : Chain} (hr : ch.state ≠ .running) (ha : ch.attempt = none) :
    ch.checksEchoes = false := by simp [Chain.checksEchoes, hr, ha]

theorem exec_echoBegin_ignored {s : State} {k : Nat} (h : (s.chain k).checksEchoes = false) (t : Nat) :
    exec (.echoBegin t k) s = .next (s.onlyWaits t) := by
  have hchain : (s.arrive t).chain k = s.chain k := rfl
  simp only [exec, execEchoBegin, hchain, h, Bool.not_false, if_true]
  rfl

theorem exec_echoBegin_unexpected {s : State} {k : Nat} (h : (s.chain k).checksEchoes = true)
    (hflight : (s.chain k).inflight = []) (t : Nat) :
    exec (.echoBegin t k) s = .next ((s.onlyWaits t).linkFailure k .echoMismatch) := by
  have hchain : (s.arrive t).chain k = s.chain k := rfl
  simp only [exec, execEchoBegin, hchain, h, hflight]
  rfl

theorem exec_echoBegin_expected {s : State} {k : Nat} (h : (s.chain k).checksEchoes = true) {f : InFlight}
    {rest : List InFlight} (hflight : (s.chain k).inflight = f :: rest) (t : Nat) :
    exec (.echoBegin t k) s = .next { s.onlyWaits t with
      chains := s.chains.set k { s.chain k with inflight := { f with begun := true } :: rest } } := by
  have hchain : (s.arrive t).chain k = s.chain k := rfl
  simp only [exec, execEchoBegin, hchain, h, hflight, State.updChain_eq]
  rfl

/-- Settles O53. -/
theorem linkFailuresEndService : Obligations.LinkFailuresEndService := by
  intro t k s ch s1
  refine ⟨fun hr ha => exec_echoBegin_ignored (Chain.checksEchoes_eq_false hr ha) t,
    fun h => ⟨fun hnone => ?_, fun f rest hflight => exec_echoBegin_expected (ch.checksEchoes_iff.2 h) hflight t⟩,
    fun hnone => ?_, fun f rest hflight => ⟨fun hbegun => ?_, fun hbegun => ?_⟩, fun hearly => ?_, fun hlate => ?_,
    fun hr hp hcount => ?_, fun h => ?_⟩
  · rw [exec_echoBegin_unexpected (ch.checksEchoes_iff.2 h) hnone]
    exact s1.linkFailure_linkFails k _
  · simp only [exec, execEchoOverdue, show (s.chain k).inflight = [] from hnone]
  · simp only [exec, execEchoOverdue, show (s.chain k).inflight = f :: rest from hflight, hbegun, if_true]
  · simp only [exec, execEchoOverdue, show (s.chain k).inflight = f :: rest from hflight, hbegun]
    exact State.linkFailure_linkFails _ k _
  · exact if_pos hearly
  · have hlost : exec (.loopLost t k) s = .next (s1.linkFailure k .loopLost) := if_neg (Nat.not_lt.2 hlate)
    rw [hlost]
    exact s1.linkFailure_linkFails k _
  · have hthird : exec (.problemFrames k) s = .next (s.recover k .problemFrames) :=
      if_pos ⟨hr, hp, Nat.succ_le_succ hcount⟩
    rw [hthird]
    exact State.recover_leavesRunning hr _
  · refine if_neg fun ⟨hr, hp, hcount⟩ => ?_
    rcases h with h | h | h
    · exact h hr
    · exact absurd (h.symm.trans hp) nofun
    · exact absurd h (Nat.not_lt.2 (Nat.le_of_succ_le_succ hcount))

end Sys2Proof.Machine

namespace Sys2Proof.Machine

/-! # Echoes that are damaged or no match (R85 to R91) -/

/-! ## The verdict (R85 to R91) -/

theorem headerMatches_iff (f : InFlight) (bits : List Bool) : headerMatches f bits = true ↔
    bitField bits 0 4 = f.sent.kindCode ∧ bitField bits 4 2 = f.tag ∧ bitField bits 6 6 = f.sent.address := by
  simp [headerMatches, and_assoc]

theorem headerMatches_eq_false_iff (f : InFlight) (bits : List Bool) : headerMatches f bits = false ↔
    ¬ (bitField bits 0 4 = f.sent.kindCode ∧ bitField bits 4 2 = f.tag ∧ bitField bits 6 6 = f.sent.address) := by
  rw [← headerMatches_iff, Bool.not_eq_true]

/-- The echo of another frame, of a frame with another header, and of a LATCH with too many latches is a mismatch (R88,
R89, R91). -/
theorem Chain.judge_mismatch {ch : Chain} {f : InFlight} {bits body : List Bool}
    (hb : body = bits.take (f.sent.bits - 8))
    (h : echoOfAnother f bits = true ∨ (body.length = f.sent.bits - 8 ∧ crcRight body = true ∧
      (headerMatches f body = false ∨ ∃ m, f.sent = .latch m ∧ ch.expectedLatches m < bitField body 20 6))) :
    ch.judge f bits = .mismatch := by
  rcases ch.judge_cases f bits body hb with ⟨-, hj⟩ | ⟨hown, hbad, -⟩ | ⟨hown, -, -, hverdict⟩
  · exact hj
  · rcases h with h | ⟨hlen, hcrc, -⟩
    · exact absurd (hown.symm.trans h) nofun
    · rcases hbad with hbad | hbad
      · omega
      · exact absurd (hbad.symm.trans hcrc) nofun
  · have tooMany (hheader : headerMatches f body = true) :
        ∃ m, f.sent = .latch m ∧ ch.expectedLatches m < bitField body 20 6 := by
      obtain ⟨-, -, hwrong⟩ := h.resolve_left fun h => absurd (hown.symm.trans h) nofun
      exact hwrong.resolve_left fun hno => absurd (hheader.symm.trans hno) nofun
    rcases hverdict with ⟨-, hj⟩ | ⟨hheader, hack, -⟩ | ⟨hheader, -, hj⟩
    · exact hj
    · obtain ⟨m, hsent, -⟩ := tooMany hheader
      rw [hsent] at hack
      exact absurd hack nofun
    · obtain ⟨m, hsent, hmany⟩ := tooMany hheader
      rw [hj, hsent]
      exact if_pos (decide_eq_true hmany)

/-- An echo that is no other frame's is damaged where it is short, its CRC wrong, or its ack flag missing (R86). -/
theorem Chain.judge_damaged {ch : Chain} {f : InFlight} {bits body : List Bool}
    (hb : body = bits.take (f.sent.bits - 8))
    (hown : echoOfAnother f bits = false) (h : body.length < f.sent.bits - 8 ∨ crcRight body = false ∨
      (headerMatches f body = true ∧ (readReply f.sent body).unacknowledged = true)) :
    ch.judge f bits = .damaged := by
  rcases ch.judge_cases f bits body hb with ⟨hother, -⟩ | ⟨-, -, hj⟩ | ⟨-, hlen, hcrc, hverdict⟩
  · exact absurd (hother.symm.trans hown) nofun
  · exact hj
  · obtain ⟨hheader, hack⟩ := (h.resolve_left (by omega)).resolve_left fun hno => absurd (hno.symm.trans hcrc) nofun
    rcases hverdict with ⟨hno, -⟩ | ⟨-, -, hj⟩ | ⟨-, hacked, -⟩
    · exact absurd (hno.symm.trans hheader) nofun
    · exact hj
    · exact absurd (hacked.symm.trans hack) nofun

/-! ## A mismatch (R88, R89) -/

theorem exec_echoEnd_ignored {s : State} {k : Nat} (h : (s.chain k).checksEchoes = false) (t : Nat) (bits : List Bool) :
    exec (.echoEnd t k bits) s = .next (s.onlyWaits t) := by
  have hchain : (s.arrive t).chain k = s.chain k := rfl
  simp only [exec, execEchoEnd, hchain, h, Bool.not_false, if_true]
  rfl

/-- What arrived is the echo of no frame in flight. -/
def Chain.Mismatched (ch : Chain) (bits : List Bool) : Prop :=
  ch.inflight = [] ∨ ∃ f rest, ch.inflight = f :: rest ∧ ch.judge f bits = .mismatch

theorem exec_echoEnd_mismatch {s : State} {k : Nat} {bits : List Bool} (hchecks : (s.chain k).checksEchoes = true)
    (h : (s.chain k).Mismatched bits) (t : Nat) :
    exec (.echoEnd t k bits) s = .next (((s.onlyWaits t).linkFailure k .echoMismatch).serve k) := by
  have hchain : (s.arrive t).chain k = s.chain k := rfl
  rcases h with hnone | ⟨f, rest, hflight, hj⟩
  · simp only [exec, execEchoEnd, State.checkEcho, hchain, hchecks, hnone]
    rfl
  · simp only [exec, execEchoEnd, State.checkEcho, hchain, hchecks, hflight, hj]
    rfl

/-- A chain that has left RUNNING has nothing to send. -/
theorem State.recover_serve {s : State} {k : Nat} (hr : (s.chain k).state = .running) (cause : Cause) :
    (s.recover k cause).serve k = s.recover k cause := by
  have hk : k < (s.dropDirect k).chains.length := by simpa using State.lt_chains_of_used (s := s) (by simp [hr])
  have hchain : (s.recover k cause).chain k = (s.chain k).recovered s.now cause := by
    rw [State.recover_eq, State.chain_queueReport, State.chain_updChain_same _ _ _ hk,
      State.chain_eq_of_chains (s := s) (by simp)]
  refine State.serve_idle ?_ ?_ <;> rw [hchain, Chain.recovered_eq]
  dsimp only
  split <;> exact nofun

theorem exec_echoEnd_leavesRunning {s : State} {k : Nat} {bits : List Bool} (hr : (s.chain k).state = .running)
    (h : (s.chain k).Mismatched bits) (t : Nat) :
    LeavesRunning (s.onlyWaits t) k .echoMismatch (exec (.echoEnd t k bits) s) := by
  have hchain : (s.onlyWaits t).chain k = s.chain k := rfl
  rw [exec_echoEnd_mismatch ((s.chain k).checksEchoes_iff.2 (.inl hr)) h, State.linkFailure_running (hchain ▸ hr),
    State.recover_serve (hchain ▸ hr)]
  exact State.recover_leavesRunning (hchain ▸ hr) _

/-- A chain in an attempt is one of the part's chains. -/
theorem State.lt_chains_of_attempt {s : State} {k : Nat} (h : (s.chain k).attempt ≠ none) : k < s.chains.length :=
  State.lt_chains_of_ne fun hk => h (by simp [hk, Chain.powerOn])

theorem exec_echoEnd_attemptFails {s : State} {k : Nat} {bits : List Bool} (hr : (s.chain k).state ≠ .running)
    (ha : (s.chain k).attempt ≠ none) (h : (s.chain k).Mismatched bits) (t : Nat) :
    AttemptFails (s.onlyWaits t) k .echoMismatch (exec (.echoEnd t k bits) s) := by
  have hchain : (s.onlyWaits t).chain k = s.chain k := rfl
  rw [exec_echoEnd_mismatch ((s.chain k).checksEchoes_iff.2 (.inr ha)) h,
    State.linkFailure_attempt (hchain ▸ hr) (hchain ▸ ha),
    State.failAttempt_serve (s := s.onlyWaits t) (State.lt_chains_of_attempt ha) hr]
  exact State.failAttempt_attemptFails _ k _

/-! ## A damaged echo (R86, R87) -/

/-- The engine whose oldest frame's echo came back damaged: counted, and the frame gone from the list. -/
def Chain.heardDamaged (ch : Chain) (rest : List InFlight) : Chain :=
  { ch with inflight := rest, damaged := min (ch.damaged + 1) 65535 }

/-- The part at moment `t` with that engine. -/
def State.heardDamaged (s : State) (t k : Nat) (rest : List InFlight) : State :=
  { s.onlyWaits t with chains := s.chains.set k ((s.chain k).heardDamaged rest) }

theorem State.heardDamaged_chain {s : State} {k : Nat} (hk : k < s.chains.length) (t : Nat) (rest : List InFlight) :
    (s.heardDamaged t k rest).chain k = (s.chain k).heardDamaged rest := getD_set_self _ _ _ _ hk

theorem State.heardDamaged_chains_set (s : State) (t k : Nat) (rest : List InFlight) (ch : Chain) :
    (s.heardDamaged t k rest).chains.set k ch = s.chains.set k ch := List.set_set ..

/-- The frame of a damaged echo is sent again once, then given up, and the line is served. -/
theorem exec_echoEnd_damaged {s : State} {k : Nat} {bits : List Bool} {f : InFlight} {rest : List InFlight}
    (hchecks : (s.chain k).checksEchoes = true) (hflight : (s.chain k).inflight = f :: rest)
    (hj : (s.chain k).judge f bits = .damaged) (t : Nat) :
    exec (.echoEnd t k bits) s = .next (if f.retry = true then ((s.heardDamaged t k rest).giveUp k f.sent).serve k
      else State.serve { s.onlyWaits t with
        chains := s.chains.set k (((s.chain k).heardDamaged rest).requeue f.sent) } k) := by
  have hchain : (s.arrive t).chain k = s.chain k := rfl
  have hheard : (s.arrive t).updChain k (fun ch =>
      { ch with inflight := ch.inflight.drop 1, damaged := sat16 ch.damaged }) = s.heardDamaged t k rest := by
    rw [State.updChain_eq, hchain, hflight]
    rfl
  have hk := State.lt_chains_of_flight hflight
  have hagain : (s.heardDamaged t k rest).updChain k (fun ch => ch.requeue f.sent) = { s.onlyWaits t with
      chains := s.chains.set k (((s.chain k).heardDamaged rest).requeue f.sent) } := by
    rw [State.updChain_eq, s.heardDamaged_chain hk, State.heardDamaged_chains_set]
    rfl
  simp only [exec, execEchoEnd, State.checkEcho, State.echoDamaged, hchain, hchecks, hflight, hj, hheard, hagain,
    Bool.not_true, Bool.false_eq_true, if_false]
  split <;> rfl

/-! ## A frame given up (R87) -/

theorem Chain.forgetGroups_eq (ch : Chain) (mask : BitVec 8) :
    ch.forgetGroups mask = { ch with mirror := ch.mirror.map (forgotten mask) } := by
  unfold Chain.forgetGroups
  congr 1
  refine List.map_congr_left fun ⟨assigned, group, _, _, _, _, _, _, _, _, _⟩ _ => ?_
  cases group with
  | none => simp [forgotten]
  | some g => cases assigned <;> cases hg : mask.getLsbD g <;> simp [forgotten, hg]

/-- The engine of a RUNNING chain that has given up a frame: the records it staged or latched are unknown, its group is
given up, and the frame period is a problem period (R87, R98, R103). -/
def Chain.givenUp (ch : Chain) (counter : Nat) : Sent → Chain
  | .stage e => { ch with
      problem := true
      mirror := ch.mirror.modify e.address fun m => { m with known := false }
      settle := if e.frame = counter then ch.settle.modify e.group fun x => { x with givenUp := true } else ch.settle }
  | .latch m => { ch with problem := true, mirror := ch.mirror.map (forgotten m) }
  | .poll _ | .direct _ _ | .assign _ _ | .clear => { ch with problem := true }

/-- The system port when chain `k` has given up a frame: a DIRECT command is answered LINK ERROR (R87, R112). -/
def State.giveUpPort (s : State) (k : Nat) : Sent → SystemPort
  | .direct _ _ => s.directAnswered k .linkError .none
  | .stage _ | .latch _ | .poll _ | .assign _ _ | .clear => s.system

theorem Chain.markProblem_running {ch : Chain} (hr : ch.state = .running) :
    ch.markProblem = { ch with problem := true } := by
  simp [Chain.markProblem, hr]

theorem Chain.giveUpStage_eq (ch : Chain) (e : StageEntry) (counter : Nat) :
    ch.giveUpStage e counter = { ch with
      mirror := ch.mirror.modify e.address fun m => { m with known := false }
      settle := if e.frame = counter then ch.settle.modify e.group fun x => { x with givenUp := true }
        else ch.settle } := by
  unfold Chain.giveUpStage
  dsimp only
  split <;> rfl

theorem State.giveUp_running {s : State} {k : Nat} {x : Sent} (hr : (s.chain k).state = .running)
    (hx : x.ofAttempt = false) : s.giveUp k x = { s with
      system := s.giveUpPort k x
      chains := s.chains.set k ((s.chain k).givenUp s.timebase.counter x) } := by
  cases x with
  | stage e =>
    rw [State.giveUp, State.updChain_eq, Chain.giveUpStage_eq, Chain.markProblem_running]
    · rfl
    · exact hr
  | latch m =>
    rw [State.giveUp, State.updChain_eq, Chain.forgetGroups_eq, Chain.markProblem_running]
    · rfl
    · exact hr
  | poll a =>
    rw [State.giveUp, State.updChain_eq, Chain.markProblem_running hr]
    rfl
  | direct a q =>
    rw [State.giveUp, State.fixDirect_eq, State.updChain_eq]
    refine congrArg (fun ch => { s with
      system := s.directAnswered k .linkError .none, chains := s.chains.set k ch }) (Chain.markProblem_running hr)
  | assign a g => exact absurd hx nofun
  | clear => exact absurd hx nofun

/-- An attempt whose CLEAR or ASSIGN is given up fails (R87, R119). -/
theorem State.giveUp_attempt {x : Sent} (hx : x.ofAttempt = true) (s : State) (k : Nat) :
    s.giveUp k x = s.failAttempt k .linkDamage := by
  cases x with
  | assign a g => rfl
  | clear => rfl
  | stage e => exact absurd hx nofun
  | latch m => exact absurd hx nofun
  | poll a => exact absurd hx nofun
  | direct a q => exact absurd hx nofun

/-- A CLEAR or ASSIGN waits for the next frame boundary (R87, R100). -/
theorem Chain.requeue_attempt {x : Sent} (hx : x.ofAttempt = true) (ch : Chain) :
    ch.requeue x = { ch with resend := some x } := by
  cases x with
  | assign a g => rfl
  | clear => rfl
  | stage e => exact absurd hx nofun
  | latch m => exact absurd hx nofun
  | poll a => exact absurd hx nofun
  | direct a q => exact absurd hx nofun

/-- Settles O54: the verdict on the echo decides, and each verdict has one effect on a RUNNING chain and one on an
attempt. -/
theorem damagedEchoesAreSentAgainOnce : Obligations.DamagedEchoesAreSentAgainOnce := by
  intro t k bits s ch s1
  refine ⟨fun hr ha => exec_echoEnd_ignored (Chain.checksEchoes_eq_false hr ha) t bits,
    fun hr hnone => exec_echoEnd_leavesRunning hr (.inl hnone) t,
    fun hr ha hnone => exec_echoEnd_attemptFails hr ha (.inl hnone) t,
    fun f rest body hflight hbody another hanother => ?_⟩
  have hk : k < s.chains.length := State.lt_chains_of_flight hflight
  have hother : another ↔ echoOfAnother f bits = true := by
    rw [hanother, echoOfAnother_iff]
    simp only [headerMatches_eq_false_iff]
  have hown (h : ¬ another) : echoOfAnother f bits = false := by rwa [← Bool.not_eq_true, ← hother]
  refine ⟨fun hbad => ?_, fun hr ha hsent hthis hbad => ?_, fun hr hsent hthis hbad => ?_⟩
  · have hmismatch : ch.Mismatched bits := .inr ⟨f, rest, hflight, Chain.judge_mismatch hbody
      (hbad.imp hother.1 fun ⟨hlen, hcrc, hwrong⟩ =>
        ⟨hlen, hcrc, hwrong.imp_left (headerMatches_eq_false_iff f body).2⟩)⟩
    exact ⟨fun hr => exec_echoEnd_leavesRunning hr hmismatch t,
      fun hr ha => exec_echoEnd_attemptFails hr ha hmismatch t⟩
  · intro cut
    have hdamaged : ch.judge f bits = .damaged := Chain.judge_damaged hbody (hown hthis) (hbad.imp_right .inl)
    rw [exec_echoEnd_damaged (ch.checksEchoes_iff.2 (.inr ha)) hflight hdamaged t, Chain.requeue_attempt hsent,
      State.giveUp_attempt hsent]
    refine ⟨fun hfirst => ?_, fun hagain => ?_⟩
    · rw [if_neg (by simp [hfirst])]
      rfl
    · have hchain := s.heardDamaged_chain hk t rest
      rw [if_pos hagain, State.failAttempt_serve (by simpa [State.heardDamaged] using hk) (by rw [hchain]; exact hr)]
      exact State.failAttempt_attemptFails _ k _
  · intro cut port
    have hdamaged : ch.judge f bits = .damaged := Chain.judge_damaged hbody (hown hthis)
      (hbad.imp_right (.imp_right fun ⟨hkind, htag, haddress, hack⟩ =>
        ⟨(headerMatches_iff f body).2 ⟨hkind, htag, haddress⟩, hack⟩))
    rw [exec_echoEnd_damaged (ch.checksEchoes_iff.2 (.inl hr)) hflight hdamaged t]
    cases hretry : f.retry with
    | false =>
      refine ⟨cut.requeue f.sent, s.system, rfl, fun _ => ⟨rfl, ?_⟩, nofun, nofun⟩
      cases hx : f.sent <;> rfl
    | true =>
      have hchain := s.heardDamaged_chain hk t rest
      refine ⟨cut.givenUp s.timebase.counter f.sent, s.giveUpPort k f.sent, ?_, nofun, fun _ => ?_, fun _ => ?_⟩
      · have hport : (s.heardDamaged t k rest).giveUpPort k f.sent = s.giveUpPort k f.sent := by cases f.sent <;> rfl
        rw [if_pos rfl, State.giveUp_running (by rw [hchain]; exact hr) hsent, hchain, hport,
          State.heardDamaged_chains_set]
        rfl
      · cases hx : f.sent <;> rfl
      · cases hx : f.sent <;> rfl

end Sys2Proof.Machine

namespace Sys2Proof.Machine

/-! # Accepted echoes of a RUNNING chain (R91, R92, R94, R99, R112, R127) -/

theorem Chain.acceptStage_eq (ch : Chain) (e : StageEntry) (counter : Nat) :
    ch.acceptStage e counter = { ch with
      mirror := ch.mirror.modify e.address fun m => m.takeStage e
      settle := if e.frame = counter then ch.settle.modify e.group fun x => { x with count := x.count - 1 }
        else ch.settle } := by
  unfold Chain.acceptStage
  dsimp only
  split <;> rfl

theorem Chain.takeLatched_running {ch : Chain} (hr : ch.state = .running) :
    ch.takeLatched = { ch with latched := true } := by
  simp [Chain.takeLatched, hr]

/-- An accepted LATCH with the expected count sets the latched mark (R127). -/
theorem State.acceptLatch_full {s : State} {k n : Nat} {m : BitVec 8} (hr : (s.chain k).state = .running)
    (hn : n = (s.chain k).expectedLatches m) :
    s.acceptLatch k m n = { s with chains := s.chains.set k { s.chain k with latched := true } } := by
  have hmark : s.updChain k Chain.takeLatched =
      { s with chains := s.chains.set k { s.chain k with latched := true } } := by
    rw [State.updChain_eq, Chain.takeLatched_running hr]
  rw [← hmark]
  exact if_neg (Nat.not_lt.2 hn.ge)

/-- One with a lower count is a shortfall besides: its groups are unknown, the frame period is a problem period, and it
is reported (R91). -/
theorem State.acceptLatch_short {s : State} {k n : Nat} {m : BitVec 8} (hr : (s.chain k).state = .running)
    (hn : n < (s.chain k).expectedLatches m) :
    s.acceptLatch k m n = ({ s with chains := s.chains.set k { s.chain k with
      latched := true, problem := true, mirror := (s.chain k).mirror.map (forgotten m) } } : State).queueReport
        [⟨.chain k 0, .latchShortfall, .active, false, false, none, s.timebase.counter⟩] := by
  have hengine : ((s.chain k).takeLatched.forgetGroups m).markProblem = { s.chain k with
      latched := true, problem := true, mirror := (s.chain k).mirror.map (forgotten m) } := by
    rw [Chain.takeLatched_running hr, Chain.forgetGroups_eq, Chain.markProblem_running]
    exact hr
  have hshort : s.acceptLatch k m n = ((s.updChain k Chain.takeLatched).updChain k fun ch =>
      (ch.forgetGroups m).markProblem).chainReport k 0 .latchShortfall .active := if_pos hn
  rw [hshort, State.updChain_updChain, State.updChain_eq]
  simp only [Function.comp_apply, hengine]
  rfl

/-- Settles O55. -/
theorem acceptedEchoesAreHandedOn : Obligations.AcceptedEchoesAreHandedOn := by
  intro t k bits f rest r s ch s1 cut hr hflight hjudge
  have hchain := State.heard_chain (State.lt_chains_of_flight hflight) t rest
  have hcut : ((s.heard t k rest).chain k).state = .running := by rw [hchain]; exact hr
  have hexpected (m : BitVec 8) : ((s.heard t k rest).chain k).expectedLatches m = ch.expectedLatches m := by
    rw [hchain]
    rfl
  rw [exec_echoEnd_accepted t (ch.checksEchoes_iff.2 (.inl hr)) hflight hjudge]
  refine ⟨fun e hsent => ?_, fun m n hsent hreply => ⟨fun hn => ?_, fun hn => ?_⟩, fun a code hsent => ?_,
    fun a kind revision channels hsent hreply => ?_⟩
  · rw [hsent, State.acceptReply, State.updChain_eq, hchain, State.heard_chains_set, Chain.acceptStage_eq]
    rfl
  · rw [hsent, hreply, State.acceptReply, State.acceptLatch_full hcut (hn.trans (hexpected m).symm), hchain,
      State.heard_chains_set]
    rfl
  · rw [hsent, hreply, State.acceptReply, State.acceptLatch_short hcut ((hexpected m).symm ▸ hn), hchain,
      State.heard_chains_set]
    rfl
  · rw [hsent, State.acceptReply, State.fixDirect_eq, State.updChain_eq, hchain, State.heard_chains_set]
    rfl
  · rw [hsent, hreply, State.acceptReply, State.fixDirect_eq]
    rfl

end Sys2Proof.Machine

namespace Sys2Proof.Machine

/-! # The echo of an undamaged frame (R74, R76, R88, R91, R191, R192) -/

/-! ## Fields of a frame (R191, Table 12-1) -/

/-- A field that begins past the first bits stands in the rest. -/
@[simp] theorem bitField_append_right {a b : List Bool} {start : Nat} (h : a.length ≤ start) (width : Nat) :
    bitField (a ++ b) start width = bitField b (start - a.length) width := by
  rw [bitField, List.drop_append, List.drop_of_length_le h, List.nil_append, bitField]

@[simp] theorem bitField_cons {start : Nat} (h : 0 < start) (b : Bool) (bits : List Bool) (width : Nat) :
    bitField (b :: bits) start width = bitField bits (start - 1) width :=
  bitField_append_right (a := [b]) h width

/-- The first field is read back. -/
@[simp] theorem bitField_toBits_append (width n : Nat) (rest : List Bool) :
    bitField (toBits width n ++ rest) 0 width = n % 2 ^ width := by
  rw [bitField, List.drop_zero, List.take_left' (toBits_length width n), ofBits_toBits]

/-- The header of a frame: kind, tag and address. -/
def Sent.header (x : Sent) (tag : Nat) : List Bool := toBits 4 x.kindCode ++ toBits 2 tag ++ toBits 6 x.address

@[simp] theorem Sent.header_length (x : Sent) (tag : Nat) : (x.header tag).length = 12 := by simp [Sent.header]

theorem frameBits_eq (x : Sent) (tag : Nat) (r : Reply) : frameBits x tag r =
    x.header tag ++ (x.payload r ++ toBits 16 (crc16 (x.header tag ++ x.payload r)).toNat) := by
  rw [frameBits, withCrc, List.append_assoc]
  rfl

theorem crcRight_frameBits (x : Sent) (tag : Nat) (r : Reply) : crcRight (frameBits x tag r) = true :=
  crcRight_withCrc _

/-- The address of a frame that the part sends fits its six bits. -/
theorem Sent.address_lt {x : Sent} (h : x.wf = true) : x.address < 64 := by
  cases x with
  | stage e =>
    simp only [Sent.wf, Bool.and_eq_true, decide_eq_true_eq] at h
    obtain ⟨⟨⟨haddress, -⟩, -⟩, -⟩ := h
    exact haddress.trans (by decide)
  | latch m => exact Nat.lt_succ_self 63
  | poll a => exact (of_decide_eq_true h).trans (by decide)
  | direct a q =>
    cases q with
    | trim code =>
      simp only [Sent.wf, Bool.and_eq_true, decide_eq_true_eq] at h
      exact h.1.trans (by decide)
    | ident => exact (of_decide_eq_true h).trans (by decide)
  | assign a g => exact Nat.lt_succ_self 63
  | clear => exact Nat.lt_succ_self 63

theorem Sent.kindCode_lt (x : Sent) : x.kindCode < 16 := by
  unfold Sent.kindCode
  split <;> decide

/-- A frame's own header is read back. -/
theorem headerMatches_frameBits {f : InFlight} (hwf : f.sent.wf = true) (htag : f.tag < 4) (r : Reply) :
    headerMatches f (frameBits f.sent f.tag r) = true := by
  have hkind : f.sent.kindCode % 16 = f.sent.kindCode := Nat.mod_eq_of_lt f.sent.kindCode_lt
  have haddress : f.sent.address % 64 = f.sent.address := Nat.mod_eq_of_lt (Sent.address_lt hwf)
  have htag' : f.tag % 4 = f.tag := Nat.mod_eq_of_lt htag
  rw [headerMatches_iff, frameBits_eq, Sent.header]
  simp [hkind, haddress, htag']

/-! ## Reply fields (Table 4-1, Table 12-1) -/

/-- The reply fields are those of the frame's kind, each within its width. -/
inductive Reply.Fits : Sent → Reply → Prop
  | stage (e : StageEntry) (acked : Bool) : Fits (.stage e) (.ack acked)
  | latch (mask : BitVec 8) {n : Nat} (h : n < 64) : Fits (.latch mask) (.latches n)
  | poll (a : Nat) (acked : Bool) {p : PollReply} (h : p.damagedFrames < 256) : Fits (.poll a) (.poll acked p)
  | assign (a : Nat) (group : Option Nat) (taken : Bool) : Fits (.assign a group) (.taken taken)
  | trim (a code : Nat) (acked : Bool) : Fits (.direct a (.trim code)) (.ack acked)
  | ident (a : Nat) (acked : Bool) {kind revision channels : Nat} (hk : kind < 256) (hr : revision < 256)
      (hc : channels < 32) : Fits (.direct a .ident) (.ident acked kind revision channels)
  | clear {n : Nat} (h : n < 64) : Fits .clear (.cleared n)

theorem Sent.blankReply_fits (x : Sent) : x.blankReply.Fits x := by
  cases x with
  | stage e => exact .stage e false
  | latch m => exact .latch m (by decide)
  | poll a => exact .poll a false (by decide)
  | direct a q =>
    cases q with
    | trim code => exact .trim a code false
    | ident => exact .ident a false (by decide) (by decide) (by decide)
  | assign a g => exact .assign a g false
  | clear => exact .clear (by decide)

/-- The payload fills the frame between header and CRC (Table 4-2). -/
theorem Reply.Fits.payload_length {x : Sent} {r : Reply} (h : r.Fits x) : (x.payload r).length + 36 = x.bits := by
  cases h with
  | stage e acked =>
    have hduties : (e.duties.flatMap (toBits 12)).length = 12 * e.duties.length := by
      simp [List.length_flatMap, Nat.mul_comm]
    simp only [Sent.payload, Sent.bits, List.length_append, List.length_cons, toBits_length, hduties]
    omega
  | latch m h => simp [Sent.payload, Sent.bits]
  | poll a acked h => simp [Sent.payload, Sent.bits]
  | assign a g taken => simp [Sent.payload, Sent.bits]
  | trim a code acked => simp [Sent.payload, Sent.bits]
  | ident a acked hk hr hc => simp [Sent.payload, Sent.bits]
  | clear h => simp [Sent.payload, Sent.bits]

/-- The reply fields are read back. -/
theorem Reply.Fits.readReply_frameBits {x : Sent} {r : Reply} (h : r.Fits x) (tag : Nat) :
    readReply x (frameBits x tag r) = r := by
  rw [frameBits_eq]
  cases h with
  | stage e acked => simp [readReply, Sent.payload, List.getElem?_append]
  | latch m h => simp [readReply, Sent.payload, Nat.mod_eq_of_lt h]
  | poll a acked h =>
    have hmask (m : BitVec 16) : m.toNat % 65536 = m.toNat := Nat.mod_eq_of_lt m.isLt
    simp [readReply, Sent.payload, hmask, Nat.mod_eq_of_lt h]
  | assign a g taken => simp [readReply, Sent.payload]
  | trim a code acked => simp [readReply, Sent.payload]
  | ident a acked hk hr hc =>
    simp [readReply, Sent.payload, Nat.mod_eq_of_lt hk, Nat.mod_eq_of_lt hr, Nat.mod_eq_of_lt hc]
  | clear h => simp [readReply, Sent.payload, Nat.mod_eq_of_lt h]

/-! ## What drivers write (R76 to R82) -/

/-- A driver whose revision and count of damaged frames fit their fields writes replies that do. -/
theorem Driver.pass_fits {d : Driver} (hd : d.damagedFrames ≤ 255 ∧ d.revision ≤ 255) {x : Sent} {r : Reply}
    (h : r.Fits x) : (d.pass x r).2.Fits x := by
  have hcount (n : Nat) : count63 n < 64 := by unfold count63; omega
  cases h with
  | stage e acked =>
    simp only [Driver.pass]
    split <;> exact .stage e _
  | latch m h =>
    simp only [Driver.pass]
    split
    · exact .latch m (hcount _)
    · exact .latch m h
  | poll a acked h =>
    simp only [Driver.pass]
    split
    · exact .poll a true (Nat.lt_succ_of_le hd.1)
    · exact .poll a acked h
  | assign a g taken => exact .assign a g _
  | trim a code acked =>
    simp only [Driver.pass]
    split <;> exact .trim a code _
  | ident a acked hk hr hc =>
    simp only [Driver.pass]
    split
    · exact .ident a true (by decide) (Nat.lt_succ_of_le hd.2) (by decide)
    · exact .ident a acked hk hr hc
  | clear h => exact .clear (hcount _)

/-- So do the drivers of a chain, one after another. -/
theorem passChain_fits {x : Sent} : ∀ {ds : List Driver} {r : Reply},
    (∀ d ∈ ds, d.damagedFrames ≤ 255 ∧ d.revision ≤ 255) → r.Fits x → (passChain ds x r).2.Fits x := by
  intro ds
  induction ds with
  | nil => exact fun _ h => h
  | cons d ds ih =>
    intro r hds h
    obtain ⟨hd, hrest⟩ := List.forall_mem_cons.1 hds
    exact ih hrest (Driver.pass_fits hd h)

/-- Settles O60: what comes back is whole, its CRC right and its header the frame's own, so the reply fields decide. -/
theorem undamagedEchoesAreRead : Obligations.UndamagedEchoesAreRead := by
  rintro ch f ds hwf htag hds r rfl
  have hfits : (loop ds f.sent).2.Fits f.sent := passChain_fits hds f.sent.blankReply_fits
  have hlen : (echoBits ds f.sent f.tag).length = f.sent.bits - 8 := by
    rw [echoBits, frameBits_eq, ← hfits.payload_length]
    simp only [List.length_append, Sent.header_length, toBits_length]
    omega
  have hheader : headerMatches f (echoBits ds f.sent f.tag) = true := headerMatches_frameBits hwf htag _
  have hreply : readReply f.sent (echoBits ds f.sent f.tag) = (loop ds f.sent).2 := hfits.readReply_frameBits f.tag
  have hwhole : echoBits ds f.sent f.tag = (echoBits ds f.sent f.tag).take (f.sent.bits - 8) :=
    (List.take_of_length_le hlen.le).symm
  have hcrc : crcRight (echoBits ds f.sent f.tag) = true := crcRight_frameBits _ _ _
  rcases ch.judge_cases f _ _ hwhole with ⟨hother, -⟩ | ⟨-, hbad, -⟩ | ⟨-, -, -, hverdict⟩
  · exact absurd ((echoOfAnother_of_header hheader).symm.trans hother) nofun
  · rcases hbad with hshort | hwrong
    · exact absurd hlen hshort.ne
    · exact absurd (hwrong.symm.trans hcrc) nofun
  · rw [hreply] at hverdict
    rcases hverdict with ⟨hwrong, -⟩ | ⟨-, hack, hj⟩ | ⟨-, hack, hj⟩
    · exact absurd (hwrong.symm.trans hheader) nofun
    · rw [hj, if_pos hack]
    · rw [hack, if_neg Bool.false_ne_true]
      exact hj

end Sys2Proof.Machine
